-- ==== Sys2Proof/Word.lean ====
section
/-! DEFINITION. The machine's words: a byte, a halfword and a 32-bit word are bit vectors with their
natural modular arithmetic (00_scope.md rules R9 and R10). -/

namespace Sys2Proof

/-- Eight bits: a CPU-8 register, one cell of memory. -/
abbrev Byte := BitVec 8

/-- Sixteen bits: a CPU-8 pair or address, a THUMB instruction, a CPU-32 IO register. -/
abbrev Half := BitVec 16

/-- Thirty-two bits: a CPU-32 register, address or ARM instruction. -/
abbrev Word := BitVec 32

end Sys2Proof
end

