-- ==== Sys2Proof/Syntax.lean ====
section
/-! DEFINITION. The abstract syntax of both instruction sets (30_encoding.md): one constructor of `Instr` per
row of spec/opcode_table.json, those with operands first. Operands are typed; no constructor holds raw bits, but
for the words of the undefined spaces, which the fault reports (R13). -/

namespace Sys2Proof

/-- Which decoder reads the bytes (R224): the CPU-8 one, or by CPSR.T the ARM or the THUMB one. -/
inductive Isa where
  | cpu8
  | arm
  | thumb
  deriving DecidableEq, Repr

/-- CPU-8 operand code `r` (R202): a register, or the byte at the address HL. -/
inductive R8 where
  | b | c | d | e | h | l | hlm | a
  deriving DecidableEq, Repr

/-- CPU-8 operand code `rr` (R202). -/
inductive RP where
  | bc | de | hl | sp
  deriving DecidableEq, Repr

/-- CPU-8 operand code `qq` of PUSH and POP (R202). -/
inductive QQ where
  | bc | de | hl | af
  deriving DecidableEq, Repr

/-- CPU-8 condition code `cc` (R202, R430). -/
inductive Cc where
  | nz | z | nc | c
  deriving DecidableEq, Repr

/-- CPU-8 operation code `ooo` of the 8-bit ALU group (R350). -/
inductive Alu8 where
  | add | adc | sub | sbc | and | xor | or | cp
  deriving DecidableEq, Repr

/-- CPU-8 rotate or shift code `y` of the CB table (R205). -/
inductive Rot8 where
  | rlc | rrc | rl | rr | sla | sra | swap | srl
  deriving DecidableEq, Repr

/-- A CPU-32 register number, R0 to R15 (R50). -/
abbrev RegNum := BitVec 4

/-- A THUMB 3-bit register field, R0 to R7 (R220). -/
abbrev LowReg := BitVec 3

/-- The fifteen conditions of R500; 0xF is no condition (R616). -/
inductive Cond where
  | eq | ne | cs | cc | mi | pl | vs | vc | hi | ls | ge | lt | gt | le | al
  deriving DecidableEq, Repr

/-- Shift types of R213. -/
inductive Shift where
  | lsl | lsr | asr | ror
  deriving DecidableEq, Repr

/-- The sixteen data-processing operations of R213. -/
inductive DpOp where
  | and | eor | sub | rsb | add | adc | sbc | rsc | tst | teq | cmp | cmn | orr | mov | bic | mvn
  deriving DecidableEq, Repr

/-- Fields every data-processing word shares (R211): condition, S, Rn, Rd. -/
structure Dp where
  cond : Cond
  s : Bool
  rn : RegNum
  rd : RegNum
  deriving DecidableEq, Repr

/-- As `Dp` for TST, TEQ, CMP and CMN, which are decoded only with S = 1 (R505). -/
structure DpTest where
  cond : Cond
  rn : RegNum
  rd : RegNum
  deriving DecidableEq, Repr

/-- Rotated immediate (R501). -/
structure Op2Imm where
  rot : BitVec 4
  imm : Byte
  deriving DecidableEq, Repr

/-- Register shifted by an immediate (R502). -/
structure Op2Shift where
  amount : BitVec 5
  kind : Shift
  rm : RegNum
  deriving DecidableEq, Repr

/-- Register shifted by a register (R503). -/
structure Op2RegShift where
  rs : RegNum
  kind : Shift
  rm : RegNum
  deriving DecidableEq, Repr

/-- BX (R612). -/
structure BranchExchange where
  cond : Cond
  rm : RegNum
  deriving DecidableEq, Repr

/-- MUL and MLA (R530, R531). -/
structure MulOps where
  cond : Cond
  s : Bool
  rd : RegNum
  rn : RegNum
  rs : RegNum
  rm : RegNum
  deriving DecidableEq, Repr

/-- The long multiplies (R532 to R535). -/
structure LongMulOps where
  cond : Cond
  s : Bool
  rdHi : RegNum
  rdLo : RegNum
  rs : RegNum
  rm : RegNum
  deriving DecidableEq, Repr

/-- SWP and SWPB (R590, R591). -/
structure SwapOps where
  cond : Cond
  rn : RegNum
  rd : RegNum
  rm : RegNum
  deriving DecidableEq, Repr

/-- Indexing bits and base and data registers of a single transfer (R560, R565). -/
structure Index where
  cond : Cond
  pre : Bool
  up : Bool
  wb : Bool
  rn : RegNum
  rd : RegNum
  deriving DecidableEq, Repr

/-- Halfword or signed transfer, register offset (R565). -/
structure HalfReg where
  ix : Index
  rm : RegNum
  deriving DecidableEq, Repr

/-- Halfword or signed transfer, immediate offset (R565): high and low nibble. -/
structure HalfImm where
  ix : Index
  hi : BitVec 4
  lo : BitVec 4
  deriving DecidableEq, Repr

/-- LDR, STR and their byte forms, immediate offset (R560). -/
structure XferImm where
  ix : Index
  offset : BitVec 12
  deriving DecidableEq, Repr

/-- LDR, STR and their byte forms, shifted register offset (R560). -/
structure XferReg where
  ix : Index
  op2 : Op2Shift
  deriving DecidableEq, Repr

/-- LDM and STM (R580). -/
structure BlockOps where
  cond : Cond
  pre : Bool
  up : Bool
  s : Bool
  wb : Bool
  rn : RegNum
  list : BitVec 16
  deriving DecidableEq, Repr

/-- B and BL (R610, R611). -/
structure BranchOps where
  cond : Cond
  offset : BitVec 24
  deriving DecidableEq, Repr

/-- SWI (R613); the comment is not interpreted. -/
structure SwiOps where
  cond : Cond
  comment : BitVec 24
  deriving DecidableEq, Repr

/-- MRS (R541), with the bits that should be zero. -/
structure MrsOps where
  cond : Cond
  spsr : Bool
  rd : RegNum
  sbz : BitVec 12
  deriving DecidableEq, Repr

/-- MSR from a register (R542), with the bits that should be zero. -/
structure MsrRegOps where
  cond : Cond
  spsr : Bool
  fields : BitVec 4
  sbz : Byte
  rm : RegNum
  deriving DecidableEq, Repr

/-- MSR from a rotated immediate (R543). -/
structure MsrImmOps where
  cond : Cond
  spsr : Bool
  fields : BitVec 4
  op2 : Op2Imm
  deriving DecidableEq, Repr

/-- Every instruction of the opcode table. CPU-8 names follow the map of R204 and R205, with `m` after a
memory operand: `ld_b_hlm` is LD B,(HL). -/
inductive Instr where
  | ld_bc_nn (nn : Half)
  | ld_b_n (n : Byte)
  | ld_nnm_sp (nn : Half)
  | ld_c_n (n : Byte)
  | stop (ignored : Byte)
  | ld_de_nn (nn : Half)
  | ld_d_n (n : Byte)
  | jr_e (e : Byte)
  | ld_e_n (n : Byte)
  | jr_nz_e (e : Byte)
  | ld_hl_nn (nn : Half)
  | ld_h_n (n : Byte)
  | jr_z_e (e : Byte)
  | ld_l_n (n : Byte)
  | jr_nc_e (e : Byte)
  | ld_sp_nn (nn : Half)
  | ld_hlm_n (n : Byte)
  | jr_c_e (e : Byte)
  | ld_a_n (n : Byte)
  | jp_nz_nn (nn : Half)
  | jp_nn (nn : Half)
  | call_nz_nn (nn : Half)
  | add_a_n (n : Byte)
  | jp_z_nn (nn : Half)
  | cbPrefix (op2 : Byte)
  | call_z_nn (nn : Half)
  | call_nn (nn : Half)
  | adc_a_n (n : Byte)
  | jp_nc_nn (nn : Half)
  | call_nc_nn (nn : Half)
  | sub_n (n : Byte)
  | jp_c_nn (nn : Half)
  | call_c_nn (nn : Half)
  | sbc_a_n (n : Byte)
  | ldh_nm_a (n : Byte)
  | and_n (n : Byte)
  | add_sp_e (e : Byte)
  | ld_nnm_a (nn : Half)
  | xor_n (n : Byte)
  | ldh_a_nm (n : Byte)
  | or_n (n : Byte)
  | ld_hl_sp_e (e : Byte)
  | ld_a_nnm (nn : Half)
  | cp_n (n : Byte)
  | armReservedCond (w : Word)
  | armBx (o : BranchExchange)
  | armMul (o : MulOps)
  | armMla (o : MulOps)
  | armUmull (o : LongMulOps)
  | armUmlal (o : LongMulOps)
  | armSmull (o : LongMulOps)
  | armSmlal (o : LongMulOps)
  | armSwp (o : SwapOps)
  | armSwpb (o : SwapOps)
  | armStrhReg (o : HalfReg)
  | armStrhImm (o : HalfImm)
  | armLdrhReg (o : HalfReg)
  | armLdrhImm (o : HalfImm)
  | armLdrsbReg (o : HalfReg)
  | armLdrsbImm (o : HalfImm)
  | armLdrshReg (o : HalfReg)
  | armLdrshImm (o : HalfImm)
  | armUndefStoreSignedReg (w : Word)
  | armUndefStoreSignedImm (w : Word)
  | armUndefMultiplySpace (w : Word)
  | armMrs (o : MrsOps)
  | armMsrReg (o : MsrRegOps)
  | armMsrImm (o : MsrImmOps)
  | armUndefCompareNoS (w : Word)
  | armAndImm (d : Dp) (op2 : Op2Imm)
  | armAndShift (d : Dp) (op2 : Op2Shift)
  | armAndRegShift (d : Dp) (op2 : Op2RegShift)
  | armEorImm (d : Dp) (op2 : Op2Imm)
  | armEorShift (d : Dp) (op2 : Op2Shift)
  | armEorRegShift (d : Dp) (op2 : Op2RegShift)
  | armSubImm (d : Dp) (op2 : Op2Imm)
  | armSubShift (d : Dp) (op2 : Op2Shift)
  | armSubRegShift (d : Dp) (op2 : Op2RegShift)
  | armRsbImm (d : Dp) (op2 : Op2Imm)
  | armRsbShift (d : Dp) (op2 : Op2Shift)
  | armRsbRegShift (d : Dp) (op2 : Op2RegShift)
  | armAddImm (d : Dp) (op2 : Op2Imm)
  | armAddShift (d : Dp) (op2 : Op2Shift)
  | armAddRegShift (d : Dp) (op2 : Op2RegShift)
  | armAdcImm (d : Dp) (op2 : Op2Imm)
  | armAdcShift (d : Dp) (op2 : Op2Shift)
  | armAdcRegShift (d : Dp) (op2 : Op2RegShift)
  | armSbcImm (d : Dp) (op2 : Op2Imm)
  | armSbcShift (d : Dp) (op2 : Op2Shift)
  | armSbcRegShift (d : Dp) (op2 : Op2RegShift)
  | armRscImm (d : Dp) (op2 : Op2Imm)
  | armRscShift (d : Dp) (op2 : Op2Shift)
  | armRscRegShift (d : Dp) (op2 : Op2RegShift)
  | armTstImm (d : DpTest) (op2 : Op2Imm)
  | armTstShift (d : DpTest) (op2 : Op2Shift)
  | armTstRegShift (d : DpTest) (op2 : Op2RegShift)
  | armTeqImm (d : DpTest) (op2 : Op2Imm)
  | armTeqShift (d : DpTest) (op2 : Op2Shift)
  | armTeqRegShift (d : DpTest) (op2 : Op2RegShift)
  | armCmpImm (d : DpTest) (op2 : Op2Imm)
  | armCmpShift (d : DpTest) (op2 : Op2Shift)
  | armCmpRegShift (d : DpTest) (op2 : Op2RegShift)
  | armCmnImm (d : DpTest) (op2 : Op2Imm)
  | armCmnShift (d : DpTest) (op2 : Op2Shift)
  | armCmnRegShift (d : DpTest) (op2 : Op2RegShift)
  | armOrrImm (d : Dp) (op2 : Op2Imm)
  | armOrrShift (d : Dp) (op2 : Op2Shift)
  | armOrrRegShift (d : Dp) (op2 : Op2RegShift)
  | armMovImm (d : Dp) (op2 : Op2Imm)
  | armMovShift (d : Dp) (op2 : Op2Shift)
  | armMovRegShift (d : Dp) (op2 : Op2RegShift)
  | armBicImm (d : Dp) (op2 : Op2Imm)
  | armBicShift (d : Dp) (op2 : Op2Shift)
  | armBicRegShift (d : Dp) (op2 : Op2RegShift)
  | armMvnImm (d : Dp) (op2 : Op2Imm)
  | armMvnShift (d : Dp) (op2 : Op2Shift)
  | armMvnRegShift (d : Dp) (op2 : Op2RegShift)
  | armUndefSpace (w : Word)
  | armStrImm (o : XferImm)
  | armStrReg (o : XferReg)
  | armLdrImm (o : XferImm)
  | armLdrReg (o : XferReg)
  | armStrbImm (o : XferImm)
  | armStrbReg (o : XferReg)
  | armLdrbImm (o : XferImm)
  | armLdrbReg (o : XferReg)
  | armStm (o : BlockOps)
  | armLdm (o : BlockOps)
  | armB (o : BranchOps)
  | armBl (o : BranchOps)
  | armLdcStc (w : Word)
  | armCdpMrcMcr (w : Word)
  | armSwi (o : SwiOps)
  | thumbLslImm (rd : LowReg) (rs : LowReg) (amount : BitVec 5)
  | thumbLsrImm (rd : LowReg) (rs : LowReg) (amount : BitVec 5)
  | thumbAsrImm (rd : LowReg) (rs : LowReg) (amount : BitVec 5)
  | thumbAddReg (rd : LowReg) (rs : LowReg) (rn : LowReg)
  | thumbSubReg (rd : LowReg) (rs : LowReg) (rn : LowReg)
  | thumbAddImm3 (rd : LowReg) (rs : LowReg) (imm : BitVec 3)
  | thumbSubImm3 (rd : LowReg) (rs : LowReg) (imm : BitVec 3)
  | thumbMovImm (rd : LowReg) (imm : Byte)
  | thumbCmpImm (rd : LowReg) (imm : Byte)
  | thumbAddImm8 (rd : LowReg) (imm : Byte)
  | thumbSubImm8 (rd : LowReg) (imm : Byte)
  | thumbAnd (rd : LowReg) (rs : LowReg)
  | thumbEor (rd : LowReg) (rs : LowReg)
  | thumbLsl (rd : LowReg) (rs : LowReg)
  | thumbLsr (rd : LowReg) (rs : LowReg)
  | thumbAsr (rd : LowReg) (rs : LowReg)
  | thumbAdc (rd : LowReg) (rs : LowReg)
  | thumbSbc (rd : LowReg) (rs : LowReg)
  | thumbRor (rd : LowReg) (rs : LowReg)
  | thumbTst (rd : LowReg) (rs : LowReg)
  | thumbNeg (rd : LowReg) (rs : LowReg)
  | thumbCmp (rd : LowReg) (rs : LowReg)
  | thumbCmn (rd : LowReg) (rs : LowReg)
  | thumbOrr (rd : LowReg) (rs : LowReg)
  | thumbMul (rd : LowReg) (rs : LowReg)
  | thumbBic (rd : LowReg) (rs : LowReg)
  | thumbMvn (rd : LowReg) (rs : LowReg)
  | thumbAddHi (hd : RegNum) (hs : RegNum)
  | thumbCmpHi (hd : RegNum) (hs : RegNum)
  | thumbMovHi (hd : RegNum) (hs : RegNum)
  | thumbBx (hs : RegNum)
  | thumbUndefBlx (w : Half)
  | thumbLdrPc (rd : LowReg) (imm : Byte)
  | thumbStrReg (rd : LowReg) (rb : LowReg) (ro : LowReg)
  | thumbStrbReg (rd : LowReg) (rb : LowReg) (ro : LowReg)
  | thumbLdrReg (rd : LowReg) (rb : LowReg) (ro : LowReg)
  | thumbLdrbReg (rd : LowReg) (rb : LowReg) (ro : LowReg)
  | thumbStrhReg (rd : LowReg) (rb : LowReg) (ro : LowReg)
  | thumbLdsbReg (rd : LowReg) (rb : LowReg) (ro : LowReg)
  | thumbLdrhReg (rd : LowReg) (rb : LowReg) (ro : LowReg)
  | thumbLdshReg (rd : LowReg) (rb : LowReg) (ro : LowReg)
  | thumbStrImm (rd : LowReg) (rb : LowReg) (imm : BitVec 5)
  | thumbLdrImm (rd : LowReg) (rb : LowReg) (imm : BitVec 5)
  | thumbStrbImm (rd : LowReg) (rb : LowReg) (imm : BitVec 5)
  | thumbLdrbImm (rd : LowReg) (rb : LowReg) (imm : BitVec 5)
  | thumbStrhImm (rd : LowReg) (rb : LowReg) (imm : BitVec 5)
  | thumbLdrhImm (rd : LowReg) (rb : LowReg) (imm : BitVec 5)
  | thumbStrSp (rd : LowReg) (imm : Byte)
  | thumbLdrSp (rd : LowReg) (imm : Byte)
  | thumbAddPc (rd : LowReg) (imm : Byte)
  | thumbAddSp (rd : LowReg) (imm : Byte)
  | thumbAdjustSp (down : Bool) (imm : BitVec 7)
  | thumbPush (lr : Bool) (list : Byte)
  | thumbPop (toPc : Bool) (list : Byte)
  | thumbUndefB1 (w : Half)
  | thumbUndefB2 (w : Half)
  | thumbUndefB6 (w : Half)
  | thumbUndefB8 (w : Half)
  | thumbUndefBE (w : Half)
  | thumbStmia (rb : LowReg) (list : Byte)
  | thumbLdmia (rb : LowReg) (list : Byte)
  | thumbUndefCond14 (w : Half)
  | thumbSwi (comment : Byte)
  | thumbBCond (cond : Cond) (offset : Byte)
  | thumbB (offset : BitVec 11)
  | thumbUndefE8 (w : Half)
  | thumbBlHi (offset : BitVec 11)
  | thumbBlLo (offset : BitVec 11)
  | nop | ld_bcm_a | inc_bc | inc_b | dec_b | rlca | add_hl_bc | ld_a_bcm | dec_bc | inc_c | dec_c | rrca | ld_dem_a
  | inc_de | inc_d | dec_d | rla | add_hl_de | ld_a_dem | dec_de | inc_e | dec_e | rra | ld_hli_a | inc_hl | inc_h
  | dec_h | daa | add_hl_hl | ld_a_hli | dec_hl | inc_l | dec_l | cpl | ld_hld_a | inc_sp | inc_hlm | dec_hlm | scf
  | add_hl_sp | ld_a_hld | dec_sp | inc_a | dec_a | ccf | ld_b_b | ld_b_c | ld_b_d | ld_b_e | ld_b_h | ld_b_l
  | ld_b_hlm | ld_b_a | ld_c_b | ld_c_c | ld_c_d | ld_c_e | ld_c_h | ld_c_l | ld_c_hlm | ld_c_a | ld_d_b | ld_d_c
  | ld_d_d | ld_d_e | ld_d_h | ld_d_l | ld_d_hlm | ld_d_a | ld_e_b | ld_e_c | ld_e_d | ld_e_e | ld_e_h | ld_e_l
  | ld_e_hlm | ld_e_a | ld_h_b | ld_h_c | ld_h_d | ld_h_e | ld_h_h | ld_h_l | ld_h_hlm | ld_h_a | ld_l_b | ld_l_c
  | ld_l_d | ld_l_e | ld_l_h | ld_l_l | ld_l_hlm | ld_l_a | ld_hlm_b | ld_hlm_c | ld_hlm_d | ld_hlm_e | ld_hlm_h
  | ld_hlm_l | halt | ld_hlm_a | ld_a_b | ld_a_c | ld_a_d | ld_a_e | ld_a_h | ld_a_l | ld_a_hlm | ld_a_a | add_a_b
  | add_a_c | add_a_d | add_a_e | add_a_h | add_a_l | add_a_hlm | add_a_a | adc_a_b | adc_a_c | adc_a_d | adc_a_e
  | adc_a_h | adc_a_l | adc_a_hlm | adc_a_a | sub_b | sub_c | sub_d | sub_e | sub_h | sub_l | sub_hlm | sub_a
  | sbc_a_b | sbc_a_c | sbc_a_d | sbc_a_e | sbc_a_h | sbc_a_l | sbc_a_hlm | sbc_a_a | and_b | and_c | and_d | and_e
  | and_h | and_l | and_hlm | and_a | xor_b | xor_c | xor_d | xor_e | xor_h | xor_l | xor_hlm | xor_a | or_b | or_c
  | or_d | or_e | or_h | or_l | or_hlm | or_a | cp_b | cp_c | cp_d | cp_e | cp_h | cp_l | cp_hlm | cp_a | ret_nz
  | pop_bc | push_bc | rst_00h | ret_z | ret | rst_08h | ret_nc | pop_de | illegal_d3 | push_de | rst_10h | ret_c
  | reti | illegal_db | illegal_dd | rst_18h | pop_hl | ld_cm_a | illegal_e3 | illegal_e4 | push_hl | rst_20h | jp_hl
  | illegal_eb | illegal_ec | illegal_ed | rst_28h | pop_af | ld_a_cm | di | illegal_f4 | push_af | rst_30h
  | ld_sp_hl | ei | illegal_fc | illegal_fd | rst_38h | rlc_b | rlc_c | rlc_d | rlc_e | rlc_h | rlc_l | rlc_hlm
  | rlc_a | rrc_b | rrc_c | rrc_d | rrc_e | rrc_h | rrc_l | rrc_hlm | rrc_a | rl_b | rl_c | rl_d | rl_e | rl_h | rl_l
  | rl_hlm | rl_a | rr_b | rr_c | rr_d | rr_e | rr_h | rr_l | rr_hlm | rr_a | sla_b | sla_c | sla_d | sla_e | sla_h
  | sla_l | sla_hlm | sla_a | sra_b | sra_c | sra_d | sra_e | sra_h | sra_l | sra_hlm | sra_a | swap_b | swap_c
  | swap_d | swap_e | swap_h | swap_l | swap_hlm | swap_a | srl_b | srl_c | srl_d | srl_e | srl_h | srl_l | srl_hlm
  | srl_a | bit_0_b | bit_0_c | bit_0_d | bit_0_e | bit_0_h | bit_0_l | bit_0_hlm | bit_0_a | bit_1_b | bit_1_c
  | bit_1_d | bit_1_e | bit_1_h | bit_1_l | bit_1_hlm | bit_1_a | bit_2_b | bit_2_c | bit_2_d | bit_2_e | bit_2_h
  | bit_2_l | bit_2_hlm | bit_2_a | bit_3_b | bit_3_c | bit_3_d | bit_3_e | bit_3_h | bit_3_l | bit_3_hlm | bit_3_a
  | bit_4_b | bit_4_c | bit_4_d | bit_4_e | bit_4_h | bit_4_l | bit_4_hlm | bit_4_a | bit_5_b | bit_5_c | bit_5_d
  | bit_5_e | bit_5_h | bit_5_l | bit_5_hlm | bit_5_a | bit_6_b | bit_6_c | bit_6_d | bit_6_e | bit_6_h | bit_6_l
  | bit_6_hlm | bit_6_a | bit_7_b | bit_7_c | bit_7_d | bit_7_e | bit_7_h | bit_7_l | bit_7_hlm | bit_7_a | res_0_b
  | res_0_c | res_0_d | res_0_e | res_0_h | res_0_l | res_0_hlm | res_0_a | res_1_b | res_1_c | res_1_d | res_1_e
  | res_1_h | res_1_l | res_1_hlm | res_1_a | res_2_b | res_2_c | res_2_d | res_2_e | res_2_h | res_2_l | res_2_hlm
  | res_2_a | res_3_b | res_3_c | res_3_d | res_3_e | res_3_h | res_3_l | res_3_hlm | res_3_a | res_4_b | res_4_c
  | res_4_d | res_4_e | res_4_h | res_4_l | res_4_hlm | res_4_a | res_5_b | res_5_c | res_5_d | res_5_e | res_5_h
  | res_5_l | res_5_hlm | res_5_a | res_6_b | res_6_c | res_6_d | res_6_e | res_6_h | res_6_l | res_6_hlm | res_6_a
  | res_7_b | res_7_c | res_7_d | res_7_e | res_7_h | res_7_l | res_7_hlm | res_7_a | set_0_b | set_0_c | set_0_d
  | set_0_e | set_0_h | set_0_l | set_0_hlm | set_0_a | set_1_b | set_1_c | set_1_d | set_1_e | set_1_h | set_1_l
  | set_1_hlm | set_1_a | set_2_b | set_2_c | set_2_d | set_2_e | set_2_h | set_2_l | set_2_hlm | set_2_a | set_3_b
  | set_3_c | set_3_d | set_3_e | set_3_h | set_3_l | set_3_hlm | set_3_a | set_4_b | set_4_c | set_4_d | set_4_e
  | set_4_h | set_4_l | set_4_hlm | set_4_a | set_5_b | set_5_c | set_5_d | set_5_e | set_5_h | set_5_l | set_5_hlm
  | set_5_a | set_6_b | set_6_c | set_6_d | set_6_e | set_6_h | set_6_l | set_6_hlm | set_6_a | set_7_b | set_7_c
  | set_7_d | set_7_e | set_7_h | set_7_l | set_7_hlm | set_7_a
  deriving DecidableEq, Repr

end Sys2Proof
end

