-- ==== Sys2Proof/Machine/Encoding.lean ====
section
/-! DEFINITION. Bit fields, the codes of the operand fields (30_encoding.md R202, R205, R213, R350, R500) and
the tests of the ARM decode order (R212), which the decoder, the encoder and the well-formedness check share. -/

namespace Sys2Proof

/-- The field `w[hi:lo]` as a number (R9). -/
def bits (w hi lo : Nat) : Nat := w / 2 ^ lo % 2 ^ (hi + 1 - lo)

/-- The bit `w[k]`. -/
def flag (w k : Nat) : Bool := decide (bits w k k = 1)

/-- The n-bit field whose lowest bit is bit `lo`. -/
def fld (n w lo : Nat) : BitVec n := BitVec.ofNat n (w / 2 ^ lo)

/-- Concatenate fields, most significant first, each with its width. -/
def pack : List (Nat × Nat) → Nat → Nat
  | [], acc => acc
  | (n, v) :: rest, acc => pack rest (acc * 2 ^ n + v)

/-- The number little-endian bytes stand for (R100, R102). -/
def ofLeBytes : List Byte → Nat
  | [] => 0
  | b :: rest => b.toNat + 256 * ofLeBytes rest

/-- The low n bytes of a number, little-endian. -/
def toLeBytes : Nat → Nat → List Byte
  | 0, _ => []
  | n + 1, w => BitVec.ofNat 8 w :: toLeBytes n (w / 256)

/-- R202, column `r`. -/
def R8.ofCode : Nat → R8
  | 0 => .b | 1 => .c | 2 => .d | 3 => .e | 4 => .h | 5 => .l | 6 => .hlm | _ => .a

/-- R202, column `r`. -/
def R8.code : R8 → Nat
  | .b => 0 | .c => 1 | .d => 2 | .e => 3 | .h => 4 | .l => 5 | .hlm => 6 | .a => 7

/-- R202, column `rr`. -/
def RP.ofCode : Nat → RP
  | 0 => .bc | 1 => .de | 2 => .hl | _ => .sp

/-- R202, column `rr`. -/
def RP.code : RP → Nat
  | .bc => 0 | .de => 1 | .hl => 2 | .sp => 3

/-- R202, column `qq`. -/
def QQ.ofCode : Nat → QQ
  | 0 => .bc | 1 => .de | 2 => .hl | _ => .af

/-- R202, column `qq`. -/
def QQ.code : QQ → Nat
  | .bc => 0 | .de => 1 | .hl => 2 | .af => 3

/-- R202, column `cc`. -/
def Cc.ofCode : Nat → Cc
  | 0 => .nz | 1 => .z | 2 => .nc | _ => .c

/-- R202, column `cc`. -/
def Cc.code : Cc → Nat
  | .nz => 0 | .z => 1 | .nc => 2 | .c => 3

/-- R350, the operation code `ooo`. -/
def Alu8.ofCode : Nat → Alu8
  | 0 => .add | 1 => .adc | 2 => .sub | 3 => .sbc | 4 => .and | 5 => .xor | 6 => .or | _ => .cp

/-- R350, the operation code `ooo`. -/
def Alu8.code : Alu8 → Nat
  | .add => 0 | .adc => 1 | .sub => 2 | .sbc => 3 | .and => 4 | .xor => 5 | .or => 6 | .cp => 7

/-- R205, the rotate or shift code `y`. -/
def Rot8.ofCode : Nat → Rot8
  | 0 => .rlc | 1 => .rrc | 2 => .rl | 3 => .rr | 4 => .sla | 5 => .sra | 6 => .swap | _ => .srl

/-- R205, the rotate or shift code `y`. -/
def Rot8.code : Rot8 → Nat
  | .rlc => 0 | .rrc => 1 | .rl => 2 | .rr => 3 | .sla => 4 | .sra => 5 | .swap => 6 | .srl => 7

/-- R500: the condition of a code below 15. -/
def Cond.ofCode : Nat → Cond
  | 0 => .eq | 1 => .ne | 2 => .cs | 3 => .cc | 4 => .mi | 5 => .pl | 6 => .vs | 7 => .vc
  | 8 => .hi | 9 => .ls | 10 => .ge | 11 => .lt | 12 => .gt | 13 => .le | _ => .al

/-- R500. -/
def Cond.code : Cond → Nat
  | .eq => 0 | .ne => 1 | .cs => 2 | .cc => 3 | .mi => 4 | .pl => 5 | .vs => 6 | .vc => 7
  | .hi => 8 | .ls => 9 | .ge => 10 | .lt => 11 | .gt => 12 | .le => 13 | .al => 14

/-- R213, the shift type `t`. -/
def Shift.ofCode : Nat → Shift
  | 0 => .lsl | 1 => .lsr | 2 => .asr | _ => .ror

/-- R213, the shift type `t`. -/
def Shift.code : Shift → Nat
  | .lsl => 0 | .lsr => 1 | .asr => 2 | .ror => 3

/-- R213, the data-processing code `o`. -/
def DpOp.ofCode : Nat → DpOp
  | 0 => .and | 1 => .eor | 2 => .sub | 3 => .rsb | 4 => .add | 5 => .adc | 6 => .sbc | 7 => .rsc
  | 8 => .tst | 9 => .teq | 10 => .cmp | 11 => .cmn | 12 => .orr | 13 => .mov | 14 => .bic | _ => .mvn

/-- R213, the data-processing code `o`. -/
def DpOp.code : DpOp → Nat
  | .and => 0 | .eor => 1 | .sub => 2 | .rsb => 3 | .add => 4 | .adc => 5 | .sbc => 6 | .rsc => 7
  | .tst => 8 | .teq => 9 | .cmp => 10 | .cmn => 11 | .orr => 12 | .mov => 13 | .bic => 14 | .mvn => 15

/-- A test operation as a data-processing one with S = 1 (R505). -/
def DpTest.withS (d : DpTest) : Dp := { cond := d.cond, s := true, rn := d.rn, rd := d.rd }

/-! The rows of R212, each as a test on the word. A mask and a match are written as the fields they fix. -/

/-- Row 1. -/
def isReserved (w : Nat) : Bool := decide (bits w 31 28 = 15)

/-- Row 2. -/
def isBx (w : Nat) : Bool := decide (bits w 27 4 = 0x12FFF1)

/-- Row 3. -/
def isMul (w : Nat) : Bool := decide (bits w 27 22 = 0 ∧ bits w 7 4 = 9)

/-- Row 4. -/
def isLongMul (w : Nat) : Bool := decide (bits w 27 23 = 1 ∧ bits w 7 4 = 9)

/-- Row 5. -/
def isSwap (w : Nat) : Bool := decide (bits w 27 23 = 2 ∧ bits w 21 20 = 0 ∧ bits w 11 4 = 9)

/-- Row 6. -/
def isHalfReg (w : Nat) : Bool :=
  decide (bits w 27 25 = 0 ∧ bits w 22 22 = 0 ∧ bits w 11 7 = 1 ∧ bits w 4 4 = 1 ∧ bits w 6 5 ≠ 0)

/-- Row 7. -/
def isHalfImm (w : Nat) : Bool :=
  decide (bits w 27 25 = 0 ∧ bits w 22 22 = 1 ∧ bits w 7 7 = 1 ∧ bits w 4 4 = 1 ∧ bits w 6 5 ≠ 0)

/-- In rows 6 and 7: L = 0 with SH = 2 or 3, the store-signed space (R216). -/
def isStoreSigned (w : Nat) : Bool := decide (bits w 20 20 = 0 ∧ bits w 6 6 = 1)

/-- Row 8. -/
def isMulSpace (w : Nat) : Bool := decide (bits w 27 25 = 0 ∧ bits w 7 7 = 1 ∧ bits w 4 4 = 1)

/-- Row 9. -/
def isMrs (w : Nat) : Bool := decide (bits w 27 23 = 2 ∧ bits w 21 16 = 15)

/-- Row 10. -/
def isMsrReg (w : Nat) : Bool := decide (bits w 27 23 = 2 ∧ bits w 21 20 = 2 ∧ bits w 15 12 = 15)

/-- Row 11. -/
def isMsrImm (w : Nat) : Bool := decide (bits w 27 23 = 6 ∧ bits w 21 20 = 2 ∧ bits w 15 12 = 15)

/-- Row 12. -/
def isCompareNoS (w : Nat) : Bool := decide (bits w 27 26 = 0 ∧ bits w 24 23 = 2 ∧ bits w 20 20 = 0)

/-- Row 13. -/
def isDataProc (w : Nat) : Bool := decide (bits w 27 26 = 0)

/-- Row 14. -/
def isUndefSpace (w : Nat) : Bool := decide (bits w 27 25 = 3 ∧ bits w 4 4 = 1)

/-- Row 18. -/
def isLdcStc (w : Nat) : Bool := decide (bits w 27 25 = 6)

/-- Row 19. -/
def isCdpMrcMcr (w : Nat) : Bool := decide (bits w 27 24 = 14)

end Sys2Proof
end

