-- ==== Sys2Proof/WellFormed.lean ====
section
/-! DEFINITION. Which terms of `Instr` are instructions: an operand value a constructor's type admits and its
encoding does not is refused by name. -/

namespace Sys2Proof

/-- Why a term is no instruction. -/
inductive IllFormed where
  /-- The word of an undefined space lies outside that space, or an earlier row of R212 takes it. -/
  | wordOutsideItsSpace
  /-- THUMB format 16 has conditions 0 to 13 only; 14 is undefined (R222). -/
  | conditionNotEncodable
  /-- The 0xCB prefix with its second byte is the instruction of the CB table (R205), which has a constructor
  of its own: the decoder never answers the prefix alone. -/
  | prefixHasItsOwnTable
  deriving DecidableEq, Repr

/-- A word of an undefined space is that space's own. -/
def wordCheck (ok : Bool) : Option IllFormed := if ok then none else some .wordOutsideItsSpace

/-- None of rows 1 to 5 of R212 takes the word. -/
def pastSwapRows (w : Nat) : Bool :=
  !isReserved w && !isBx w && !isMul w && !isLongMul w && !isSwap w

/-- None of rows 1 to 7 of R212 takes the word. -/
def pastHalfRows (w : Nat) : Bool := pastSwapRows w && !isHalfReg w && !isHalfImm w

/-- None of rows 1 to 11 of R212 takes the word. -/
def pastPsrRows (w : Nat) : Bool :=
  pastHalfRows w && !isMulSpace w && !isMrs w && !isMsrReg w && !isMsrImm w

/-- What is wrong with a term, if anything is. -/
def Instr.illFormed : Instr → Option IllFormed
  | .cbPrefix _ => some .prefixHasItsOwnTable
  | .armReservedCond w => wordCheck (isReserved w.toNat)
  | .armUndefStoreSignedReg w =>
    wordCheck (pastSwapRows w.toNat && isHalfReg w.toNat && isStoreSigned w.toNat)
  | .armUndefStoreSignedImm w =>
    wordCheck (pastSwapRows w.toNat && isHalfImm w.toNat && isStoreSigned w.toNat)
  | .armUndefMultiplySpace w => wordCheck (pastHalfRows w.toNat && isMulSpace w.toNat)
  | .armUndefCompareNoS w => wordCheck (pastPsrRows w.toNat && isCompareNoS w.toNat)
  | .armUndefSpace w => wordCheck (!isReserved w.toNat && isUndefSpace w.toNat)
  | .armLdcStc w => wordCheck (!isReserved w.toNat && isLdcStc w.toNat)
  | .armCdpMrcMcr w => wordCheck (!isReserved w.toNat && isCdpMrcMcr w.toNat)
  | .thumbUndefBlx w => wordCheck (decide (bits w.toNat 15 7 = 0x8F))
  | .thumbUndefB1 w => wordCheck (decide (bits w.toNat 15 8 = 0xB1))
  | .thumbUndefB2 w => wordCheck (decide (bits w.toNat 15 9 = 0x59))
  | .thumbUndefB6 w => wordCheck (decide (bits w.toNat 15 9 = 0x5B))
  | .thumbUndefB8 w => wordCheck (decide (bits w.toNat 15 10 = 0x2E))
  | .thumbUndefBE w => wordCheck (decide (bits w.toNat 15 9 = 0x5F))
  | .thumbUndefCond14 w => wordCheck (decide (bits w.toNat 15 8 = 0xDE))
  | .thumbUndefE8 w => wordCheck (decide (bits w.toNat 15 11 = 0x1D))
  | .thumbBCond cond _ => if cond = .al then some .conditionNotEncodable else none
  -- bits 7 and 4 both set are rows 3 to 8 of R212
  | .armMrs o => wordCheck (!(o.sbz.getLsbD 7 && o.sbz.getLsbD 4))
  -- so are they here, and fields 0xF with SBZ 0xF1 is BX
  | .armMsrReg o =>
    wordCheck (!(o.sbz.getLsbD 3 && o.sbz.getLsbD 0) && !(!o.spsr && o.fields == 0xF#4 && o.sbz == 0xF1#8))
  -- every operand value the types admit is encodable
  | .nop | .ld_bc_nn _ | .ld_bcm_a | .inc_bc | .inc_b | .dec_b | .ld_b_n _ | .rlca | .ld_nnm_sp _ | .add_hl_bc
  | .ld_a_bcm | .dec_bc | .inc_c | .dec_c | .ld_c_n _ | .rrca | .stop _ | .ld_de_nn _ | .ld_dem_a | .inc_de | .inc_d
  | .dec_d | .ld_d_n _ | .rla | .jr_e _ | .add_hl_de | .ld_a_dem | .dec_de | .inc_e | .dec_e | .ld_e_n _ | .rra
  | .jr_nz_e _ | .ld_hl_nn _ | .ld_hli_a | .inc_hl | .inc_h | .dec_h | .ld_h_n _ | .daa | .jr_z_e _ | .add_hl_hl
  | .ld_a_hli | .dec_hl | .inc_l | .dec_l | .ld_l_n _ | .cpl | .jr_nc_e _ | .ld_sp_nn _ | .ld_hld_a | .inc_sp
  | .inc_hlm | .dec_hlm | .ld_hlm_n _ | .scf | .jr_c_e _ | .add_hl_sp | .ld_a_hld | .dec_sp | .inc_a | .dec_a
  | .ld_a_n _ | .ccf | .ld_b_b | .ld_b_c | .ld_b_d | .ld_b_e | .ld_b_h | .ld_b_l | .ld_b_hlm | .ld_b_a | .ld_c_b
  | .ld_c_c | .ld_c_d | .ld_c_e | .ld_c_h | .ld_c_l | .ld_c_hlm | .ld_c_a | .ld_d_b | .ld_d_c | .ld_d_d | .ld_d_e
  | .ld_d_h | .ld_d_l | .ld_d_hlm | .ld_d_a | .ld_e_b | .ld_e_c | .ld_e_d | .ld_e_e | .ld_e_h | .ld_e_l | .ld_e_hlm
  | .ld_e_a | .ld_h_b | .ld_h_c | .ld_h_d | .ld_h_e | .ld_h_h | .ld_h_l | .ld_h_hlm | .ld_h_a | .ld_l_b | .ld_l_c
  | .ld_l_d | .ld_l_e | .ld_l_h | .ld_l_l | .ld_l_hlm | .ld_l_a | .ld_hlm_b | .ld_hlm_c | .ld_hlm_d | .ld_hlm_e
  | .ld_hlm_h | .ld_hlm_l | .halt | .ld_hlm_a | .ld_a_b | .ld_a_c | .ld_a_d | .ld_a_e | .ld_a_h | .ld_a_l | .ld_a_hlm
  | .ld_a_a | .add_a_b | .add_a_c | .add_a_d | .add_a_e | .add_a_h | .add_a_l | .add_a_hlm | .add_a_a | .adc_a_b
  | .adc_a_c | .adc_a_d | .adc_a_e | .adc_a_h | .adc_a_l | .adc_a_hlm | .adc_a_a | .sub_b | .sub_c | .sub_d | .sub_e
  | .sub_h | .sub_l | .sub_hlm | .sub_a | .sbc_a_b | .sbc_a_c | .sbc_a_d | .sbc_a_e | .sbc_a_h | .sbc_a_l
  | .sbc_a_hlm | .sbc_a_a | .and_b | .and_c | .and_d | .and_e | .and_h | .and_l | .and_hlm | .and_a | .xor_b | .xor_c
  | .xor_d | .xor_e | .xor_h | .xor_l | .xor_hlm | .xor_a | .or_b | .or_c | .or_d | .or_e | .or_h | .or_l | .or_hlm
  | .or_a | .cp_b | .cp_c | .cp_d | .cp_e | .cp_h | .cp_l | .cp_hlm | .cp_a | .ret_nz | .pop_bc | .jp_nz_nn _
  | .jp_nn _ | .call_nz_nn _ | .push_bc | .add_a_n _ | .rst_00h | .ret_z | .ret | .jp_z_nn _ | .call_z_nn _
  | .call_nn _ | .adc_a_n _ | .rst_08h | .ret_nc | .pop_de | .jp_nc_nn _ | .illegal_d3 | .call_nc_nn _ | .push_de
  | .sub_n _ | .rst_10h | .ret_c | .reti | .jp_c_nn _ | .illegal_db | .call_c_nn _ | .illegal_dd | .sbc_a_n _
  | .rst_18h | .ldh_nm_a _ | .pop_hl | .ld_cm_a | .illegal_e3 | .illegal_e4 | .push_hl | .and_n _ | .rst_20h
  | .add_sp_e _ | .jp_hl | .ld_nnm_a _ | .illegal_eb | .illegal_ec | .illegal_ed | .xor_n _ | .rst_28h | .ldh_a_nm _
  | .pop_af | .ld_a_cm | .di | .illegal_f4 | .push_af | .or_n _ | .rst_30h | .ld_hl_sp_e _ | .ld_sp_hl | .ld_a_nnm _
  | .ei | .illegal_fc | .illegal_fd | .cp_n _ | .rst_38h | .rlc_b | .rlc_c | .rlc_d | .rlc_e | .rlc_h | .rlc_l
  | .rlc_hlm | .rlc_a | .rrc_b | .rrc_c | .rrc_d | .rrc_e | .rrc_h | .rrc_l | .rrc_hlm | .rrc_a | .rl_b | .rl_c
  | .rl_d | .rl_e | .rl_h | .rl_l | .rl_hlm | .rl_a | .rr_b | .rr_c | .rr_d | .rr_e | .rr_h | .rr_l | .rr_hlm | .rr_a
  | .sla_b | .sla_c | .sla_d | .sla_e | .sla_h | .sla_l | .sla_hlm | .sla_a | .sra_b | .sra_c | .sra_d | .sra_e
  | .sra_h | .sra_l | .sra_hlm | .sra_a | .swap_b | .swap_c | .swap_d | .swap_e | .swap_h | .swap_l | .swap_hlm
  | .swap_a | .srl_b | .srl_c | .srl_d | .srl_e | .srl_h | .srl_l | .srl_hlm | .srl_a | .bit_0_b | .bit_0_c
  | .bit_0_d | .bit_0_e | .bit_0_h | .bit_0_l | .bit_0_hlm | .bit_0_a | .bit_1_b | .bit_1_c | .bit_1_d | .bit_1_e
  | .bit_1_h | .bit_1_l | .bit_1_hlm | .bit_1_a | .bit_2_b | .bit_2_c | .bit_2_d | .bit_2_e | .bit_2_h | .bit_2_l
  | .bit_2_hlm | .bit_2_a | .bit_3_b | .bit_3_c | .bit_3_d | .bit_3_e | .bit_3_h | .bit_3_l | .bit_3_hlm | .bit_3_a
  | .bit_4_b | .bit_4_c | .bit_4_d | .bit_4_e | .bit_4_h | .bit_4_l | .bit_4_hlm | .bit_4_a | .bit_5_b | .bit_5_c
  | .bit_5_d | .bit_5_e | .bit_5_h | .bit_5_l | .bit_5_hlm | .bit_5_a | .bit_6_b | .bit_6_c | .bit_6_d | .bit_6_e
  | .bit_6_h | .bit_6_l | .bit_6_hlm | .bit_6_a | .bit_7_b | .bit_7_c | .bit_7_d | .bit_7_e | .bit_7_h | .bit_7_l
  | .bit_7_hlm | .bit_7_a | .res_0_b | .res_0_c | .res_0_d | .res_0_e | .res_0_h | .res_0_l | .res_0_hlm | .res_0_a
  | .res_1_b | .res_1_c | .res_1_d | .res_1_e | .res_1_h | .res_1_l | .res_1_hlm | .res_1_a | .res_2_b | .res_2_c
  | .res_2_d | .res_2_e | .res_2_h | .res_2_l | .res_2_hlm | .res_2_a | .res_3_b | .res_3_c | .res_3_d | .res_3_e
  | .res_3_h | .res_3_l | .res_3_hlm | .res_3_a | .res_4_b | .res_4_c | .res_4_d | .res_4_e | .res_4_h | .res_4_l
  | .res_4_hlm | .res_4_a | .res_5_b | .res_5_c | .res_5_d | .res_5_e | .res_5_h | .res_5_l | .res_5_hlm | .res_5_a
  | .res_6_b | .res_6_c | .res_6_d | .res_6_e | .res_6_h | .res_6_l | .res_6_hlm | .res_6_a | .res_7_b | .res_7_c
  | .res_7_d | .res_7_e | .res_7_h | .res_7_l | .res_7_hlm | .res_7_a | .set_0_b | .set_0_c | .set_0_d | .set_0_e
  | .set_0_h | .set_0_l | .set_0_hlm | .set_0_a | .set_1_b | .set_1_c | .set_1_d | .set_1_e | .set_1_h | .set_1_l
  | .set_1_hlm | .set_1_a | .set_2_b | .set_2_c | .set_2_d | .set_2_e | .set_2_h | .set_2_l | .set_2_hlm | .set_2_a
  | .set_3_b | .set_3_c | .set_3_d | .set_3_e | .set_3_h | .set_3_l | .set_3_hlm | .set_3_a | .set_4_b | .set_4_c
  | .set_4_d | .set_4_e | .set_4_h | .set_4_l | .set_4_hlm | .set_4_a | .set_5_b | .set_5_c | .set_5_d | .set_5_e
  | .set_5_h | .set_5_l | .set_5_hlm | .set_5_a | .set_6_b | .set_6_c | .set_6_d | .set_6_e | .set_6_h | .set_6_l
  | .set_6_hlm | .set_6_a | .set_7_b | .set_7_c | .set_7_d | .set_7_e | .set_7_h | .set_7_l | .set_7_hlm | .set_7_a
  | .armBx _ | .armMul _ | .armMla _ | .armUmull _ | .armUmlal _ | .armSmull _ | .armSmlal _ | .armSwp _ | .armSwpb _
  | .armStrhReg _ | .armStrhImm _ | .armLdrhReg _ | .armLdrhImm _ | .armLdrsbReg _ | .armLdrsbImm _ | .armLdrshReg _
  | .armLdrshImm _ | .armMsrImm _ | .armAndImm _ _ | .armAndShift _ _
  | .armAndRegShift _ _ | .armEorImm _ _ | .armEorShift _ _ | .armEorRegShift _ _ | .armSubImm _ _ | .armSubShift _ _
  | .armSubRegShift _ _ | .armRsbImm _ _ | .armRsbShift _ _ | .armRsbRegShift _ _ | .armAddImm _ _ | .armAddShift _ _
  | .armAddRegShift _ _ | .armAdcImm _ _ | .armAdcShift _ _ | .armAdcRegShift _ _ | .armSbcImm _ _ | .armSbcShift _ _
  | .armSbcRegShift _ _ | .armRscImm _ _ | .armRscShift _ _ | .armRscRegShift _ _ | .armTstImm _ _ | .armTstShift _ _
  | .armTstRegShift _ _ | .armTeqImm _ _ | .armTeqShift _ _ | .armTeqRegShift _ _ | .armCmpImm _ _ | .armCmpShift _ _
  | .armCmpRegShift _ _ | .armCmnImm _ _ | .armCmnShift _ _ | .armCmnRegShift _ _ | .armOrrImm _ _ | .armOrrShift _ _
  | .armOrrRegShift _ _ | .armMovImm _ _ | .armMovShift _ _ | .armMovRegShift _ _ | .armBicImm _ _ | .armBicShift _ _
  | .armBicRegShift _ _ | .armMvnImm _ _ | .armMvnShift _ _ | .armMvnRegShift _ _ | .armStrImm _ | .armStrReg _
  | .armLdrImm _ | .armLdrReg _ | .armStrbImm _ | .armStrbReg _ | .armLdrbImm _ | .armLdrbReg _ | .armStm _
  | .armLdm _ | .armB _ | .armBl _ | .armSwi _ | .thumbLslImm _ _ _ | .thumbLsrImm _ _ _ | .thumbAsrImm _ _ _
  | .thumbAddReg _ _ _ | .thumbSubReg _ _ _ | .thumbAddImm3 _ _ _ | .thumbSubImm3 _ _ _ | .thumbMovImm _ _
  | .thumbCmpImm _ _ | .thumbAddImm8 _ _ | .thumbSubImm8 _ _ | .thumbAnd _ _ | .thumbEor _ _ | .thumbLsl _ _
  | .thumbLsr _ _ | .thumbAsr _ _ | .thumbAdc _ _ | .thumbSbc _ _ | .thumbRor _ _ | .thumbTst _ _ | .thumbNeg _ _
  | .thumbCmp _ _ | .thumbCmn _ _ | .thumbOrr _ _ | .thumbMul _ _ | .thumbBic _ _ | .thumbMvn _ _ | .thumbAddHi _ _
  | .thumbCmpHi _ _ | .thumbMovHi _ _ | .thumbBx _ | .thumbLdrPc _ _ | .thumbStrReg _ _ _ | .thumbStrbReg _ _ _
  | .thumbLdrReg _ _ _ | .thumbLdrbReg _ _ _ | .thumbStrhReg _ _ _ | .thumbLdsbReg _ _ _ | .thumbLdrhReg _ _ _
  | .thumbLdshReg _ _ _ | .thumbStrImm _ _ _ | .thumbLdrImm _ _ _ | .thumbStrbImm _ _ _ | .thumbLdrbImm _ _ _
  | .thumbStrhImm _ _ _ | .thumbLdrhImm _ _ _ | .thumbStrSp _ _ | .thumbLdrSp _ _ | .thumbAddPc _ _ | .thumbAddSp _ _
  | .thumbAdjustSp _ _ | .thumbPush _ _ | .thumbPop _ _ | .thumbStmia _ _ | .thumbLdmia _ _ | .thumbSwi _ | .thumbB _
  | .thumbBlHi _ | .thumbBlLo _ => none

/-- A well-formed instruction. -/
def WellFormed (i : Instr) : Bool := i.illFormed.isNone

end Sys2Proof
end

