-- ==== Sys2Proof/Decode.lean ====
section
/-! DEFINITION. The decoder (30_encoding.md), total on any bytes, and after it the encoder, written from the
same encoding tables. A byte list too short for its instruction is rejected by name; every complete one decodes,
the undefined codes to the constructors of their own rows. -/

namespace Sys2Proof

/-- Why bytes are no instruction. -/
inductive DecodeError where
  /-- The list ends inside the instruction. -/
  | tooFewBytes
  deriving DecidableEq, Repr

/-! The rows of the CPU-8 tables by their operand fields (R202). -/

/-- LD r,r' and its (HL) forms (R301, R303, R304); code 0x76 is HALT (R443). -/
def ldInstr (dst src : R8) : Instr :=
  match dst, src with
  | .b, .b => .ld_b_b | .b, .c => .ld_b_c | .b, .d => .ld_b_d | .b, .e => .ld_b_e | .b, .h => .ld_b_h
  | .b, .l => .ld_b_l | .b, .hlm => .ld_b_hlm | .b, .a => .ld_b_a | .c, .b => .ld_c_b | .c, .c => .ld_c_c
  | .c, .d => .ld_c_d | .c, .e => .ld_c_e | .c, .h => .ld_c_h | .c, .l => .ld_c_l | .c, .hlm => .ld_c_hlm
  | .c, .a => .ld_c_a | .d, .b => .ld_d_b | .d, .c => .ld_d_c | .d, .d => .ld_d_d | .d, .e => .ld_d_e
  | .d, .h => .ld_d_h | .d, .l => .ld_d_l | .d, .hlm => .ld_d_hlm | .d, .a => .ld_d_a | .e, .b => .ld_e_b
  | .e, .c => .ld_e_c | .e, .d => .ld_e_d | .e, .e => .ld_e_e | .e, .h => .ld_e_h | .e, .l => .ld_e_l
  | .e, .hlm => .ld_e_hlm | .e, .a => .ld_e_a | .h, .b => .ld_h_b | .h, .c => .ld_h_c | .h, .d => .ld_h_d
  | .h, .e => .ld_h_e | .h, .h => .ld_h_h | .h, .l => .ld_h_l | .h, .hlm => .ld_h_hlm | .h, .a => .ld_h_a
  | .l, .b => .ld_l_b | .l, .c => .ld_l_c | .l, .d => .ld_l_d | .l, .e => .ld_l_e | .l, .h => .ld_l_h
  | .l, .l => .ld_l_l | .l, .hlm => .ld_l_hlm | .l, .a => .ld_l_a | .hlm, .b => .ld_hlm_b | .hlm, .c => .ld_hlm_c
  | .hlm, .d => .ld_hlm_d | .hlm, .e => .ld_hlm_e | .hlm, .h => .ld_hlm_h | .hlm, .l => .ld_hlm_l
  | .hlm, .hlm => .halt | .hlm, .a => .ld_hlm_a | .a, .b => .ld_a_b | .a, .c => .ld_a_c | .a, .d => .ld_a_d
  | .a, .e => .ld_a_e | .a, .h => .ld_a_h | .a, .l => .ld_a_l | .a, .hlm => .ld_a_hlm | .a, .a => .ld_a_a

/-- The ALU operations on A with operand r (R350). -/
def aluInstr (op : Alu8) (k : R8) : Instr :=
  match op, k with
  | .add, .b => .add_a_b | .add, .c => .add_a_c | .add, .d => .add_a_d | .add, .e => .add_a_e | .add, .h => .add_a_h
  | .add, .l => .add_a_l | .add, .hlm => .add_a_hlm | .add, .a => .add_a_a | .adc, .b => .adc_a_b
  | .adc, .c => .adc_a_c | .adc, .d => .adc_a_d | .adc, .e => .adc_a_e | .adc, .h => .adc_a_h | .adc, .l => .adc_a_l
  | .adc, .hlm => .adc_a_hlm | .adc, .a => .adc_a_a | .sub, .b => .sub_b | .sub, .c => .sub_c | .sub, .d => .sub_d
  | .sub, .e => .sub_e | .sub, .h => .sub_h | .sub, .l => .sub_l | .sub, .hlm => .sub_hlm | .sub, .a => .sub_a
  | .sbc, .b => .sbc_a_b | .sbc, .c => .sbc_a_c | .sbc, .d => .sbc_a_d | .sbc, .e => .sbc_a_e | .sbc, .h => .sbc_a_h
  | .sbc, .l => .sbc_a_l | .sbc, .hlm => .sbc_a_hlm | .sbc, .a => .sbc_a_a | .and, .b => .and_b | .and, .c => .and_c
  | .and, .d => .and_d | .and, .e => .and_e | .and, .h => .and_h | .and, .l => .and_l | .and, .hlm => .and_hlm
  | .and, .a => .and_a | .xor, .b => .xor_b | .xor, .c => .xor_c | .xor, .d => .xor_d | .xor, .e => .xor_e
  | .xor, .h => .xor_h | .xor, .l => .xor_l | .xor, .hlm => .xor_hlm | .xor, .a => .xor_a | .or, .b => .or_b
  | .or, .c => .or_c | .or, .d => .or_d | .or, .e => .or_e | .or, .h => .or_h | .or, .l => .or_l
  | .or, .hlm => .or_hlm | .or, .a => .or_a | .cp, .b => .cp_b | .cp, .c => .cp_c | .cp, .d => .cp_d
  | .cp, .e => .cp_e | .cp, .h => .cp_h | .cp, .l => .cp_l | .cp, .hlm => .cp_hlm | .cp, .a => .cp_a

/-- The ALU operations on A with an immediate (R350). -/
def aluImmInstr (op : Alu8) (n : Byte) : Instr :=
  match op with
  | .add => .add_a_n n | .adc => .adc_a_n n | .sub => .sub_n n | .sbc => .sbc_a_n n | .and => .and_n n
  | .xor => .xor_n n | .or => .or_n n | .cp => .cp_n n

/-- INC r and INC (HL) (R359, R360). -/
def incInstr (k : R8) : Instr :=
  match k with
  | .b => .inc_b | .c => .inc_c | .d => .inc_d | .e => .inc_e | .h => .inc_h | .l => .inc_l | .hlm => .inc_hlm
  | .a => .inc_a

/-- DEC r and DEC (HL) (R361, R362). -/
def decInstr (k : R8) : Instr :=
  match k with
  | .b => .dec_b | .c => .dec_c | .d => .dec_d | .e => .dec_e | .h => .dec_h | .l => .dec_l | .hlm => .dec_hlm
  | .a => .dec_a

/-- LD r,n and LD (HL),n (R302, R305). -/
def ldImmInstr (k : R8) (n : Byte) : Instr :=
  match k with
  | .b => .ld_b_n n | .c => .ld_c_n n | .d => .ld_d_n n | .e => .ld_e_n n | .h => .ld_h_n n | .l => .ld_l_n n
  | .hlm => .ld_hlm_n n | .a => .ld_a_n n

/-- LD rr,nn (R321). -/
def ldPairInstr (p : RP) (nn : Half) : Instr :=
  match p with
  | .bc => .ld_bc_nn nn | .de => .ld_de_nn nn | .hl => .ld_hl_nn nn | .sp => .ld_sp_nn nn

/-- ADD HL,rr (R363). -/
def addHlInstr (p : RP) : Instr :=
  match p with
  | .bc => .add_hl_bc | .de => .add_hl_de | .hl => .add_hl_hl | .sp => .add_hl_sp

/-- INC rr (R364). -/
def incPairInstr (p : RP) : Instr :=
  match p with
  | .bc => .inc_bc | .de => .inc_de | .hl => .inc_hl | .sp => .inc_sp

/-- DEC rr (R365). -/
def decPairInstr (p : RP) : Instr :=
  match p with
  | .bc => .dec_bc | .de => .dec_de | .hl => .dec_hl | .sp => .dec_sp

/-- PUSH qq (R325). -/
def pushInstr (q : QQ) : Instr :=
  match q with
  | .bc => .push_bc | .de => .push_de | .hl => .push_hl | .af => .push_af

/-- POP qq (R326). -/
def popInstr (q : QQ) : Instr :=
  match q with
  | .bc => .pop_bc | .de => .pop_de | .hl => .pop_hl | .af => .pop_af

/-- JR cc,e (R435). -/
def jrInstr (cc : Cc) (e : Byte) : Instr :=
  match cc with
  | .nz => .jr_nz_e e | .z => .jr_z_e e | .nc => .jr_nc_e e | .c => .jr_c_e e

/-- JP cc,nn (R432). -/
def jpInstr (cc : Cc) (nn : Half) : Instr :=
  match cc with
  | .nz => .jp_nz_nn nn | .z => .jp_z_nn nn | .nc => .jp_nc_nn nn | .c => .jp_c_nn nn

/-- CALL cc,nn (R437). -/
def callInstr (cc : Cc) (nn : Half) : Instr :=
  match cc with
  | .nz => .call_nz_nn nn | .z => .call_z_nn nn | .nc => .call_nc_nn nn | .c => .call_c_nn nn

/-- RET cc (R439). -/
def retInstr (cc : Cc) : Instr :=
  match cc with
  | .nz => .ret_nz | .z => .ret_z | .nc => .ret_nc | .c => .ret_c

/-- RST t (R441). -/
def rstInstr (t : BitVec 3) : Instr :=
  match t.toNat with
  | 0 => .rst_00h | 1 => .rst_08h | 2 => .rst_10h | 3 => .rst_18h | 4 => .rst_20h | 5 => .rst_28h | 6 => .rst_30h
  | _ => .rst_38h

/-- RLCA, RRCA, RLA and RRA (R371 to R374) by the code `y`, then DAA, CPL, SCF, CCF. -/
def rotateAInstr (y : Nat) : Instr :=
  match y with
  | 0 => .rlca | 1 => .rrca | 2 => .rla | 3 => .rra | 4 => .daa | 5 => .cpl | 6 => .scf | _ => .ccf

/-- The CB rotates and shifts (R401 to R408). -/
def rotInstr (op : Rot8) (k : R8) : Instr :=
  match op, k with
  | .rlc, .b => .rlc_b | .rlc, .c => .rlc_c | .rlc, .d => .rlc_d | .rlc, .e => .rlc_e | .rlc, .h => .rlc_h
  | .rlc, .l => .rlc_l | .rlc, .hlm => .rlc_hlm | .rlc, .a => .rlc_a | .rrc, .b => .rrc_b | .rrc, .c => .rrc_c
  | .rrc, .d => .rrc_d | .rrc, .e => .rrc_e | .rrc, .h => .rrc_h | .rrc, .l => .rrc_l | .rrc, .hlm => .rrc_hlm
  | .rrc, .a => .rrc_a | .rl, .b => .rl_b | .rl, .c => .rl_c | .rl, .d => .rl_d | .rl, .e => .rl_e | .rl, .h => .rl_h
  | .rl, .l => .rl_l | .rl, .hlm => .rl_hlm | .rl, .a => .rl_a | .rr, .b => .rr_b | .rr, .c => .rr_c
  | .rr, .d => .rr_d | .rr, .e => .rr_e | .rr, .h => .rr_h | .rr, .l => .rr_l | .rr, .hlm => .rr_hlm
  | .rr, .a => .rr_a | .sla, .b => .sla_b | .sla, .c => .sla_c | .sla, .d => .sla_d | .sla, .e => .sla_e
  | .sla, .h => .sla_h | .sla, .l => .sla_l | .sla, .hlm => .sla_hlm | .sla, .a => .sla_a | .sra, .b => .sra_b
  | .sra, .c => .sra_c | .sra, .d => .sra_d | .sra, .e => .sra_e | .sra, .h => .sra_h | .sra, .l => .sra_l
  | .sra, .hlm => .sra_hlm | .sra, .a => .sra_a | .swap, .b => .swap_b | .swap, .c => .swap_c | .swap, .d => .swap_d
  | .swap, .e => .swap_e | .swap, .h => .swap_h | .swap, .l => .swap_l | .swap, .hlm => .swap_hlm
  | .swap, .a => .swap_a | .srl, .b => .srl_b | .srl, .c => .srl_c | .srl, .d => .srl_d | .srl, .e => .srl_e
  | .srl, .h => .srl_h | .srl, .l => .srl_l | .srl, .hlm => .srl_hlm | .srl, .a => .srl_a

/-- BIT b,r (R409). -/
def bitInstr (b : BitVec 3) (k : R8) : Instr :=
  match b.toNat, k with
  | 0, .b => .bit_0_b | 0, .c => .bit_0_c | 0, .d => .bit_0_d | 0, .e => .bit_0_e | 0, .h => .bit_0_h
  | 0, .l => .bit_0_l | 0, .hlm => .bit_0_hlm | 0, .a => .bit_0_a | 1, .b => .bit_1_b | 1, .c => .bit_1_c
  | 1, .d => .bit_1_d | 1, .e => .bit_1_e | 1, .h => .bit_1_h | 1, .l => .bit_1_l | 1, .hlm => .bit_1_hlm
  | 1, .a => .bit_1_a | 2, .b => .bit_2_b | 2, .c => .bit_2_c | 2, .d => .bit_2_d | 2, .e => .bit_2_e
  | 2, .h => .bit_2_h | 2, .l => .bit_2_l | 2, .hlm => .bit_2_hlm | 2, .a => .bit_2_a | 3, .b => .bit_3_b
  | 3, .c => .bit_3_c | 3, .d => .bit_3_d | 3, .e => .bit_3_e | 3, .h => .bit_3_h | 3, .l => .bit_3_l
  | 3, .hlm => .bit_3_hlm | 3, .a => .bit_3_a | 4, .b => .bit_4_b | 4, .c => .bit_4_c | 4, .d => .bit_4_d
  | 4, .e => .bit_4_e | 4, .h => .bit_4_h | 4, .l => .bit_4_l | 4, .hlm => .bit_4_hlm | 4, .a => .bit_4_a
  | 5, .b => .bit_5_b | 5, .c => .bit_5_c | 5, .d => .bit_5_d | 5, .e => .bit_5_e | 5, .h => .bit_5_h
  | 5, .l => .bit_5_l | 5, .hlm => .bit_5_hlm | 5, .a => .bit_5_a | 6, .b => .bit_6_b | 6, .c => .bit_6_c
  | 6, .d => .bit_6_d | 6, .e => .bit_6_e | 6, .h => .bit_6_h | 6, .l => .bit_6_l | 6, .hlm => .bit_6_hlm
  | 6, .a => .bit_6_a | _, .b => .bit_7_b | _, .c => .bit_7_c | _, .d => .bit_7_d | _, .e => .bit_7_e
  | _, .h => .bit_7_h | _, .l => .bit_7_l | _, .hlm => .bit_7_hlm | _, .a => .bit_7_a

/-- RES b,r (R410). -/
def resInstr (b : BitVec 3) (k : R8) : Instr :=
  match b.toNat, k with
  | 0, .b => .res_0_b | 0, .c => .res_0_c | 0, .d => .res_0_d | 0, .e => .res_0_e | 0, .h => .res_0_h
  | 0, .l => .res_0_l | 0, .hlm => .res_0_hlm | 0, .a => .res_0_a | 1, .b => .res_1_b | 1, .c => .res_1_c
  | 1, .d => .res_1_d | 1, .e => .res_1_e | 1, .h => .res_1_h | 1, .l => .res_1_l | 1, .hlm => .res_1_hlm
  | 1, .a => .res_1_a | 2, .b => .res_2_b | 2, .c => .res_2_c | 2, .d => .res_2_d | 2, .e => .res_2_e
  | 2, .h => .res_2_h | 2, .l => .res_2_l | 2, .hlm => .res_2_hlm | 2, .a => .res_2_a | 3, .b => .res_3_b
  | 3, .c => .res_3_c | 3, .d => .res_3_d | 3, .e => .res_3_e | 3, .h => .res_3_h | 3, .l => .res_3_l
  | 3, .hlm => .res_3_hlm | 3, .a => .res_3_a | 4, .b => .res_4_b | 4, .c => .res_4_c | 4, .d => .res_4_d
  | 4, .e => .res_4_e | 4, .h => .res_4_h | 4, .l => .res_4_l | 4, .hlm => .res_4_hlm | 4, .a => .res_4_a
  | 5, .b => .res_5_b | 5, .c => .res_5_c | 5, .d => .res_5_d | 5, .e => .res_5_e | 5, .h => .res_5_h
  | 5, .l => .res_5_l | 5, .hlm => .res_5_hlm | 5, .a => .res_5_a | 6, .b => .res_6_b | 6, .c => .res_6_c
  | 6, .d => .res_6_d | 6, .e => .res_6_e | 6, .h => .res_6_h | 6, .l => .res_6_l | 6, .hlm => .res_6_hlm
  | 6, .a => .res_6_a | _, .b => .res_7_b | _, .c => .res_7_c | _, .d => .res_7_d | _, .e => .res_7_e
  | _, .h => .res_7_h | _, .l => .res_7_l | _, .hlm => .res_7_hlm | _, .a => .res_7_a

/-- SET b,r (R411). -/
def setInstr (b : BitVec 3) (k : R8) : Instr :=
  match b.toNat, k with
  | 0, .b => .set_0_b | 0, .c => .set_0_c | 0, .d => .set_0_d | 0, .e => .set_0_e | 0, .h => .set_0_h
  | 0, .l => .set_0_l | 0, .hlm => .set_0_hlm | 0, .a => .set_0_a | 1, .b => .set_1_b | 1, .c => .set_1_c
  | 1, .d => .set_1_d | 1, .e => .set_1_e | 1, .h => .set_1_h | 1, .l => .set_1_l | 1, .hlm => .set_1_hlm
  | 1, .a => .set_1_a | 2, .b => .set_2_b | 2, .c => .set_2_c | 2, .d => .set_2_d | 2, .e => .set_2_e
  | 2, .h => .set_2_h | 2, .l => .set_2_l | 2, .hlm => .set_2_hlm | 2, .a => .set_2_a | 3, .b => .set_3_b
  | 3, .c => .set_3_c | 3, .d => .set_3_d | 3, .e => .set_3_e | 3, .h => .set_3_h | 3, .l => .set_3_l
  | 3, .hlm => .set_3_hlm | 3, .a => .set_3_a | 4, .b => .set_4_b | 4, .c => .set_4_c | 4, .d => .set_4_d
  | 4, .e => .set_4_e | 4, .h => .set_4_h | 4, .l => .set_4_l | 4, .hlm => .set_4_hlm | 4, .a => .set_4_a
  | 5, .b => .set_5_b | 5, .c => .set_5_c | 5, .d => .set_5_d | 5, .e => .set_5_e | 5, .h => .set_5_h
  | 5, .l => .set_5_l | 5, .hlm => .set_5_hlm | 5, .a => .set_5_a | 6, .b => .set_6_b | 6, .c => .set_6_c
  | 6, .d => .set_6_d | 6, .e => .set_6_e | 6, .h => .set_6_h | 6, .l => .set_6_l | 6, .hlm => .set_6_hlm
  | 6, .a => .set_6_a | _, .b => .set_7_b | _, .c => .set_7_c | _, .d => .set_7_d | _, .e => .set_7_e
  | _, .h => .set_7_h | _, .l => .set_7_l | _, .hlm => .set_7_hlm | _, .a => .set_7_a

/-- How many bytes a CPU-8 instruction has, by its first byte (R200). -/
def length8 (op : Nat) : Nat :=
  match bits op 7 6, bits op 2 0, bits op 5 3 with
  | 0, 0, 0 => 1 | 0, 0, 1 => 3 | 0, 0, _ => 2
  | 0, 1, y => if y % 2 = 0 then 3 else 1
  | 0, 6, _ => 2
  | 3, 0, y => if y < 4 then 1 else 2
  | 3, 2, y => if y < 4 ∨ y = 5 ∨ y = 7 then 3 else 1
  | 3, 3, 0 => 3 | 3, 3, 1 => 2
  | 3, 4, y => if y < 4 then 3 else 1
  | 3, 5, 1 => 3
  | 3, 6, _ => 2
  | _, _, _ => 1

/-- The primary map (R204) by the fields of R201, with x = 0. -/
def decodeBlock0 (y z : Nat) (n : Byte) (nn : Half) : Instr :=
  match z, y with
  | 0, 0 => .nop | 0, 1 => .ld_nnm_sp nn | 0, 2 => .stop n | 0, 3 => .jr_e n
  | 0, y => jrInstr (Cc.ofCode (y % 4)) n
  | 1, y => if y % 2 = 0 then ldPairInstr (RP.ofCode (y / 2)) nn else addHlInstr (RP.ofCode (y / 2))
  | 2, 0 => .ld_bcm_a | 2, 1 => .ld_a_bcm | 2, 2 => .ld_dem_a | 2, 3 => .ld_a_dem
  | 2, 4 => .ld_hli_a | 2, 5 => .ld_a_hli | 2, 6 => .ld_hld_a | 2, _ => .ld_a_hld
  | 3, y => if y % 2 = 0 then incPairInstr (RP.ofCode (y / 2)) else decPairInstr (RP.ofCode (y / 2))
  | 4, y => incInstr (R8.ofCode y)
  | 5, y => decInstr (R8.ofCode y)
  | 6, y => ldImmInstr (R8.ofCode y) n
  | _, y => rotateAInstr y

/-- The primary map (R204) by the fields of R201, with x = 3; the eleven illegal codes of R206 stand here. -/
def decodeBlock3 (y z : Nat) (n : Byte) (nn : Half) : Instr :=
  match z, y with
  | 0, 4 => .ldh_nm_a n | 0, 5 => .add_sp_e n | 0, 6 => .ldh_a_nm n | 0, 7 => .ld_hl_sp_e n
  | 0, y => retInstr (Cc.ofCode y)
  | 1, 1 => .ret | 1, 3 => .reti | 1, 5 => .jp_hl | 1, 7 => .ld_sp_hl
  | 1, y => popInstr (QQ.ofCode (y / 2))
  | 2, 4 => .ld_cm_a | 2, 5 => .ld_nnm_a nn | 2, 6 => .ld_a_cm | 2, 7 => .ld_a_nnm nn
  | 2, y => jpInstr (Cc.ofCode y) nn
  | 3, 0 => .jp_nn nn | 3, 1 => .cbPrefix n | 3, 2 => .illegal_d3 | 3, 3 => .illegal_db
  | 3, 4 => .illegal_e3 | 3, 5 => .illegal_eb | 3, 6 => .di | 3, _ => .ei
  | 4, 4 => .illegal_e4 | 4, 5 => .illegal_ec | 4, 6 => .illegal_f4 | 4, 7 => .illegal_fc
  | 4, y => callInstr (Cc.ofCode y) nn
  | 5, 1 => .call_nn nn | 5, 3 => .illegal_dd | 5, 5 => .illegal_ed | 5, 7 => .illegal_fd
  | 5, y => pushInstr (QQ.ofCode (y / 2))
  | 6, y => aluImmInstr (Alu8.ofCode y) n
  | _, y => rstInstr (BitVec.ofNat 3 y)

/-- The primary map (R204). -/
def decodePrimary (op : Nat) (n : Byte) (nn : Half) : Instr :=
  match bits op 7 6 with
  | 0 => decodeBlock0 (bits op 5 3) (bits op 2 0) n nn
  | 1 => ldInstr (R8.ofCode (bits op 5 3)) (R8.ofCode (bits op 2 0))
  | 2 => aluInstr (Alu8.ofCode (bits op 5 3)) (R8.ofCode (bits op 2 0))
  | _ => decodeBlock3 (bits op 5 3) (bits op 2 0) n nn

/-- The CB map (R205). -/
def decodeCb (op : Nat) : Instr :=
  match bits op 7 6 with
  | 0 => rotInstr (Rot8.ofCode (bits op 5 3)) (R8.ofCode (bits op 2 0))
  | 1 => bitInstr (fld 3 op 3) (R8.ofCode (bits op 2 0))
  | 2 => resInstr (fld 3 op 3) (R8.ofCode (bits op 2 0))
  | _ => setInstr (fld 3 op 3) (R8.ofCode (bits op 2 0))

/-- CPU-8 bytes: the opcode, then its immediate bytes, low byte first (R200, R203). -/
def decode8 : List Byte → Except DecodeError (Instr × List Byte)
  | [] => .error .tooFewBytes
  | op :: rest =>
    match length8 op.toNat, rest with
    | 1, rest => .ok (decodePrimary op.toNat 0 0, rest)
    | 2, n :: rest => .ok (if op = 0xCB#8 then decodeCb n.toNat else decodePrimary op.toNat n 0, rest)
    | 3, lo :: hi :: rest => .ok (decodePrimary op.toNat lo (hi ++ lo), rest)
    | _, _ => .error .tooFewBytes

/-! The ARM decoder: R212 in its order. -/

/-- The fields every data-processing word shares (R211). -/
def dpFields (w : Nat) : Dp :=
  { cond := Cond.ofCode (bits w 31 28), s := flag w 20, rn := fld 4 w 16, rd := fld 4 w 12 }

/-- As `dpFields`, for the test operations. -/
def dpTestFields (w : Nat) : DpTest :=
  { cond := Cond.ofCode (bits w 31 28), rn := fld 4 w 16, rd := fld 4 w 12 }

/-- The rotated immediate of R501. -/
def immFields (w : Nat) : Op2Imm := { rot := fld 4 w 8, imm := fld 8 w 0 }

/-- The register shifted by an immediate of R502. -/
def shiftFields (w : Nat) : Op2Shift :=
  { amount := fld 5 w 7, kind := Shift.ofCode (bits w 6 5), rm := fld 4 w 0 }

/-- The register shifted by a register of R503. -/
def regShiftFields (w : Nat) : Op2RegShift :=
  { rs := fld 4 w 8, kind := Shift.ofCode (bits w 6 5), rm := fld 4 w 0 }

/-- The indexing fields of R560 and R565. -/
def indexFields (w : Nat) : Index :=
  { cond := Cond.ofCode (bits w 31 28), pre := flag w 24, up := flag w 23, wb := flag w 21
    rn := fld 4 w 16, rd := fld 4 w 12 }

/-- The fields of MUL and MLA (R211): Rd is bits 19..16. -/
def mulFields (w : Nat) : MulOps :=
  { cond := Cond.ofCode (bits w 31 28), s := flag w 20, rd := fld 4 w 16, rn := fld 4 w 12
    rs := fld 4 w 8, rm := fld 4 w 0 }

/-- The fields of the long multiplies (R211). -/
def longMulFields (w : Nat) : LongMulOps :=
  { cond := Cond.ofCode (bits w 31 28), s := flag w 20, rdHi := fld 4 w 16, rdLo := fld 4 w 12
    rs := fld 4 w 8, rm := fld 4 w 0 }

/-- The fields of SWP and SWPB (R211). -/
def swapFields (w : Nat) : SwapOps :=
  { cond := Cond.ofCode (bits w 31 28), rn := fld 4 w 16, rd := fld 4 w 12, rm := fld 4 w 0 }

/-- Halfword register-offset fields (R565). -/
def halfRegFields (w : Nat) : HalfReg := { ix := indexFields w, rm := fld 4 w 0 }

/-- Halfword immediate-offset fields (R565). -/
def halfImmFields (w : Nat) : HalfImm := { ix := indexFields w, hi := fld 4 w 8, lo := fld 4 w 0 }

/-- Single-transfer immediate-offset fields (R560). -/
def xferImmFields (w : Nat) : XferImm := { ix := indexFields w, offset := fld 12 w 0 }

/-- Single-transfer register-offset fields (R560). -/
def xferRegFields (w : Nat) : XferReg := { ix := indexFields w, op2 := shiftFields w }

/-- Block-transfer fields (R580). -/
def blockFields (w : Nat) : BlockOps :=
  { cond := Cond.ofCode (bits w 31 28), pre := flag w 24, up := flag w 23, s := flag w 22, wb := flag w 21
    rn := fld 4 w 16, list := fld 16 w 0 }

/-- Branch fields (R610). -/
def branchFields (w : Nat) : BranchOps :=
  { cond := Cond.ofCode (bits w 31 28), offset := fld 24 w 0 }

/-- The four multiplies by A, and the long ones by U and A (R211). -/
def mulInstr (w : Nat) : Instr :=
  if flag w 21 then .armMla (mulFields w) else .armMul (mulFields w)

/-- The long multiplies by the signed bit and A (R211). -/
def longMulInstr (w : Nat) : Instr :=
  match flag w 22, flag w 21 with
  | false, false => .armUmull (longMulFields w)
  | false, true => .armUmlal (longMulFields w)
  | true, false => .armSmull (longMulFields w)
  | true, true => .armSmlal (longMulFields w)

/-- Row 6 of R212 by L and SH (R565). -/
def halfRegInstr (w : Nat) : Instr :=
  if isStoreSigned w then .armUndefStoreSignedReg (BitVec.ofNat 32 w)
  else if flag w 20 = false then .armStrhReg (halfRegFields w)
  else match bits w 6 5 with
    | 1 => .armLdrhReg (halfRegFields w)
    | 2 => .armLdrsbReg (halfRegFields w)
    | _ => .armLdrshReg (halfRegFields w)

/-- Row 7 of R212 by L and SH (R565). -/
def halfImmInstr (w : Nat) : Instr :=
  if isStoreSigned w then .armUndefStoreSignedImm (BitVec.ofNat 32 w)
  else if flag w 20 = false then .armStrhImm (halfImmFields w)
  else match bits w 6 5 with
    | 1 => .armLdrhImm (halfImmFields w)
    | 2 => .armLdrsbImm (halfImmFields w)
    | _ => .armLdrshImm (halfImmFields w)

/-- The data-processing rows by operation, operand form Imm (R213). -/
def dpImmInstr (op : DpOp) (d : Dp) (op2 : Op2Imm) : Instr :=
  match op with
  | .and => .armAndImm d op2
  | .eor => .armEorImm d op2
  | .sub => .armSubImm d op2
  | .rsb => .armRsbImm d op2
  | .add => .armAddImm d op2
  | .adc => .armAdcImm d op2
  | .sbc => .armSbcImm d op2
  | .rsc => .armRscImm d op2
  | .tst => .armTstImm { cond := d.cond, rn := d.rn, rd := d.rd } op2
  | .teq => .armTeqImm { cond := d.cond, rn := d.rn, rd := d.rd } op2
  | .cmp => .armCmpImm { cond := d.cond, rn := d.rn, rd := d.rd } op2
  | .cmn => .armCmnImm { cond := d.cond, rn := d.rn, rd := d.rd } op2
  | .orr => .armOrrImm d op2
  | .mov => .armMovImm d op2
  | .bic => .armBicImm d op2
  | .mvn => .armMvnImm d op2

/-- The data-processing rows by operation, operand form Shift (R213). -/
def dpShiftInstr (op : DpOp) (d : Dp) (op2 : Op2Shift) : Instr :=
  match op with
  | .and => .armAndShift d op2
  | .eor => .armEorShift d op2
  | .sub => .armSubShift d op2
  | .rsb => .armRsbShift d op2
  | .add => .armAddShift d op2
  | .adc => .armAdcShift d op2
  | .sbc => .armSbcShift d op2
  | .rsc => .armRscShift d op2
  | .tst => .armTstShift { cond := d.cond, rn := d.rn, rd := d.rd } op2
  | .teq => .armTeqShift { cond := d.cond, rn := d.rn, rd := d.rd } op2
  | .cmp => .armCmpShift { cond := d.cond, rn := d.rn, rd := d.rd } op2
  | .cmn => .armCmnShift { cond := d.cond, rn := d.rn, rd := d.rd } op2
  | .orr => .armOrrShift d op2
  | .mov => .armMovShift d op2
  | .bic => .armBicShift d op2
  | .mvn => .armMvnShift d op2

/-- The data-processing rows by operation, operand form RegShift (R213). -/
def dpRegShiftInstr (op : DpOp) (d : Dp) (op2 : Op2RegShift) : Instr :=
  match op with
  | .and => .armAndRegShift d op2
  | .eor => .armEorRegShift d op2
  | .sub => .armSubRegShift d op2
  | .rsb => .armRsbRegShift d op2
  | .add => .armAddRegShift d op2
  | .adc => .armAdcRegShift d op2
  | .sbc => .armSbcRegShift d op2
  | .rsc => .armRscRegShift d op2
  | .tst => .armTstRegShift { cond := d.cond, rn := d.rn, rd := d.rd } op2
  | .teq => .armTeqRegShift { cond := d.cond, rn := d.rn, rd := d.rd } op2
  | .cmp => .armCmpRegShift { cond := d.cond, rn := d.rn, rd := d.rd } op2
  | .cmn => .armCmnRegShift { cond := d.cond, rn := d.rn, rd := d.rd } op2
  | .orr => .armOrrRegShift d op2
  | .mov => .armMovRegShift d op2
  | .bic => .armBicRegShift d op2
  | .mvn => .armMvnRegShift d op2

/-- Row 13 of R212: the operand-2 form by bits 25, 4 and 7 (R213). -/
def dataProcInstr (w : Nat) : Instr :=
  if flag w 25 then dpImmInstr (DpOp.ofCode (bits w 24 21)) (dpFields w) (immFields w)
  else if flag w 4 = false then dpShiftInstr (DpOp.ofCode (bits w 24 21)) (dpFields w) (shiftFields w)
  else dpRegShiftInstr (DpOp.ofCode (bits w 24 21)) (dpFields w) (regShiftFields w)

/-- Row 15 of R212 by I, B and L (R560). -/
def singleInstr (w : Nat) : Instr :=
  if flag w 25 then
    match flag w 22, flag w 20 with
    | false, false => .armStrReg (xferRegFields w)
    | false, true => .armLdrReg (xferRegFields w)
    | true, false => .armStrbReg (xferRegFields w)
    | true, true => .armLdrbReg (xferRegFields w)
  else
    match flag w 22, flag w 20 with
    | false, false => .armStrImm (xferImmFields w)
    | false, true => .armLdrImm (xferImmFields w)
    | true, false => .armStrbImm (xferImmFields w)
    | true, true => .armLdrbImm (xferImmFields w)

/-- An ARM word (R212). -/
def decodeArmWord (w : Nat) : Instr :=
  if isReserved w then .armReservedCond (BitVec.ofNat 32 w)
  else if isBx w then .armBx { cond := Cond.ofCode (bits w 31 28), rm := fld 4 w 0 }
  else if isMul w then mulInstr w
  else if isLongMul w then longMulInstr w
  else if isSwap w then (if flag w 22 then .armSwpb (swapFields w) else .armSwp (swapFields w))
  else if isHalfReg w then halfRegInstr w
  else if isHalfImm w then halfImmInstr w
  else if isMulSpace w then .armUndefMultiplySpace (BitVec.ofNat 32 w)
  else if isMrs w then
    .armMrs { cond := Cond.ofCode (bits w 31 28), spsr := flag w 22, rd := fld 4 w 12, sbz := fld 12 w 0 }
  else if isMsrReg w then
    .armMsrReg { cond := Cond.ofCode (bits w 31 28), spsr := flag w 22, fields := fld 4 w 16
                 sbz := fld 8 w 4, rm := fld 4 w 0 }
  else if isMsrImm w then
    .armMsrImm { cond := Cond.ofCode (bits w 31 28), spsr := flag w 22, fields := fld 4 w 16
                 op2 := immFields w }
  else if isCompareNoS w then .armUndefCompareNoS (BitVec.ofNat 32 w)
  else if isDataProc w then dataProcInstr w
  else if isUndefSpace w then .armUndefSpace (BitVec.ofNat 32 w)
  else
    match bits w 27 25 with
    | 2 => singleInstr w
    | 3 => singleInstr w
    | 4 => if flag w 20 then .armLdm (blockFields w) else .armStm (blockFields w)
    | 5 => if flag w 24 then .armBl (branchFields w) else .armB (branchFields w)
    | 6 => .armLdcStc (BitVec.ofNat 32 w)
    | _ =>
      if isCdpMrcMcr w then .armCdpMrcMcr (BitVec.ofNat 32 w)
      else .armSwi { cond := Cond.ofCode (bits w 31 28), comment := fld 24 w 0 }

/-! The THUMB decoder (R220, R222). -/

/-- THUMB format 4 by its op field (R220). -/
def thumbAluInstr (op : Nat) (rd rs : LowReg) : Instr :=
  match op with
  | 0 => .thumbAnd rd rs | 1 => .thumbEor rd rs | 2 => .thumbLsl rd rs | 3 => .thumbLsr rd rs | 4 => .thumbAsr rd rs
  | 5 => .thumbAdc rd rs | 6 => .thumbSbc rd rs | 7 => .thumbRor rd rs | 8 => .thumbTst rd rs | 9 => .thumbNeg rd rs
  | 10 => .thumbCmp rd rs | 11 => .thumbCmn rd rs | 12 => .thumbOrr rd rs | 13 => .thumbMul rd rs
  | 14 => .thumbBic rd rs | _ => .thumbMvn rd rs

/-- THUMB formats 7 and 8 by bits 11..9 (R220). -/
def thumbRegXferInstr (op : Nat) (rd rb ro : LowReg) : Instr :=
  match op with
  | 0 => .thumbStrReg rd rb ro | 1 => .thumbStrhReg rd rb ro | 2 => .thumbStrbReg rd rb ro
  | 3 => .thumbLdsbReg rd rb ro | 4 => .thumbLdrReg rd rb ro | 5 => .thumbLdrhReg rd rb ro
  | 6 => .thumbLdrbReg rd rb ro | _ => .thumbLdshReg rd rb ro

/-- THUMB words 0x4000 to 0x47FF, formats 4 and 5 (R220, R222). -/
def thumbAluSpace (w : Nat) : Instr :=
  match bits w 10 8 with
  | 4 => .thumbAddHi (BitVec.ofNat 4 (bits w 7 7 * 8 + bits w 2 0)) (fld 4 w 3)
  | 5 => .thumbCmpHi (BitVec.ofNat 4 (bits w 7 7 * 8 + bits w 2 0)) (fld 4 w 3)
  | 6 => .thumbMovHi (BitVec.ofNat 4 (bits w 7 7 * 8 + bits w 2 0)) (fld 4 w 3)
  | 7 => if flag w 7 then .thumbUndefBlx (BitVec.ofNat 16 w) else .thumbBx (fld 4 w 3)
  | _ => thumbAluInstr (bits w 9 6) (fld 3 w 0) (fld 3 w 3)

/-- THUMB words 0xB000 to 0xBFFF, formats 13 and 14 and the spaces beside them (R220, R222). -/
def thumbMiscSpace (w : Nat) : Instr :=
  match bits w 11 8 with
  | 0 => .thumbAdjustSp (flag w 7) (fld 7 w 0)
  | 1 => .thumbUndefB1 (BitVec.ofNat 16 w)
  | 2 => .thumbUndefB2 (BitVec.ofNat 16 w)
  | 3 => .thumbUndefB2 (BitVec.ofNat 16 w)
  | 4 => .thumbPush false (fld 8 w 0)
  | 5 => .thumbPush true (fld 8 w 0)
  | 6 => .thumbUndefB6 (BitVec.ofNat 16 w)
  | 7 => .thumbUndefB6 (BitVec.ofNat 16 w)
  | 12 => .thumbPop false (fld 8 w 0)
  | 13 => .thumbPop true (fld 8 w 0)
  | 14 => .thumbUndefBE (BitVec.ofNat 16 w)
  | 15 => .thumbUndefBE (BitVec.ofNat 16 w)
  | _ => .thumbUndefB8 (BitVec.ofNat 16 w)

/-- THUMB words 0xD000 to 0xDFFF, formats 16 and 17 and condition 14 (R220, R222). -/
def thumbCondSpace (w : Nat) : Instr :=
  match bits w 11 8 with
  | 14 => .thumbUndefCond14 (BitVec.ofNat 16 w)
  | 15 => .thumbSwi (fld 8 w 0)
  | c => .thumbBCond (Cond.ofCode c) (fld 8 w 0)

/-- THUMB words 0x1800 to 0x1FFF, format 2 (R220). -/
def thumbAddSubSpace (w : Nat) : Instr :=
  match bits w 10 9 with
  | 0 => .thumbAddReg (fld 3 w 0) (fld 3 w 3) (fld 3 w 6)
  | 1 => .thumbSubReg (fld 3 w 0) (fld 3 w 3) (fld 3 w 6)
  | 2 => .thumbAddImm3 (fld 3 w 0) (fld 3 w 3) (fld 3 w 6)
  | _ => .thumbSubImm3 (fld 3 w 0) (fld 3 w 3) (fld 3 w 6)

/-- A THUMB halfword, by its top five bits (R220). -/
def decodeThumbWord (w : Nat) : Instr :=
  match bits w 15 11 with
  | 0 => .thumbLslImm (fld 3 w 0) (fld 3 w 3) (fld 5 w 6)
  | 1 => .thumbLsrImm (fld 3 w 0) (fld 3 w 3) (fld 5 w 6)
  | 2 => .thumbAsrImm (fld 3 w 0) (fld 3 w 3) (fld 5 w 6)
  | 3 => thumbAddSubSpace w
  | 4 => .thumbMovImm (fld 3 w 8) (fld 8 w 0)
  | 5 => .thumbCmpImm (fld 3 w 8) (fld 8 w 0)
  | 6 => .thumbAddImm8 (fld 3 w 8) (fld 8 w 0)
  | 7 => .thumbSubImm8 (fld 3 w 8) (fld 8 w 0)
  | 8 => thumbAluSpace w
  | 9 => .thumbLdrPc (fld 3 w 8) (fld 8 w 0)
  | 10 => thumbRegXferInstr (bits w 11 9) (fld 3 w 0) (fld 3 w 3) (fld 3 w 6)
  | 11 => thumbRegXferInstr (bits w 11 9) (fld 3 w 0) (fld 3 w 3) (fld 3 w 6)
  | 12 => .thumbStrImm (fld 3 w 0) (fld 3 w 3) (fld 5 w 6)
  | 13 => .thumbLdrImm (fld 3 w 0) (fld 3 w 3) (fld 5 w 6)
  | 14 => .thumbStrbImm (fld 3 w 0) (fld 3 w 3) (fld 5 w 6)
  | 15 => .thumbLdrbImm (fld 3 w 0) (fld 3 w 3) (fld 5 w 6)
  | 16 => .thumbStrhImm (fld 3 w 0) (fld 3 w 3) (fld 5 w 6)
  | 17 => .thumbLdrhImm (fld 3 w 0) (fld 3 w 3) (fld 5 w 6)
  | 18 => .thumbStrSp (fld 3 w 8) (fld 8 w 0)
  | 19 => .thumbLdrSp (fld 3 w 8) (fld 8 w 0)
  | 20 => .thumbAddPc (fld 3 w 8) (fld 8 w 0)
  | 21 => .thumbAddSp (fld 3 w 8) (fld 8 w 0)
  | 22 => thumbMiscSpace w
  | 23 => thumbMiscSpace w
  | 24 => .thumbStmia (fld 3 w 8) (fld 8 w 0)
  | 25 => .thumbLdmia (fld 3 w 8) (fld 8 w 0)
  | 26 => thumbCondSpace w
  | 27 => thumbCondSpace w
  | 28 => .thumbB (fld 11 w 0)
  | 29 => .thumbUndefE8 (BitVec.ofNat 16 w)
  | 30 => .thumbBlHi (fld 11 w 0)
  | _ => .thumbBlLo (fld 11 w 0)

/-- Decode the instruction at the head of a byte list, with what follows it. -/
def decode (isa : Isa) (bytes : List Byte) : Except DecodeError (Instr × List Byte) :=
  match isa, bytes with
  | .cpu8, bs => decode8 bs
  | .arm, b0 :: b1 :: b2 :: b3 :: rest => .ok (decodeArmWord (ofLeBytes [b0, b1, b2, b3]), rest)
  | .thumb, b0 :: b1 :: rest => .ok (decodeThumbWord (ofLeBytes [b0, b1]), rest)
  | .arm, _ => .error .tooFewBytes
  | .thumb, _ => .error .tooFewBytes

/-! The encoder. -/

/-- One bit as a number. -/
def bit (b : Bool) : Nat := if b then 1 else 0

/-- The operand-2 fields of the immediate form (R501), bits 11..0. -/
def Op2Imm.packed (x : Op2Imm) : List (Nat × Nat) := [(4, x.rot.toNat), (8, x.imm.toNat)]

/-- The operand-2 fields of the immediate-shift form (R502), bits 11..0. -/
def Op2Shift.packed (x : Op2Shift) : List (Nat × Nat) :=
  [(5, x.amount.toNat), (2, x.kind.code), (1, 0), (4, x.rm.toNat)]

/-- The operand-2 fields of the register-shift form (R503), bits 11..0. -/
def Op2RegShift.packed (x : Op2RegShift) : List (Nat × Nat) :=
  [(4, x.rs.toNat), (1, 0), (2, x.kind.code), (1, 1), (4, x.rm.toNat)]

/-- A data-processing word (R211): condition, 00, I, operation, S, Rn, Rd, operand 2. -/
def encodeDp (op : DpOp) (imm : Bool) (d : Dp) (op2 : List (Nat × Nat)) : Nat :=
  pack ([(4, d.cond.code), (2, 0), (1, bit imm), (4, op.code), (1, bit d.s), (4, d.rn.toNat),
    (4, d.rd.toNat)] ++ op2) 0

/-- MUL and MLA (R211). -/
def encodeMul (acc : Bool) (o : MulOps) : Nat :=
  pack [(4, o.cond.code), (6, 0), (1, bit acc), (1, bit o.s), (4, o.rd.toNat), (4, o.rn.toNat),
    (4, o.rs.toNat), (4, 9), (4, o.rm.toNat)] 0

/-- The long multiplies (R211). -/
def encodeLongMul (signed acc : Bool) (o : LongMulOps) : Nat :=
  pack [(4, o.cond.code), (5, 1), (1, bit signed), (1, bit acc), (1, bit o.s), (4, o.rdHi.toNat),
    (4, o.rdLo.toNat), (4, o.rs.toNat), (4, 9), (4, o.rm.toNat)] 0

/-- SWP and SWPB (R211). -/
def encodeSwap (byte : Bool) (o : SwapOps) : Nat :=
  pack [(4, o.cond.code), (5, 2), (1, bit byte), (2, 0), (4, o.rn.toNat), (4, o.rd.toNat), (8, 9),
    (4, o.rm.toNat)] 0

/-- Halfword and signed transfers, register offset (R211). -/
def encodeHalfReg (load : Bool) (sh : Nat) (o : HalfReg) : Nat :=
  pack [(4, o.ix.cond.code), (3, 0), (1, bit o.ix.pre), (1, bit o.ix.up), (1, 0), (1, bit o.ix.wb),
    (1, bit load), (4, o.ix.rn.toNat), (4, o.ix.rd.toNat), (5, 1), (2, sh), (1, 1), (4, o.rm.toNat)] 0

/-- Halfword and signed transfers, immediate offset (R211). -/
def encodeHalfImm (load : Bool) (sh : Nat) (o : HalfImm) : Nat :=
  pack [(4, o.ix.cond.code), (3, 0), (1, bit o.ix.pre), (1, bit o.ix.up), (1, 1), (1, bit o.ix.wb),
    (1, bit load), (4, o.ix.rn.toNat), (4, o.ix.rd.toNat), (4, o.hi.toNat), (1, 1), (2, sh), (1, 1),
    (4, o.lo.toNat)] 0

/-- LDR and STR (R211). -/
def encodeSingle (reg byte load : Bool) (ix : Index) (offset : List (Nat × Nat)) : Nat :=
  pack ([(4, ix.cond.code), (2, 1), (1, bit reg), (1, bit ix.pre), (1, bit ix.up), (1, bit byte),
    (1, bit ix.wb), (1, bit load), (4, ix.rn.toNat), (4, ix.rd.toNat)] ++ offset) 0

/-- LDM and STM (R211). -/
def encodeBlock (load : Bool) (o : BlockOps) : Nat :=
  pack [(4, o.cond.code), (3, 4), (1, bit o.pre), (1, bit o.up), (1, bit o.s), (1, bit o.wb),
    (1, bit load), (4, o.rn.toNat), (16, o.list.toNat)] 0

/-- B and BL (R211). -/
def encodeBranch (link : Bool) (o : BranchOps) : Nat :=
  pack [(4, o.cond.code), (3, 5), (1, bit link), (24, o.offset.toNat)] 0

/-- THUMB words with a 5-bit selector, a 5-bit field and two registers (formats 1, 9, 10). -/
def encodeThumb5 (top : Nat) (rd rs : LowReg) (imm : BitVec 5) : Nat :=
  pack [(5, top), (5, imm.toNat), (3, rs.toNat), (3, rd.toNat)] 0

/-- THUMB words with a 7-bit selector and three registers (formats 2, 7, 8). -/
def encodeThumb3 (top : Nat) (rd rs rn : LowReg) : Nat :=
  pack [(7, top), (3, rn.toNat), (3, rs.toNat), (3, rd.toNat)] 0

/-- THUMB words with a 5-bit selector, a register and a byte (formats 3, 6, 11, 12, 15). -/
def encodeThumb8 (top : Nat) (rd : LowReg) (imm : Byte) : Nat :=
  pack [(5, top), (3, rd.toNat), (8, imm.toNat)] 0

/-- THUMB format 4 by its op field. -/
def encodeThumbAlu (op : Nat) (rd rs : LowReg) : Nat :=
  pack [(6, 16), (4, op), (3, rs.toNat), (3, rd.toNat)] 0

/-- THUMB format 5, with H and h above the low three bits of each register. -/
def encodeThumbHigh (op : Nat) (hd hs : RegNum) : Nat :=
  pack [(8, op), (1, hd.toNat / 8), (1, hs.toNat / 8), (3, hs.toNat % 8), (3, hd.toNat % 8)] 0

/-- The instruction's bits as spec/opcode_table.json numbers them, and how many bytes it has. -/
def Instr.word : Instr → Nat × Nat
  | .nop => (1, 0x00)
  | .ld_bc_nn nn => (3, nn.toNat * 256 + 0x01)
  | .ld_bcm_a => (1, 0x02)
  | .inc_bc => (1, 0x03)
  | .inc_b => (1, 0x04)
  | .dec_b => (1, 0x05)
  | .ld_b_n n => (2, n.toNat * 256 + 0x06)
  | .rlca => (1, 0x07)
  | .ld_nnm_sp nn => (3, nn.toNat * 256 + 0x08)
  | .add_hl_bc => (1, 0x09)
  | .ld_a_bcm => (1, 0x0A)
  | .dec_bc => (1, 0x0B)
  | .inc_c => (1, 0x0C)
  | .dec_c => (1, 0x0D)
  | .ld_c_n n => (2, n.toNat * 256 + 0x0E)
  | .rrca => (1, 0x0F)
  | .stop n => (2, n.toNat * 256 + 0x10)
  | .ld_de_nn nn => (3, nn.toNat * 256 + 0x11)
  | .ld_dem_a => (1, 0x12)
  | .inc_de => (1, 0x13)
  | .inc_d => (1, 0x14)
  | .dec_d => (1, 0x15)
  | .ld_d_n n => (2, n.toNat * 256 + 0x16)
  | .rla => (1, 0x17)
  | .jr_e n => (2, n.toNat * 256 + 0x18)
  | .add_hl_de => (1, 0x19)
  | .ld_a_dem => (1, 0x1A)
  | .dec_de => (1, 0x1B)
  | .inc_e => (1, 0x1C)
  | .dec_e => (1, 0x1D)
  | .ld_e_n n => (2, n.toNat * 256 + 0x1E)
  | .rra => (1, 0x1F)
  | .jr_nz_e n => (2, n.toNat * 256 + 0x20)
  | .ld_hl_nn nn => (3, nn.toNat * 256 + 0x21)
  | .ld_hli_a => (1, 0x22)
  | .inc_hl => (1, 0x23)
  | .inc_h => (1, 0x24)
  | .dec_h => (1, 0x25)
  | .ld_h_n n => (2, n.toNat * 256 + 0x26)
  | .daa => (1, 0x27)
  | .jr_z_e n => (2, n.toNat * 256 + 0x28)
  | .add_hl_hl => (1, 0x29)
  | .ld_a_hli => (1, 0x2A)
  | .dec_hl => (1, 0x2B)
  | .inc_l => (1, 0x2C)
  | .dec_l => (1, 0x2D)
  | .ld_l_n n => (2, n.toNat * 256 + 0x2E)
  | .cpl => (1, 0x2F)
  | .jr_nc_e n => (2, n.toNat * 256 + 0x30)
  | .ld_sp_nn nn => (3, nn.toNat * 256 + 0x31)
  | .ld_hld_a => (1, 0x32)
  | .inc_sp => (1, 0x33)
  | .inc_hlm => (1, 0x34)
  | .dec_hlm => (1, 0x35)
  | .ld_hlm_n n => (2, n.toNat * 256 + 0x36)
  | .scf => (1, 0x37)
  | .jr_c_e n => (2, n.toNat * 256 + 0x38)
  | .add_hl_sp => (1, 0x39)
  | .ld_a_hld => (1, 0x3A)
  | .dec_sp => (1, 0x3B)
  | .inc_a => (1, 0x3C)
  | .dec_a => (1, 0x3D)
  | .ld_a_n n => (2, n.toNat * 256 + 0x3E)
  | .ccf => (1, 0x3F)
  | .ld_b_b => (1, 0x40)
  | .ld_b_c => (1, 0x41)
  | .ld_b_d => (1, 0x42)
  | .ld_b_e => (1, 0x43)
  | .ld_b_h => (1, 0x44)
  | .ld_b_l => (1, 0x45)
  | .ld_b_hlm => (1, 0x46)
  | .ld_b_a => (1, 0x47)
  | .ld_c_b => (1, 0x48)
  | .ld_c_c => (1, 0x49)
  | .ld_c_d => (1, 0x4A)
  | .ld_c_e => (1, 0x4B)
  | .ld_c_h => (1, 0x4C)
  | .ld_c_l => (1, 0x4D)
  | .ld_c_hlm => (1, 0x4E)
  | .ld_c_a => (1, 0x4F)
  | .ld_d_b => (1, 0x50)
  | .ld_d_c => (1, 0x51)
  | .ld_d_d => (1, 0x52)
  | .ld_d_e => (1, 0x53)
  | .ld_d_h => (1, 0x54)
  | .ld_d_l => (1, 0x55)
  | .ld_d_hlm => (1, 0x56)
  | .ld_d_a => (1, 0x57)
  | .ld_e_b => (1, 0x58)
  | .ld_e_c => (1, 0x59)
  | .ld_e_d => (1, 0x5A)
  | .ld_e_e => (1, 0x5B)
  | .ld_e_h => (1, 0x5C)
  | .ld_e_l => (1, 0x5D)
  | .ld_e_hlm => (1, 0x5E)
  | .ld_e_a => (1, 0x5F)
  | .ld_h_b => (1, 0x60)
  | .ld_h_c => (1, 0x61)
  | .ld_h_d => (1, 0x62)
  | .ld_h_e => (1, 0x63)
  | .ld_h_h => (1, 0x64)
  | .ld_h_l => (1, 0x65)
  | .ld_h_hlm => (1, 0x66)
  | .ld_h_a => (1, 0x67)
  | .ld_l_b => (1, 0x68)
  | .ld_l_c => (1, 0x69)
  | .ld_l_d => (1, 0x6A)
  | .ld_l_e => (1, 0x6B)
  | .ld_l_h => (1, 0x6C)
  | .ld_l_l => (1, 0x6D)
  | .ld_l_hlm => (1, 0x6E)
  | .ld_l_a => (1, 0x6F)
  | .ld_hlm_b => (1, 0x70)
  | .ld_hlm_c => (1, 0x71)
  | .ld_hlm_d => (1, 0x72)
  | .ld_hlm_e => (1, 0x73)
  | .ld_hlm_h => (1, 0x74)
  | .ld_hlm_l => (1, 0x75)
  | .halt => (1, 0x76)
  | .ld_hlm_a => (1, 0x77)
  | .ld_a_b => (1, 0x78)
  | .ld_a_c => (1, 0x79)
  | .ld_a_d => (1, 0x7A)
  | .ld_a_e => (1, 0x7B)
  | .ld_a_h => (1, 0x7C)
  | .ld_a_l => (1, 0x7D)
  | .ld_a_hlm => (1, 0x7E)
  | .ld_a_a => (1, 0x7F)
  | .add_a_b => (1, 0x80)
  | .add_a_c => (1, 0x81)
  | .add_a_d => (1, 0x82)
  | .add_a_e => (1, 0x83)
  | .add_a_h => (1, 0x84)
  | .add_a_l => (1, 0x85)
  | .add_a_hlm => (1, 0x86)
  | .add_a_a => (1, 0x87)
  | .adc_a_b => (1, 0x88)
  | .adc_a_c => (1, 0x89)
  | .adc_a_d => (1, 0x8A)
  | .adc_a_e => (1, 0x8B)
  | .adc_a_h => (1, 0x8C)
  | .adc_a_l => (1, 0x8D)
  | .adc_a_hlm => (1, 0x8E)
  | .adc_a_a => (1, 0x8F)
  | .sub_b => (1, 0x90)
  | .sub_c => (1, 0x91)
  | .sub_d => (1, 0x92)
  | .sub_e => (1, 0x93)
  | .sub_h => (1, 0x94)
  | .sub_l => (1, 0x95)
  | .sub_hlm => (1, 0x96)
  | .sub_a => (1, 0x97)
  | .sbc_a_b => (1, 0x98)
  | .sbc_a_c => (1, 0x99)
  | .sbc_a_d => (1, 0x9A)
  | .sbc_a_e => (1, 0x9B)
  | .sbc_a_h => (1, 0x9C)
  | .sbc_a_l => (1, 0x9D)
  | .sbc_a_hlm => (1, 0x9E)
  | .sbc_a_a => (1, 0x9F)
  | .and_b => (1, 0xA0)
  | .and_c => (1, 0xA1)
  | .and_d => (1, 0xA2)
  | .and_e => (1, 0xA3)
  | .and_h => (1, 0xA4)
  | .and_l => (1, 0xA5)
  | .and_hlm => (1, 0xA6)
  | .and_a => (1, 0xA7)
  | .xor_b => (1, 0xA8)
  | .xor_c => (1, 0xA9)
  | .xor_d => (1, 0xAA)
  | .xor_e => (1, 0xAB)
  | .xor_h => (1, 0xAC)
  | .xor_l => (1, 0xAD)
  | .xor_hlm => (1, 0xAE)
  | .xor_a => (1, 0xAF)
  | .or_b => (1, 0xB0)
  | .or_c => (1, 0xB1)
  | .or_d => (1, 0xB2)
  | .or_e => (1, 0xB3)
  | .or_h => (1, 0xB4)
  | .or_l => (1, 0xB5)
  | .or_hlm => (1, 0xB6)
  | .or_a => (1, 0xB7)
  | .cp_b => (1, 0xB8)
  | .cp_c => (1, 0xB9)
  | .cp_d => (1, 0xBA)
  | .cp_e => (1, 0xBB)
  | .cp_h => (1, 0xBC)
  | .cp_l => (1, 0xBD)
  | .cp_hlm => (1, 0xBE)
  | .cp_a => (1, 0xBF)
  | .ret_nz => (1, 0xC0)
  | .pop_bc => (1, 0xC1)
  | .jp_nz_nn nn => (3, nn.toNat * 256 + 0xC2)
  | .jp_nn nn => (3, nn.toNat * 256 + 0xC3)
  | .call_nz_nn nn => (3, nn.toNat * 256 + 0xC4)
  | .push_bc => (1, 0xC5)
  | .add_a_n n => (2, n.toNat * 256 + 0xC6)
  | .rst_00h => (1, 0xC7)
  | .ret_z => (1, 0xC8)
  | .ret => (1, 0xC9)
  | .jp_z_nn nn => (3, nn.toNat * 256 + 0xCA)
  | .cbPrefix n => (2, n.toNat * 256 + 0xCB)
  | .call_z_nn nn => (3, nn.toNat * 256 + 0xCC)
  | .call_nn nn => (3, nn.toNat * 256 + 0xCD)
  | .adc_a_n n => (2, n.toNat * 256 + 0xCE)
  | .rst_08h => (1, 0xCF)
  | .ret_nc => (1, 0xD0)
  | .pop_de => (1, 0xD1)
  | .jp_nc_nn nn => (3, nn.toNat * 256 + 0xD2)
  | .illegal_d3 => (1, 0xD3)
  | .call_nc_nn nn => (3, nn.toNat * 256 + 0xD4)
  | .push_de => (1, 0xD5)
  | .sub_n n => (2, n.toNat * 256 + 0xD6)
  | .rst_10h => (1, 0xD7)
  | .ret_c => (1, 0xD8)
  | .reti => (1, 0xD9)
  | .jp_c_nn nn => (3, nn.toNat * 256 + 0xDA)
  | .illegal_db => (1, 0xDB)
  | .call_c_nn nn => (3, nn.toNat * 256 + 0xDC)
  | .illegal_dd => (1, 0xDD)
  | .sbc_a_n n => (2, n.toNat * 256 + 0xDE)
  | .rst_18h => (1, 0xDF)
  | .ldh_nm_a n => (2, n.toNat * 256 + 0xE0)
  | .pop_hl => (1, 0xE1)
  | .ld_cm_a => (1, 0xE2)
  | .illegal_e3 => (1, 0xE3)
  | .illegal_e4 => (1, 0xE4)
  | .push_hl => (1, 0xE5)
  | .and_n n => (2, n.toNat * 256 + 0xE6)
  | .rst_20h => (1, 0xE7)
  | .add_sp_e n => (2, n.toNat * 256 + 0xE8)
  | .jp_hl => (1, 0xE9)
  | .ld_nnm_a nn => (3, nn.toNat * 256 + 0xEA)
  | .illegal_eb => (1, 0xEB)
  | .illegal_ec => (1, 0xEC)
  | .illegal_ed => (1, 0xED)
  | .xor_n n => (2, n.toNat * 256 + 0xEE)
  | .rst_28h => (1, 0xEF)
  | .ldh_a_nm n => (2, n.toNat * 256 + 0xF0)
  | .pop_af => (1, 0xF1)
  | .ld_a_cm => (1, 0xF2)
  | .di => (1, 0xF3)
  | .illegal_f4 => (1, 0xF4)
  | .push_af => (1, 0xF5)
  | .or_n n => (2, n.toNat * 256 + 0xF6)
  | .rst_30h => (1, 0xF7)
  | .ld_hl_sp_e n => (2, n.toNat * 256 + 0xF8)
  | .ld_sp_hl => (1, 0xF9)
  | .ld_a_nnm nn => (3, nn.toNat * 256 + 0xFA)
  | .ei => (1, 0xFB)
  | .illegal_fc => (1, 0xFC)
  | .illegal_fd => (1, 0xFD)
  | .cp_n n => (2, n.toNat * 256 + 0xFE)
  | .rst_38h => (1, 0xFF)
  | .rlc_b => (2, 0x00CB)
  | .rlc_c => (2, 0x01CB)
  | .rlc_d => (2, 0x02CB)
  | .rlc_e => (2, 0x03CB)
  | .rlc_h => (2, 0x04CB)
  | .rlc_l => (2, 0x05CB)
  | .rlc_hlm => (2, 0x06CB)
  | .rlc_a => (2, 0x07CB)
  | .rrc_b => (2, 0x08CB)
  | .rrc_c => (2, 0x09CB)
  | .rrc_d => (2, 0x0ACB)
  | .rrc_e => (2, 0x0BCB)
  | .rrc_h => (2, 0x0CCB)
  | .rrc_l => (2, 0x0DCB)
  | .rrc_hlm => (2, 0x0ECB)
  | .rrc_a => (2, 0x0FCB)
  | .rl_b => (2, 0x10CB)
  | .rl_c => (2, 0x11CB)
  | .rl_d => (2, 0x12CB)
  | .rl_e => (2, 0x13CB)
  | .rl_h => (2, 0x14CB)
  | .rl_l => (2, 0x15CB)
  | .rl_hlm => (2, 0x16CB)
  | .rl_a => (2, 0x17CB)
  | .rr_b => (2, 0x18CB)
  | .rr_c => (2, 0x19CB)
  | .rr_d => (2, 0x1ACB)
  | .rr_e => (2, 0x1BCB)
  | .rr_h => (2, 0x1CCB)
  | .rr_l => (2, 0x1DCB)
  | .rr_hlm => (2, 0x1ECB)
  | .rr_a => (2, 0x1FCB)
  | .sla_b => (2, 0x20CB)
  | .sla_c => (2, 0x21CB)
  | .sla_d => (2, 0x22CB)
  | .sla_e => (2, 0x23CB)
  | .sla_h => (2, 0x24CB)
  | .sla_l => (2, 0x25CB)
  | .sla_hlm => (2, 0x26CB)
  | .sla_a => (2, 0x27CB)
  | .sra_b => (2, 0x28CB)
  | .sra_c => (2, 0x29CB)
  | .sra_d => (2, 0x2ACB)
  | .sra_e => (2, 0x2BCB)
  | .sra_h => (2, 0x2CCB)
  | .sra_l => (2, 0x2DCB)
  | .sra_hlm => (2, 0x2ECB)
  | .sra_a => (2, 0x2FCB)
  | .swap_b => (2, 0x30CB)
  | .swap_c => (2, 0x31CB)
  | .swap_d => (2, 0x32CB)
  | .swap_e => (2, 0x33CB)
  | .swap_h => (2, 0x34CB)
  | .swap_l => (2, 0x35CB)
  | .swap_hlm => (2, 0x36CB)
  | .swap_a => (2, 0x37CB)
  | .srl_b => (2, 0x38CB)
  | .srl_c => (2, 0x39CB)
  | .srl_d => (2, 0x3ACB)
  | .srl_e => (2, 0x3BCB)
  | .srl_h => (2, 0x3CCB)
  | .srl_l => (2, 0x3DCB)
  | .srl_hlm => (2, 0x3ECB)
  | .srl_a => (2, 0x3FCB)
  | .bit_0_b => (2, 0x40CB)
  | .bit_0_c => (2, 0x41CB)
  | .bit_0_d => (2, 0x42CB)
  | .bit_0_e => (2, 0x43CB)
  | .bit_0_h => (2, 0x44CB)
  | .bit_0_l => (2, 0x45CB)
  | .bit_0_hlm => (2, 0x46CB)
  | .bit_0_a => (2, 0x47CB)
  | .bit_1_b => (2, 0x48CB)
  | .bit_1_c => (2, 0x49CB)
  | .bit_1_d => (2, 0x4ACB)
  | .bit_1_e => (2, 0x4BCB)
  | .bit_1_h => (2, 0x4CCB)
  | .bit_1_l => (2, 0x4DCB)
  | .bit_1_hlm => (2, 0x4ECB)
  | .bit_1_a => (2, 0x4FCB)
  | .bit_2_b => (2, 0x50CB)
  | .bit_2_c => (2, 0x51CB)
  | .bit_2_d => (2, 0x52CB)
  | .bit_2_e => (2, 0x53CB)
  | .bit_2_h => (2, 0x54CB)
  | .bit_2_l => (2, 0x55CB)
  | .bit_2_hlm => (2, 0x56CB)
  | .bit_2_a => (2, 0x57CB)
  | .bit_3_b => (2, 0x58CB)
  | .bit_3_c => (2, 0x59CB)
  | .bit_3_d => (2, 0x5ACB)
  | .bit_3_e => (2, 0x5BCB)
  | .bit_3_h => (2, 0x5CCB)
  | .bit_3_l => (2, 0x5DCB)
  | .bit_3_hlm => (2, 0x5ECB)
  | .bit_3_a => (2, 0x5FCB)
  | .bit_4_b => (2, 0x60CB)
  | .bit_4_c => (2, 0x61CB)
  | .bit_4_d => (2, 0x62CB)
  | .bit_4_e => (2, 0x63CB)
  | .bit_4_h => (2, 0x64CB)
  | .bit_4_l => (2, 0x65CB)
  | .bit_4_hlm => (2, 0x66CB)
  | .bit_4_a => (2, 0x67CB)
  | .bit_5_b => (2, 0x68CB)
  | .bit_5_c => (2, 0x69CB)
  | .bit_5_d => (2, 0x6ACB)
  | .bit_5_e => (2, 0x6BCB)
  | .bit_5_h => (2, 0x6CCB)
  | .bit_5_l => (2, 0x6DCB)
  | .bit_5_hlm => (2, 0x6ECB)
  | .bit_5_a => (2, 0x6FCB)
  | .bit_6_b => (2, 0x70CB)
  | .bit_6_c => (2, 0x71CB)
  | .bit_6_d => (2, 0x72CB)
  | .bit_6_e => (2, 0x73CB)
  | .bit_6_h => (2, 0x74CB)
  | .bit_6_l => (2, 0x75CB)
  | .bit_6_hlm => (2, 0x76CB)
  | .bit_6_a => (2, 0x77CB)
  | .bit_7_b => (2, 0x78CB)
  | .bit_7_c => (2, 0x79CB)
  | .bit_7_d => (2, 0x7ACB)
  | .bit_7_e => (2, 0x7BCB)
  | .bit_7_h => (2, 0x7CCB)
  | .bit_7_l => (2, 0x7DCB)
  | .bit_7_hlm => (2, 0x7ECB)
  | .bit_7_a => (2, 0x7FCB)
  | .res_0_b => (2, 0x80CB)
  | .res_0_c => (2, 0x81CB)
  | .res_0_d => (2, 0x82CB)
  | .res_0_e => (2, 0x83CB)
  | .res_0_h => (2, 0x84CB)
  | .res_0_l => (2, 0x85CB)
  | .res_0_hlm => (2, 0x86CB)
  | .res_0_a => (2, 0x87CB)
  | .res_1_b => (2, 0x88CB)
  | .res_1_c => (2, 0x89CB)
  | .res_1_d => (2, 0x8ACB)
  | .res_1_e => (2, 0x8BCB)
  | .res_1_h => (2, 0x8CCB)
  | .res_1_l => (2, 0x8DCB)
  | .res_1_hlm => (2, 0x8ECB)
  | .res_1_a => (2, 0x8FCB)
  | .res_2_b => (2, 0x90CB)
  | .res_2_c => (2, 0x91CB)
  | .res_2_d => (2, 0x92CB)
  | .res_2_e => (2, 0x93CB)
  | .res_2_h => (2, 0x94CB)
  | .res_2_l => (2, 0x95CB)
  | .res_2_hlm => (2, 0x96CB)
  | .res_2_a => (2, 0x97CB)
  | .res_3_b => (2, 0x98CB)
  | .res_3_c => (2, 0x99CB)
  | .res_3_d => (2, 0x9ACB)
  | .res_3_e => (2, 0x9BCB)
  | .res_3_h => (2, 0x9CCB)
  | .res_3_l => (2, 0x9DCB)
  | .res_3_hlm => (2, 0x9ECB)
  | .res_3_a => (2, 0x9FCB)
  | .res_4_b => (2, 0xA0CB)
  | .res_4_c => (2, 0xA1CB)
  | .res_4_d => (2, 0xA2CB)
  | .res_4_e => (2, 0xA3CB)
  | .res_4_h => (2, 0xA4CB)
  | .res_4_l => (2, 0xA5CB)
  | .res_4_hlm => (2, 0xA6CB)
  | .res_4_a => (2, 0xA7CB)
  | .res_5_b => (2, 0xA8CB)
  | .res_5_c => (2, 0xA9CB)
  | .res_5_d => (2, 0xAACB)
  | .res_5_e => (2, 0xABCB)
  | .res_5_h => (2, 0xACCB)
  | .res_5_l => (2, 0xADCB)
  | .res_5_hlm => (2, 0xAECB)
  | .res_5_a => (2, 0xAFCB)
  | .res_6_b => (2, 0xB0CB)
  | .res_6_c => (2, 0xB1CB)
  | .res_6_d => (2, 0xB2CB)
  | .res_6_e => (2, 0xB3CB)
  | .res_6_h => (2, 0xB4CB)
  | .res_6_l => (2, 0xB5CB)
  | .res_6_hlm => (2, 0xB6CB)
  | .res_6_a => (2, 0xB7CB)
  | .res_7_b => (2, 0xB8CB)
  | .res_7_c => (2, 0xB9CB)
  | .res_7_d => (2, 0xBACB)
  | .res_7_e => (2, 0xBBCB)
  | .res_7_h => (2, 0xBCCB)
  | .res_7_l => (2, 0xBDCB)
  | .res_7_hlm => (2, 0xBECB)
  | .res_7_a => (2, 0xBFCB)
  | .set_0_b => (2, 0xC0CB)
  | .set_0_c => (2, 0xC1CB)
  | .set_0_d => (2, 0xC2CB)
  | .set_0_e => (2, 0xC3CB)
  | .set_0_h => (2, 0xC4CB)
  | .set_0_l => (2, 0xC5CB)
  | .set_0_hlm => (2, 0xC6CB)
  | .set_0_a => (2, 0xC7CB)
  | .set_1_b => (2, 0xC8CB)
  | .set_1_c => (2, 0xC9CB)
  | .set_1_d => (2, 0xCACB)
  | .set_1_e => (2, 0xCBCB)
  | .set_1_h => (2, 0xCCCB)
  | .set_1_l => (2, 0xCDCB)
  | .set_1_hlm => (2, 0xCECB)
  | .set_1_a => (2, 0xCFCB)
  | .set_2_b => (2, 0xD0CB)
  | .set_2_c => (2, 0xD1CB)
  | .set_2_d => (2, 0xD2CB)
  | .set_2_e => (2, 0xD3CB)
  | .set_2_h => (2, 0xD4CB)
  | .set_2_l => (2, 0xD5CB)
  | .set_2_hlm => (2, 0xD6CB)
  | .set_2_a => (2, 0xD7CB)
  | .set_3_b => (2, 0xD8CB)
  | .set_3_c => (2, 0xD9CB)
  | .set_3_d => (2, 0xDACB)
  | .set_3_e => (2, 0xDBCB)
  | .set_3_h => (2, 0xDCCB)
  | .set_3_l => (2, 0xDDCB)
  | .set_3_hlm => (2, 0xDECB)
  | .set_3_a => (2, 0xDFCB)
  | .set_4_b => (2, 0xE0CB)
  | .set_4_c => (2, 0xE1CB)
  | .set_4_d => (2, 0xE2CB)
  | .set_4_e => (2, 0xE3CB)
  | .set_4_h => (2, 0xE4CB)
  | .set_4_l => (2, 0xE5CB)
  | .set_4_hlm => (2, 0xE6CB)
  | .set_4_a => (2, 0xE7CB)
  | .set_5_b => (2, 0xE8CB)
  | .set_5_c => (2, 0xE9CB)
  | .set_5_d => (2, 0xEACB)
  | .set_5_e => (2, 0xEBCB)
  | .set_5_h => (2, 0xECCB)
  | .set_5_l => (2, 0xEDCB)
  | .set_5_hlm => (2, 0xEECB)
  | .set_5_a => (2, 0xEFCB)
  | .set_6_b => (2, 0xF0CB)
  | .set_6_c => (2, 0xF1CB)
  | .set_6_d => (2, 0xF2CB)
  | .set_6_e => (2, 0xF3CB)
  | .set_6_h => (2, 0xF4CB)
  | .set_6_l => (2, 0xF5CB)
  | .set_6_hlm => (2, 0xF6CB)
  | .set_6_a => (2, 0xF7CB)
  | .set_7_b => (2, 0xF8CB)
  | .set_7_c => (2, 0xF9CB)
  | .set_7_d => (2, 0xFACB)
  | .set_7_e => (2, 0xFBCB)
  | .set_7_h => (2, 0xFCCB)
  | .set_7_l => (2, 0xFDCB)
  | .set_7_hlm => (2, 0xFECB)
  | .set_7_a => (2, 0xFFCB)
  | .armReservedCond w => (4, w.toNat)
  | .armBx o => (4, pack [(4, o.cond.code), (24, 0x12FFF1), (4, o.rm.toNat)] 0)
  | .armMul o => (4, encodeMul false o)
  | .armMla o => (4, encodeMul true o)
  | .armUmull o => (4, encodeLongMul false false o)
  | .armUmlal o => (4, encodeLongMul false true o)
  | .armSmull o => (4, encodeLongMul true false o)
  | .armSmlal o => (4, encodeLongMul true true o)
  | .armSwp o => (4, encodeSwap false o)
  | .armSwpb o => (4, encodeSwap true o)
  | .armStrhReg o => (4, encodeHalfReg false 1 o)
  | .armStrhImm o => (4, encodeHalfImm false 1 o)
  | .armLdrhReg o => (4, encodeHalfReg true 1 o)
  | .armLdrhImm o => (4, encodeHalfImm true 1 o)
  | .armLdrsbReg o => (4, encodeHalfReg true 2 o)
  | .armLdrsbImm o => (4, encodeHalfImm true 2 o)
  | .armLdrshReg o => (4, encodeHalfReg true 3 o)
  | .armLdrshImm o => (4, encodeHalfImm true 3 o)
  | .armUndefStoreSignedReg w => (4, w.toNat)
  | .armUndefStoreSignedImm w => (4, w.toNat)
  | .armUndefMultiplySpace w => (4, w.toNat)
  | .armMrs o => (4, pack [(4, o.cond.code), (5, 2), (1, bit o.spsr), (6, 15), (4, o.rd.toNat), (12, o.sbz.toNat)] 0)
  | .armMsrReg o => (4, pack [(4, o.cond.code), (5, 2), (1, bit o.spsr), (2, 2), (4, o.fields.toNat), (4, 15),
      (8, o.sbz.toNat), (4, o.rm.toNat)] 0)
  | .armMsrImm o => (4, pack ([(4, o.cond.code), (5, 6), (1, bit o.spsr), (2, 2), (4, o.fields.toNat), (4, 15)] ++
      o.op2.packed) 0)
  | .armUndefCompareNoS w => (4, w.toNat)
  | .armAndImm d x => (4, encodeDp .and true d x.packed)
  | .armAndShift d x => (4, encodeDp .and false d x.packed)
  | .armAndRegShift d x => (4, encodeDp .and false d x.packed)
  | .armEorImm d x => (4, encodeDp .eor true d x.packed)
  | .armEorShift d x => (4, encodeDp .eor false d x.packed)
  | .armEorRegShift d x => (4, encodeDp .eor false d x.packed)
  | .armSubImm d x => (4, encodeDp .sub true d x.packed)
  | .armSubShift d x => (4, encodeDp .sub false d x.packed)
  | .armSubRegShift d x => (4, encodeDp .sub false d x.packed)
  | .armRsbImm d x => (4, encodeDp .rsb true d x.packed)
  | .armRsbShift d x => (4, encodeDp .rsb false d x.packed)
  | .armRsbRegShift d x => (4, encodeDp .rsb false d x.packed)
  | .armAddImm d x => (4, encodeDp .add true d x.packed)
  | .armAddShift d x => (4, encodeDp .add false d x.packed)
  | .armAddRegShift d x => (4, encodeDp .add false d x.packed)
  | .armAdcImm d x => (4, encodeDp .adc true d x.packed)
  | .armAdcShift d x => (4, encodeDp .adc false d x.packed)
  | .armAdcRegShift d x => (4, encodeDp .adc false d x.packed)
  | .armSbcImm d x => (4, encodeDp .sbc true d x.packed)
  | .armSbcShift d x => (4, encodeDp .sbc false d x.packed)
  | .armSbcRegShift d x => (4, encodeDp .sbc false d x.packed)
  | .armRscImm d x => (4, encodeDp .rsc true d x.packed)
  | .armRscShift d x => (4, encodeDp .rsc false d x.packed)
  | .armRscRegShift d x => (4, encodeDp .rsc false d x.packed)
  | .armTstImm d x => (4, encodeDp .tst true d.withS x.packed)
  | .armTstShift d x => (4, encodeDp .tst false d.withS x.packed)
  | .armTstRegShift d x => (4, encodeDp .tst false d.withS x.packed)
  | .armTeqImm d x => (4, encodeDp .teq true d.withS x.packed)
  | .armTeqShift d x => (4, encodeDp .teq false d.withS x.packed)
  | .armTeqRegShift d x => (4, encodeDp .teq false d.withS x.packed)
  | .armCmpImm d x => (4, encodeDp .cmp true d.withS x.packed)
  | .armCmpShift d x => (4, encodeDp .cmp false d.withS x.packed)
  | .armCmpRegShift d x => (4, encodeDp .cmp false d.withS x.packed)
  | .armCmnImm d x => (4, encodeDp .cmn true d.withS x.packed)
  | .armCmnShift d x => (4, encodeDp .cmn false d.withS x.packed)
  | .armCmnRegShift d x => (4, encodeDp .cmn false d.withS x.packed)
  | .armOrrImm d x => (4, encodeDp .orr true d x.packed)
  | .armOrrShift d x => (4, encodeDp .orr false d x.packed)
  | .armOrrRegShift d x => (4, encodeDp .orr false d x.packed)
  | .armMovImm d x => (4, encodeDp .mov true d x.packed)
  | .armMovShift d x => (4, encodeDp .mov false d x.packed)
  | .armMovRegShift d x => (4, encodeDp .mov false d x.packed)
  | .armBicImm d x => (4, encodeDp .bic true d x.packed)
  | .armBicShift d x => (4, encodeDp .bic false d x.packed)
  | .armBicRegShift d x => (4, encodeDp .bic false d x.packed)
  | .armMvnImm d x => (4, encodeDp .mvn true d x.packed)
  | .armMvnShift d x => (4, encodeDp .mvn false d x.packed)
  | .armMvnRegShift d x => (4, encodeDp .mvn false d x.packed)
  | .armUndefSpace w => (4, w.toNat)
  | .armStrImm o => (4, encodeSingle false false false o.ix [(12, o.offset.toNat)])
  | .armStrReg o => (4, encodeSingle true false false o.ix o.op2.packed)
  | .armLdrImm o => (4, encodeSingle false false true o.ix [(12, o.offset.toNat)])
  | .armLdrReg o => (4, encodeSingle true false true o.ix o.op2.packed)
  | .armStrbImm o => (4, encodeSingle false true false o.ix [(12, o.offset.toNat)])
  | .armStrbReg o => (4, encodeSingle true true false o.ix o.op2.packed)
  | .armLdrbImm o => (4, encodeSingle false true true o.ix [(12, o.offset.toNat)])
  | .armLdrbReg o => (4, encodeSingle true true true o.ix o.op2.packed)
  | .armStm o => (4, encodeBlock false o)
  | .armLdm o => (4, encodeBlock true o)
  | .armB o => (4, encodeBranch false o)
  | .armBl o => (4, encodeBranch true o)
  | .armLdcStc w => (4, w.toNat)
  | .armCdpMrcMcr w => (4, w.toNat)
  | .armSwi o => (4, pack [(4, o.cond.code), (4, 15), (24, o.comment.toNat)] 0)
  | .thumbLslImm rd rs a => (2, encodeThumb5 0 rd rs a)
  | .thumbLsrImm rd rs a => (2, encodeThumb5 1 rd rs a)
  | .thumbAsrImm rd rs a => (2, encodeThumb5 2 rd rs a)
  | .thumbAddReg rd rs x => (2, encodeThumb3 12 rd rs x)
  | .thumbSubReg rd rs x => (2, encodeThumb3 13 rd rs x)
  | .thumbAddImm3 rd rs x => (2, encodeThumb3 14 rd rs x)
  | .thumbSubImm3 rd rs x => (2, encodeThumb3 15 rd rs x)
  | .thumbMovImm rd x => (2, encodeThumb8 4 rd x)
  | .thumbCmpImm rd x => (2, encodeThumb8 5 rd x)
  | .thumbAddImm8 rd x => (2, encodeThumb8 6 rd x)
  | .thumbSubImm8 rd x => (2, encodeThumb8 7 rd x)
  | .thumbAnd rd rs => (2, encodeThumbAlu 0 rd rs)
  | .thumbEor rd rs => (2, encodeThumbAlu 1 rd rs)
  | .thumbLsl rd rs => (2, encodeThumbAlu 2 rd rs)
  | .thumbLsr rd rs => (2, encodeThumbAlu 3 rd rs)
  | .thumbAsr rd rs => (2, encodeThumbAlu 4 rd rs)
  | .thumbAdc rd rs => (2, encodeThumbAlu 5 rd rs)
  | .thumbSbc rd rs => (2, encodeThumbAlu 6 rd rs)
  | .thumbRor rd rs => (2, encodeThumbAlu 7 rd rs)
  | .thumbTst rd rs => (2, encodeThumbAlu 8 rd rs)
  | .thumbNeg rd rs => (2, encodeThumbAlu 9 rd rs)
  | .thumbCmp rd rs => (2, encodeThumbAlu 10 rd rs)
  | .thumbCmn rd rs => (2, encodeThumbAlu 11 rd rs)
  | .thumbOrr rd rs => (2, encodeThumbAlu 12 rd rs)
  | .thumbMul rd rs => (2, encodeThumbAlu 13 rd rs)
  | .thumbBic rd rs => (2, encodeThumbAlu 14 rd rs)
  | .thumbMvn rd rs => (2, encodeThumbAlu 15 rd rs)
  | .thumbAddHi hd hs => (2, encodeThumbHigh 0x44 hd hs)
  | .thumbCmpHi hd hs => (2, encodeThumbHigh 0x45 hd hs)
  | .thumbMovHi hd hs => (2, encodeThumbHigh 0x46 hd hs)
  | .thumbBx hs => (2, pack [(9, 0x8E), (4, hs.toNat), (3, 0)] 0)
  | .thumbUndefBlx w => (2, w.toNat)
  | .thumbLdrPc rd x => (2, encodeThumb8 9 rd x)
  | .thumbStrReg rd rb ro => (2, encodeThumb3 0x28 rd rb ro)
  | .thumbStrbReg rd rb ro => (2, encodeThumb3 0x2A rd rb ro)
  | .thumbLdrReg rd rb ro => (2, encodeThumb3 0x2C rd rb ro)
  | .thumbLdrbReg rd rb ro => (2, encodeThumb3 0x2E rd rb ro)
  | .thumbStrhReg rd rb ro => (2, encodeThumb3 0x29 rd rb ro)
  | .thumbLdsbReg rd rb ro => (2, encodeThumb3 0x2B rd rb ro)
  | .thumbLdrhReg rd rb ro => (2, encodeThumb3 0x2D rd rb ro)
  | .thumbLdshReg rd rb ro => (2, encodeThumb3 0x2F rd rb ro)
  | .thumbStrImm rd rb x => (2, encodeThumb5 12 rd rb x)
  | .thumbLdrImm rd rb x => (2, encodeThumb5 13 rd rb x)
  | .thumbStrbImm rd rb x => (2, encodeThumb5 14 rd rb x)
  | .thumbLdrbImm rd rb x => (2, encodeThumb5 15 rd rb x)
  | .thumbStrhImm rd rb x => (2, encodeThumb5 16 rd rb x)
  | .thumbLdrhImm rd rb x => (2, encodeThumb5 17 rd rb x)
  | .thumbStrSp rd x => (2, encodeThumb8 18 rd x)
  | .thumbLdrSp rd x => (2, encodeThumb8 19 rd x)
  | .thumbAddPc rd x => (2, encodeThumb8 20 rd x)
  | .thumbAddSp rd x => (2, encodeThumb8 21 rd x)
  | .thumbAdjustSp down x => (2, pack [(8, 0xB0), (1, bit down), (7, x.toNat)] 0)
  | .thumbPush r l => (2, pack [(7, 0x5A), (1, bit r), (8, l.toNat)] 0)
  | .thumbPop r l => (2, pack [(7, 0x5E), (1, bit r), (8, l.toNat)] 0)
  | .thumbUndefB1 w => (2, w.toNat)
  | .thumbUndefB2 w => (2, w.toNat)
  | .thumbUndefB6 w => (2, w.toNat)
  | .thumbUndefB8 w => (2, w.toNat)
  | .thumbUndefBE w => (2, w.toNat)
  | .thumbStmia rb l => (2, encodeThumb8 24 rb l)
  | .thumbLdmia rb l => (2, encodeThumb8 25 rb l)
  | .thumbUndefCond14 w => (2, w.toNat)
  | .thumbSwi x => (2, pack [(8, 0xDF), (8, x.toNat)] 0)
  | .thumbBCond c x => (2, pack [(4, 13), (4, c.code), (8, x.toNat)] 0)
  | .thumbB x => (2, pack [(5, 28), (11, x.toNat)] 0)
  | .thumbUndefE8 w => (2, w.toNat)
  | .thumbBlHi x => (2, pack [(5, 30), (11, x.toNat)] 0)
  | .thumbBlLo x => (2, pack [(5, 31), (11, x.toNat)] 0)

/-- The bytes of an instruction as they lie in memory. -/
def encode (i : Instr) : List Byte := toLeBytes i.word.1 i.word.2

/-- Which decoder reads an instruction. -/
def Instr.isa : Instr → Isa
  | .nop | .ld_bc_nn .. | .ld_bcm_a | .inc_bc | .inc_b | .dec_b | .ld_b_n .. | .rlca | .ld_nnm_sp .. | .add_hl_bc
  | .ld_a_bcm | .dec_bc | .inc_c | .dec_c | .ld_c_n .. | .rrca | .stop .. | .ld_de_nn .. | .ld_dem_a | .inc_de
  | .inc_d | .dec_d | .ld_d_n .. | .rla | .jr_e .. | .add_hl_de | .ld_a_dem | .dec_de | .inc_e | .dec_e | .ld_e_n ..
  | .rra | .jr_nz_e .. | .ld_hl_nn .. | .ld_hli_a | .inc_hl | .inc_h | .dec_h | .ld_h_n .. | .daa | .jr_z_e ..
  | .add_hl_hl | .ld_a_hli | .dec_hl | .inc_l | .dec_l | .ld_l_n .. | .cpl | .jr_nc_e .. | .ld_sp_nn .. | .ld_hld_a
  | .inc_sp | .inc_hlm | .dec_hlm | .ld_hlm_n .. | .scf | .jr_c_e .. | .add_hl_sp | .ld_a_hld | .dec_sp | .inc_a
  | .dec_a | .ld_a_n .. | .ccf | .ld_b_b | .ld_b_c | .ld_b_d | .ld_b_e | .ld_b_h | .ld_b_l | .ld_b_hlm | .ld_b_a
  | .ld_c_b | .ld_c_c | .ld_c_d | .ld_c_e | .ld_c_h | .ld_c_l | .ld_c_hlm | .ld_c_a | .ld_d_b | .ld_d_c | .ld_d_d
  | .ld_d_e | .ld_d_h | .ld_d_l | .ld_d_hlm | .ld_d_a | .ld_e_b | .ld_e_c | .ld_e_d | .ld_e_e | .ld_e_h | .ld_e_l
  | .ld_e_hlm | .ld_e_a | .ld_h_b | .ld_h_c | .ld_h_d | .ld_h_e | .ld_h_h | .ld_h_l | .ld_h_hlm | .ld_h_a | .ld_l_b
  | .ld_l_c | .ld_l_d | .ld_l_e | .ld_l_h | .ld_l_l | .ld_l_hlm | .ld_l_a | .ld_hlm_b | .ld_hlm_c | .ld_hlm_d
  | .ld_hlm_e | .ld_hlm_h | .ld_hlm_l | .halt | .ld_hlm_a | .ld_a_b | .ld_a_c | .ld_a_d | .ld_a_e | .ld_a_h | .ld_a_l
  | .ld_a_hlm | .ld_a_a | .add_a_b | .add_a_c | .add_a_d | .add_a_e | .add_a_h | .add_a_l | .add_a_hlm | .add_a_a
  | .adc_a_b | .adc_a_c | .adc_a_d | .adc_a_e | .adc_a_h | .adc_a_l | .adc_a_hlm | .adc_a_a | .sub_b | .sub_c
  | .sub_d | .sub_e | .sub_h | .sub_l | .sub_hlm | .sub_a | .sbc_a_b | .sbc_a_c | .sbc_a_d | .sbc_a_e | .sbc_a_h
  | .sbc_a_l | .sbc_a_hlm | .sbc_a_a | .and_b | .and_c | .and_d | .and_e | .and_h | .and_l | .and_hlm | .and_a
  | .xor_b | .xor_c | .xor_d | .xor_e | .xor_h | .xor_l | .xor_hlm | .xor_a | .or_b | .or_c | .or_d | .or_e | .or_h
  | .or_l | .or_hlm | .or_a | .cp_b | .cp_c | .cp_d | .cp_e | .cp_h | .cp_l | .cp_hlm | .cp_a | .ret_nz | .pop_bc
  | .jp_nz_nn .. | .jp_nn .. | .call_nz_nn .. | .push_bc | .add_a_n .. | .rst_00h | .ret_z | .ret | .jp_z_nn ..
  | .cbPrefix .. | .call_z_nn .. | .call_nn .. | .adc_a_n .. | .rst_08h | .ret_nc | .pop_de | .jp_nc_nn ..
  | .illegal_d3 | .call_nc_nn .. | .push_de | .sub_n .. | .rst_10h | .ret_c | .reti | .jp_c_nn .. | .illegal_db
  | .call_c_nn .. | .illegal_dd | .sbc_a_n .. | .rst_18h | .ldh_nm_a .. | .pop_hl | .ld_cm_a | .illegal_e3
  | .illegal_e4 | .push_hl | .and_n .. | .rst_20h | .add_sp_e .. | .jp_hl | .ld_nnm_a .. | .illegal_eb | .illegal_ec
  | .illegal_ed | .xor_n .. | .rst_28h | .ldh_a_nm .. | .pop_af | .ld_a_cm | .di | .illegal_f4 | .push_af | .or_n ..
  | .rst_30h | .ld_hl_sp_e .. | .ld_sp_hl | .ld_a_nnm .. | .ei | .illegal_fc | .illegal_fd | .cp_n .. | .rst_38h
  | .rlc_b | .rlc_c | .rlc_d | .rlc_e | .rlc_h | .rlc_l | .rlc_hlm | .rlc_a | .rrc_b | .rrc_c | .rrc_d | .rrc_e
  | .rrc_h | .rrc_l | .rrc_hlm | .rrc_a | .rl_b | .rl_c | .rl_d | .rl_e | .rl_h | .rl_l | .rl_hlm | .rl_a | .rr_b
  | .rr_c | .rr_d | .rr_e | .rr_h | .rr_l | .rr_hlm | .rr_a | .sla_b | .sla_c | .sla_d | .sla_e | .sla_h | .sla_l
  | .sla_hlm | .sla_a | .sra_b | .sra_c | .sra_d | .sra_e | .sra_h | .sra_l | .sra_hlm | .sra_a | .swap_b | .swap_c
  | .swap_d | .swap_e | .swap_h | .swap_l | .swap_hlm | .swap_a | .srl_b | .srl_c | .srl_d | .srl_e | .srl_h | .srl_l
  | .srl_hlm | .srl_a | .bit_0_b | .bit_0_c | .bit_0_d | .bit_0_e | .bit_0_h | .bit_0_l | .bit_0_hlm | .bit_0_a
  | .bit_1_b | .bit_1_c | .bit_1_d | .bit_1_e | .bit_1_h | .bit_1_l | .bit_1_hlm | .bit_1_a | .bit_2_b | .bit_2_c
  | .bit_2_d | .bit_2_e | .bit_2_h | .bit_2_l | .bit_2_hlm | .bit_2_a | .bit_3_b | .bit_3_c | .bit_3_d | .bit_3_e
  | .bit_3_h | .bit_3_l | .bit_3_hlm | .bit_3_a | .bit_4_b | .bit_4_c | .bit_4_d | .bit_4_e | .bit_4_h | .bit_4_l
  | .bit_4_hlm | .bit_4_a | .bit_5_b | .bit_5_c | .bit_5_d | .bit_5_e | .bit_5_h | .bit_5_l | .bit_5_hlm | .bit_5_a
  | .bit_6_b | .bit_6_c | .bit_6_d | .bit_6_e | .bit_6_h | .bit_6_l | .bit_6_hlm | .bit_6_a | .bit_7_b | .bit_7_c
  | .bit_7_d | .bit_7_e | .bit_7_h | .bit_7_l | .bit_7_hlm | .bit_7_a | .res_0_b | .res_0_c | .res_0_d | .res_0_e
  | .res_0_h | .res_0_l | .res_0_hlm | .res_0_a | .res_1_b | .res_1_c | .res_1_d | .res_1_e | .res_1_h | .res_1_l
  | .res_1_hlm | .res_1_a | .res_2_b | .res_2_c | .res_2_d | .res_2_e | .res_2_h | .res_2_l | .res_2_hlm | .res_2_a
  | .res_3_b | .res_3_c | .res_3_d | .res_3_e | .res_3_h | .res_3_l | .res_3_hlm | .res_3_a | .res_4_b | .res_4_c
  | .res_4_d | .res_4_e | .res_4_h | .res_4_l | .res_4_hlm | .res_4_a | .res_5_b | .res_5_c | .res_5_d | .res_5_e
  | .res_5_h | .res_5_l | .res_5_hlm | .res_5_a | .res_6_b | .res_6_c | .res_6_d | .res_6_e | .res_6_h | .res_6_l
  | .res_6_hlm | .res_6_a | .res_7_b | .res_7_c | .res_7_d | .res_7_e | .res_7_h | .res_7_l | .res_7_hlm | .res_7_a
  | .set_0_b | .set_0_c | .set_0_d | .set_0_e | .set_0_h | .set_0_l | .set_0_hlm | .set_0_a | .set_1_b | .set_1_c
  | .set_1_d | .set_1_e | .set_1_h | .set_1_l | .set_1_hlm | .set_1_a | .set_2_b | .set_2_c | .set_2_d | .set_2_e
  | .set_2_h | .set_2_l | .set_2_hlm | .set_2_a | .set_3_b | .set_3_c | .set_3_d | .set_3_e | .set_3_h | .set_3_l
  | .set_3_hlm | .set_3_a | .set_4_b | .set_4_c | .set_4_d | .set_4_e | .set_4_h | .set_4_l | .set_4_hlm | .set_4_a
  | .set_5_b | .set_5_c | .set_5_d | .set_5_e | .set_5_h | .set_5_l | .set_5_hlm | .set_5_a | .set_6_b | .set_6_c
  | .set_6_d | .set_6_e | .set_6_h | .set_6_l | .set_6_hlm | .set_6_a | .set_7_b | .set_7_c | .set_7_d | .set_7_e
  | .set_7_h | .set_7_l | .set_7_hlm | .set_7_a => .cpu8
  | .armReservedCond .. | .armBx .. | .armMul .. | .armMla .. | .armUmull .. | .armUmlal .. | .armSmull ..
  | .armSmlal .. | .armSwp .. | .armSwpb .. | .armStrhReg .. | .armStrhImm .. | .armLdrhReg .. | .armLdrhImm ..
  | .armLdrsbReg .. | .armLdrsbImm .. | .armLdrshReg .. | .armLdrshImm .. | .armUndefStoreSignedReg ..
  | .armUndefStoreSignedImm .. | .armUndefMultiplySpace .. | .armMrs .. | .armMsrReg .. | .armMsrImm ..
  | .armUndefCompareNoS .. | .armAndImm .. | .armAndShift .. | .armAndRegShift .. | .armEorImm .. | .armEorShift ..
  | .armEorRegShift .. | .armSubImm .. | .armSubShift .. | .armSubRegShift .. | .armRsbImm .. | .armRsbShift ..
  | .armRsbRegShift .. | .armAddImm .. | .armAddShift .. | .armAddRegShift .. | .armAdcImm .. | .armAdcShift ..
  | .armAdcRegShift .. | .armSbcImm .. | .armSbcShift .. | .armSbcRegShift .. | .armRscImm .. | .armRscShift ..
  | .armRscRegShift .. | .armTstImm .. | .armTstShift .. | .armTstRegShift .. | .armTeqImm .. | .armTeqShift ..
  | .armTeqRegShift .. | .armCmpImm .. | .armCmpShift .. | .armCmpRegShift .. | .armCmnImm .. | .armCmnShift ..
  | .armCmnRegShift .. | .armOrrImm .. | .armOrrShift .. | .armOrrRegShift .. | .armMovImm .. | .armMovShift ..
  | .armMovRegShift .. | .armBicImm .. | .armBicShift .. | .armBicRegShift .. | .armMvnImm .. | .armMvnShift ..
  | .armMvnRegShift .. | .armUndefSpace .. | .armStrImm .. | .armStrReg .. | .armLdrImm .. | .armLdrReg ..
  | .armStrbImm .. | .armStrbReg .. | .armLdrbImm .. | .armLdrbReg .. | .armStm .. | .armLdm .. | .armB ..
  | .armBl .. | .armLdcStc .. | .armCdpMrcMcr .. | .armSwi .. => .arm
  | .thumbLslImm .. | .thumbLsrImm .. | .thumbAsrImm .. | .thumbAddReg .. | .thumbSubReg .. | .thumbAddImm3 ..
  | .thumbSubImm3 .. | .thumbMovImm .. | .thumbCmpImm .. | .thumbAddImm8 .. | .thumbSubImm8 .. | .thumbAnd ..
  | .thumbEor .. | .thumbLsl .. | .thumbLsr .. | .thumbAsr .. | .thumbAdc .. | .thumbSbc .. | .thumbRor ..
  | .thumbTst .. | .thumbNeg .. | .thumbCmp .. | .thumbCmn .. | .thumbOrr .. | .thumbMul .. | .thumbBic ..
  | .thumbMvn .. | .thumbAddHi .. | .thumbCmpHi .. | .thumbMovHi .. | .thumbBx .. | .thumbUndefBlx ..
  | .thumbLdrPc .. | .thumbStrReg .. | .thumbStrbReg .. | .thumbLdrReg .. | .thumbLdrbReg .. | .thumbStrhReg ..
  | .thumbLdsbReg .. | .thumbLdrhReg .. | .thumbLdshReg .. | .thumbStrImm .. | .thumbLdrImm .. | .thumbStrbImm ..
  | .thumbLdrbImm .. | .thumbStrhImm .. | .thumbLdrhImm .. | .thumbStrSp .. | .thumbLdrSp .. | .thumbAddPc ..
  | .thumbAddSp .. | .thumbAdjustSp .. | .thumbPush .. | .thumbPop .. | .thumbUndefB1 .. | .thumbUndefB2 ..
  | .thumbUndefB6 .. | .thumbUndefB8 .. | .thumbUndefBE .. | .thumbStmia .. | .thumbLdmia .. | .thumbUndefCond14 ..
  | .thumbSwi .. | .thumbBCond .. | .thumbB .. | .thumbUndefE8 .. | .thumbBlHi .. | .thumbBlLo .. => .thumb

/-- The decoder a word of spec/opcode_table.json is for, by the row's length in bits. Sixteen bits are a CB pair
when the first byte is 0xCB, and a THUMB halfword otherwise (log entry 9). -/
def tableIsa (nbits w : Nat) : Isa :=
  if nbits = 32 then .arm else if nbits = 16 ∧ w / 256 ≠ 0xCB then .thumb else .cpu8

/-- The bytes of a word of spec/opcode_table.json as they lie in memory, zeros above. -/
def tableBytes (nbits w : Nat) : List Byte :=
  if nbits = 16 ∧ w / 256 = 0xCB then [0xCB#8, BitVec.ofNat 8 w, 0#8] else toLeBytes 4 w

/-- The instruction the decoder reads from a word of spec/opcode_table.json. -/
def decodeTableWord (nbits w : Nat) : Option Instr :=
  match decode (tableIsa nbits w) (tableBytes nbits w) with
  | .ok (i, _) => some i
  | .error _ => none

end Sys2Proof
end

