-- ==== Sys2Proof/Config.lean ====
section
/-! DEFINITION. What an implementation fixes (the parameters of 00_scope.md rule R7, as plain data that
`State` carries and no step changes) and the free values (`draw` of rule R13 and the images and identity
bytes the spec leaves OPEN): constants with no body, so that no proof can see a value of them. -/

namespace Sys2Proof

/-- VARIANT (R2, R7): which of the two cores the machine is. -/
inductive Variant where
  | cpu8
  | cpu32
  deriving DecidableEq, Repr

/-- The cartridge save types of 20_memory.md rule R150. -/
inductive SaveType where
  | unknown
  | eeprom512
  | eeprom8k
  | sram
  | flash64
  | flash128
  deriving DecidableEq, Repr

/-- Plain data by address: strictly rising addresses, each with one byte. -/
abbrev Image := List Host.Cell

/-- RESET_REGS (R7, R60). -/
inductive ResetRegs where
  /-- Every general register and SPSR of CPU-32 is 0 after reset. -/
  | zero
  /-- Reset leaves them unwritten: each holds a value of `Config.unwrittenReg` (log entry 4). -/
  | unwritten
  deriving DecidableEq, Repr

/-- The parameters of 00_scope.md rule R7. Not here: XLEN8, XLEN32, CLOCK8 and CLOCK32, which have one
value; FLASH_ID, which is `Config.flashMaker` and `Config.flashDevice`; the oracles ROM8, whose answers are
`State.cart8`, and COLLAB, whose answers are draws. -/
structure Params where
  /-- VARIANT. -/
  variant : Variant
  /-- COLOR_MODE (CPU-8 only). -/
  colorMode : Bool
  /-- EI_DELAY: EI takes effect after the next instruction (R446). -/
  eiDelay : Bool
  /-- STOP_RESETS_DIV (R444). -/
  stopResetsDiv : Bool
  /-- DIV16_RESET. -/
  div16Reset : Half
  /-- ROM32_SIZE in bytes. -/
  rom32Size : Nat
  /-- BIOS32: the bytes of the image that were supplied; any other is `Config.biosByte`. -/
  bios32 : Image
  /-- ROM32: the bytes of the image that were supplied; any other is `Config.romByte`. -/
  rom32 : Image
  /-- SAVE_INIT: the save type at start. -/
  saveType : SaveType
  /-- SAVE_INIT: the save bytes at start, at the addresses 0x0E000000 + offset. -/
  saveBytes : Image
  /-- OPEN_BUS_DRAW (R129). -/
  openBusDraw : Bool
  /-- INTERWORK_ALL_PC_WRITES (C5, D23). -/
  interwork : Bool
  /-- RESET_REGS. -/
  resetRegs : ResetRegs
  /-- RAM_INIT of CPU-8, by the keys of `Cpu8.mem`; a byte it does not list is the default 0 (log entry 2). -/
  ramInit8 : Image
  /-- RAM_INIT of CPU-32, by the keys of `Cpu32.mem` below the save bytes; a byte it does not list is the
  default 0 (log entry 2). -/
  ramInit32 : Image
  deriving DecidableEq, Repr

/-- The values rule R7 gives as defaults; for a parameter it leaves OPEN, the choice of log entry 3. -/
def Params.default : Params where
  variant := .cpu8
  colorMode := false
  eiDelay := false
  stopResetsDiv := false
  div16Reset := 0xAB00#16
  rom32Size := 0x100000
  bios32 := []
  rom32 := []
  saveType := .unknown
  saveBytes := []
  openBusDraw := false
  interwork := false
  resetRegs := .zero
  ramInit8 := []
  ramInit32 := []

/-- `draw` of rule R13: the k-th free value, of width w. `State.draws` is the k of the next one. -/
opaque Config.draw (w : Nat) : Nat → BitVec w

/-- BIOS32's byte at an offset the state's image does not list (R7: OPEN). -/
opaque Config.biosByte : Nat → Byte

/-- ROM32's byte at an offset the state's image does not list (R7: OPEN). -/
opaque Config.romByte : Nat → Byte

/-- FLASH_ID's manufacturer byte (R155: OPEN). -/
opaque Config.flashMaker : Byte

/-- FLASH_ID's device byte (R155: OPEN). -/
opaque Config.flashDevice : Byte

/-- What a register slot holds that nothing has written, with RESET_REGS = unwritten (R60; log entry 4): the
thirty general slots at their indices in `Cpu32.slots`, the SPSRs of fiq, irq, svc, abt and und at 30 to 34. -/
opaque Config.unwrittenReg : Nat → Word

/-- A bound on the loop of DMA runs of one CPU-32 step, which R811 leaves unbounded (log entry 20). -/
def Config.dmaRunsPerStep : Nat := 2 ^ 64

end Sys2Proof
end

