-- ==== Sys2Proof/Machine/Memory.lean ====
section
/-! DEFINITION. Memory as plain data: address and byte pairs in one canonical form, and the read-only images. -/

namespace Sys2Proof.Machine

/-- Bytes by address, in the canonical form of `Memory.wf`. -/
abbrev Memory := List Host.Cell

/-- What an unlisted address reads as: the default of RAM_INIT (R7, D17; log entry 2). -/
def Memory.unlisted : Byte := 0

/-- The byte at an address. -/
def Memory.read : Memory → Nat → Byte
  | [], _ => Memory.unlisted
  | (k, b) :: rest, a => if k = a then b else if a < k then Memory.unlisted else Memory.read rest a

/-- Store one byte, keeping the canonical form. -/
def Memory.write : Memory → Nat → Byte → Memory
  | [], a, v => if v = Memory.unlisted then [] else [(a, v)]
  | (k, b) :: rest, a, v =>
    if k = a then (if v = Memory.unlisted then rest else (a, v) :: rest)
    else if a < k then (if v = Memory.unlisted then (k, b) :: rest else (a, v) :: (k, b) :: rest)
    else (k, b) :: Memory.write rest a v

/-- Addresses at least `lo` and strictly rising, no entry equal to what an unlisted address reads as. -/
def Memory.wfFrom : Nat → Memory → Bool
  | _, [] => true
  | lo, (k, b) :: rest => decide (lo ≤ k) && decide (b ≠ Memory.unlisted) && Memory.wfFrom (k + 1) rest

/-- The canonical form. -/
def Memory.wf (m : Memory) : Bool := Memory.wfFrom 0 m

/-- Write the same byte at `base`, …, `base + n - 1`, highest first. -/
def Memory.fill (m : Memory) (base : Nat) (v : Byte) : Nat → Memory
  | 0 => m
  | n + 1 => Memory.fill (Memory.write m (base + n) v) base v n

/-- Little-endian read of n bytes (R102). -/
def Memory.readLe (m : Memory) (a : Nat) : Nat → Nat
  | 0 => 0
  | n + 1 => (Memory.read m a).toNat + 256 * Memory.readLe m (a + 1) n

/-- Little-endian write of the low n bytes of v (R102). -/
def Memory.writeLe (m : Memory) (a : Nat) (v : Nat) : Nat → Memory
  | 0 => m
  | n + 1 => Memory.writeLe (Memory.write m a (BitVec.ofNat 8 v)) (a + 1) (v / 256) n

/-- The memory that holds what an image lists. -/
def Memory.ofImage : Image → Memory
  | [] => []
  | (a, v) :: rest => Memory.write (Memory.ofImage rest) a v

/-- What a table lists at an address. -/
def Image.find? : Image → Nat → Option Byte
  | [], _ => none
  | (k, b) :: rest, a => if k = a then some b else Image.find? rest a

/-- Put a byte into a table of rising addresses. -/
def Image.put : Image → Nat → Byte → Image
  | [], a, v => [(a, v)]
  | (k, b) :: rest, a, v =>
    if k = a then (a, v) :: rest
    else if a < k then (a, v) :: (k, b) :: rest
    else (k, b) :: Image.put rest a v

end Sys2Proof.Machine
end

