-- ==== Sys2Proof/Machine/State.lean ====
section
/-! DEFINITION. The machine's state (10_state.md), as plain data, and the state after reset
(70_reset_and_hazards.md R800, R801). -/

namespace Sys2Proof.Machine

/-- The seven modes of R55. -/
inductive Mode where
  | usr | fiq | irq | svc | abt | und | sys
  deriving DecidableEq, Repr

/-- CPSR (R54), by field: the reserved bits 27..8 read 0 and ignore writes, and M is always one of the seven
modes (R55), so the fields hold all of it (log entry 19). -/
structure Psr where
  n : Bool
  z : Bool
  c : Bool
  v : Bool
  i : Bool
  f : Bool
  t : Bool
  mode : Mode
  deriving DecidableEq, Repr

/-- The reason strings of the `Unpredictable` forms (93_implementation_defined.md section 1). -/
inductive Reason where
  /-- R55, R58, R540: a CPSR write would make M no mode. -/
  | invalidMode
  /-- R56, R58, R540, R541: SPSR in user or system mode. -/
  | noSpsr
  /-- R215, R505, R530, R541, R542: a field that should be zero is not. -/
  | sbz
  /-- R503: a register-specified shift with Rs = R15. -/
  | rsIsR15
  /-- R536: the multiply restrictions. -/
  | multiplyOperands
  /-- R541: MRS into R15. -/
  | mrsToPc
  /-- R542: MSR from R15. -/
  | msrFromPc
  /-- R560, R565: writeback with Rn = R15. -/
  | writebackR15
  /-- R560, R565: a register offset with Rm = R15. -/
  | offsetR15
  /-- R560, R565: a load with writeback and Rn = Rd. -/
  | loadWritebackSame
  /-- R562: LDRB into R15. -/
  | ldrbToPc
  /-- R565: P = 0 with W = 1 in a halfword or signed transfer. -/
  | postIndexedW
  /-- R565: Rd = R15 in a halfword or signed transfer. -/
  | halfRdR15
  /-- R580: LDM or STM with base R15. -/
  | blockBaseR15
  /-- R583: S = 1 with W = 1, except LDM with R15 in the list. -/
  | sWithWriteback
  /-- R583: S = 1 in user or system mode. -/
  | sUnprivileged
  /-- R590: the SWP restrictions. -/
  | swapOperands
  /-- R222: THUMB format 5 ADD, CMP or MOV with two low registers. -/
  | twoLowRegisters
  /-- R682 to R685: an empty THUMB register list. -/
  | emptyThumbList
  /-- R842: a store into the two instruction slots after the current one. -/
  | storeIntoPrefetch
  deriving DecidableEq, Repr

/-- The fatal faults of R751. A fault is safe: the machine stops where the spec says it stops. -/
inductive Fault where
  /-- R447, R222, R614 to R616: raised by the undefined and reserved encodings, with the opcode bits and the
  address of the instruction. Safe. -/
  | undefinedOpcode (opcode : Nat) (pc : Nat)
  /-- R751: raised by the unpredictable forms the spec lists, with the reason and `ia`. Safe. -/
  | unpredictable (reason : Reason) (ia : Nat)
  deriving DecidableEq, Repr

/-- What the model declines (93_implementation_defined.md section 3). Safe: nothing goes on. -/
inductive Refusal where
  /-- An instruction whose arm has no meaning yet. Safe. -/
  | notModelled (mnemonic : String)
  /-- R763: raised by a write of HDMA5 with bit 7 set. Safe. -/
  | hblankHdma
  /-- R746: raised by a write of HALTCNT with bit 7 set. Safe. -/
  | cpu32StopMode
  /-- R771: raised when a DMA channel is started, or runs, with source control 3. Safe. -/
  | dmaSourceControl3
  /-- R150: raised by the host's loading of a save blob of no type's size. Safe. -/
  | saveSize
  /-- R772: raised by the host's triggerDMA of an event other than VBlank and HBlank. Safe. -/
  | triggerOther
  /-- R791 to R794: raised by a host call outside its range, on the wrong variant, or by `run` before any reset. Safe. -/
  | hostMisuse
  deriving DecidableEq, Repr

/-- The CPU-8 half (R30 to R44). -/
structure Cpu8 where
  a : Byte
  f : Byte
  b : Byte
  c : Byte
  d : Byte
  e : Byte
  h : Byte
  l : Byte
  sp : Half
  pc : Half
  ime : Bool
  halted : Bool
  stopped : Bool
  /-- EI issued, IME not yet set; used only with EI_DELAY. -/
  eiPending : Bool
  doubleSpeed : Bool
  speedArmed : Bool
  div16 : Half
  /-- The last value of the timer clock (R721). -/
  timerIn : Bool
  /-- IE, all 8 bits stored (R37). -/
  ie : Byte
  /-- IF, bits 4..0 (R38). -/
  iflag : BitVec 5
  tima : Byte
  tma : Byte
  tac : BitVec 3
  /-- The DMA register 0xFF46, as last written (R41). -/
  oamDma : Byte
  vbk : BitVec 1
  svbk : BitVec 3
  hdma1 : Byte
  /-- Bits 7..4 of HDMA2. -/
  hdma2 : BitVec 4
  hdma3 : BitVec 5
  /-- Bits 7..4 of HDMA4. -/
  hdma4 : BitVec 4
  /-- VRAM and WRAM bank k at k × 0x10000 + bus address; OAM and HRAM at their bus address. -/
  mem : Memory
  deriving DecidableEq, Repr

/-- A CPU-32 timer (R65). -/
structure Timer where
  counter : Half
  reload : Half
  /-- Bits 0..2, 6 and 7 of TMnCNT_H; the others are unused and stay 0. -/
  control : Half
  /-- `timer_presc`, the prescaler phase (log entry 15). -/
  phase : Nat
  deriving DecidableEq, Repr

/-- A CPU-32 DMA channel (R66). -/
structure DmaChannel where
  sad : Word
  dad : Word
  cntL : Half
  /-- DMAnCNT_H without its unused bits, which stay 0. -/
  control : Half
  isrc : Word
  idst : Word
  icount : Nat
  pending : Bool
  deriving DecidableEq, Repr

/-- Flash read mode (R153). -/
inductive FlashMode where
  | read | id
  deriving DecidableEq, Repr

/-- Flash armed command (R153). -/
inductive FlashCmd where
  | none | erase | write | bank
  deriving DecidableEq, Repr

/-- Flash unlock parser stage (R153). -/
inductive FlashStage where
  | s0 | s1 | s2
  deriving DecidableEq, Repr

/-- The cartridge save machine (R150, R153, R156); its bytes stand in memory at 0x0E000000 + offset. -/
structure Save where
  kind : SaveType
  fmode : FlashMode
  fcmd : FlashCmd
  fstage : FlashStage
  fbank : BitVec 1
  /-- The EEPROM input bits, oldest first. -/
  ein : List Bool
  /-- The EEPROM output bits, next first. -/
  eout : List Bool
  deriving DecidableEq, Repr

/-- The previous bus access (R59, `last_access`): address, width in bits, and whether it fetched code. -/
structure Access where
  addr : Word
  width : Nat
  code : Bool
  deriving DecidableEq, Repr

/-- The CPU-32 half (R50 to R67). -/
structure Cpu32 where
  /-- The thirty general slots of R50: R0..R7 at 0..7, R8_usr..R14_usr at 8..14, R8_fiq..R14_fiq at 15..21,
  R13 and R14 of irq at 22, 23, of svc at 24, 25, of abt at 26, 27, of und at 28, 29. -/
  slots : Vector Word 30
  /-- The PC slot; `ia` while an instruction runs (R52). -/
  pc : Word
  cpsr : Psr
  spsrFiq : Word
  spsrIrq : Word
  spsrSvc : Word
  spsrAbt : Word
  spsrUnd : Word
  halted : Bool
  lastAccess : Option Access
  ie : BitVec 14
  iflag : BitVec 14
  ime : Bool
  waitcnt : Half
  postflg : Bool
  /-- HALTCNT as last written (R121). -/
  haltcnt : Byte
  keyinput : BitVec 10
  timers : Vector Timer 4
  dma : Vector DmaChannel 4
  save : Save
  /-- EWRAM, IWRAM, palette, VRAM, OAM and save bytes at the region's base + offset. -/
  mem : Memory
  deriving DecidableEq, Repr

/-- What a step delivers to a collaborator (R111, R118, R122, R792, R795). -/
inductive Delivery where
  /-- A CPU-8 forwarded IO write. -/
  | io8 (addr : Half) (v : Byte)
  /-- A write to the CPU-8 mapper. -/
  | rom8 (addr : Half) (v : Byte)
  /-- A CPU-32 forwarded IO write: offset, value and byte mask. -/
  | io32 (offset : Nat) (v : Half) (mask : Half)
  /-- The CPU-8 key mask of setInputs. -/
  | keys8 (mask : Nat)
  /-- What the cycle callback is told: the cycles of the step (R795). -/
  | retired8 (cycles : Nat)
  deriving DecidableEq, Repr

/-- An event of `triggerDMA` (R772). -/
inductive DmaEvent where
  | vblank | hblank | other
  deriving DecidableEq, Repr

/-- A call of the host interface that the cycle callback may make (R790, R795). That it does not call `run`, nor
`setCycleCallback`, is the model's choice (log entry 33). -/
inductive HostCall where
  | reset
  | setInputs (mask : Nat)
  | flagInterrupt (bit : Nat)
  | triggerDma (event : DmaEvent)
  /-- The mapper collaborator changes what it answers (R111). -/
  | answerRom8 (addr : Half) (v : Byte)
  deriving DecidableEq, Repr

/-- A cycle callback as plain data: the calls it makes each time it is called, next first (R795; log entry 33). -/
abbrev Callback := List (List HostCall)

/-- The machine. It runs one variant (R2); the other half stays as reset left it. -/
structure State where
  params : Params
  cpu8 : Cpu8
  cpu32 : Cpu32
  /-- What the mapper collaborator ROM8 answers, by bus address; unlisted addresses answer a draw
  (R111, R113; log entry 6). -/
  cart8 : Image
  /-- `fault` of R36 and R59. -/
  fault : Option Fault
  /-- The cycles of the step (R810, R811), which the meanings add up. -/
  cycles : Nat
  /-- The index of the next free value (R13; log entry 5). -/
  draws : Nat
  /-- What the last step delivered to collaborators (log entry 10). -/
  outbox : List Delivery
  /-- The cycle callback, if the host registered one (R795; log entry 33). -/
  callback : Option Callback
  /-- Whether `reset()` was ever called (R794; log entry 34). -/
  wasReset : Bool
  deriving DecidableEq, Repr

/-- R800. -/
def Cpu8.reset (p : Params) : Cpu8 where
  a := if p.colorMode then 0x11#8 else 0x01#8
  f := 0xB0#8
  b := 0x00#8
  c := 0x13#8
  d := 0x00#8
  e := 0xD8#8
  h := 0x01#8
  l := 0xD4#8
  sp := 0xFFFE#16
  pc := 0x0100#16
  ime := false
  halted := false
  stopped := false
  eiPending := false
  doubleSpeed := false
  speedArmed := false
  div16 := p.div16Reset
  timerIn := false
  ie := 0
  iflag := 0
  tima := 0
  tma := 0
  tac := 0
  oamDma := 0
  vbk := 0
  svbk := 0
  hdma1 := 0
  hdma2 := 0
  hdma3 := 0
  hdma4 := 0
  mem := Memory.ofImage p.ramInit8

/-- CPSR after reset, 0x000000D3 (R801). -/
def Psr.reset : Psr where
  n := false
  z := false
  c := false
  v := false
  i := true
  f := true
  t := false
  mode := .svc

/-- A timer after reset (R801). -/
def Timer.reset : Timer where
  counter := 0
  reload := 0
  control := 0
  phase := 0

/-- A DMA channel after reset (R801). -/
def DmaChannel.reset : DmaChannel where
  sad := 0
  dad := 0
  cntL := 0
  control := 0
  isrc := 0
  idst := 0
  icount := 0
  pending := false

/-- The save machine at start (R153, R801). -/
def Save.reset (kind : SaveType) : Save where
  kind := kind
  fmode := .read
  fcmd := .none
  fstage := .s0
  fbank := 0
  ein := []
  eout := []

/-- A register slot after reset, by its number in `Config.unwrittenReg` (R60). -/
def resetReg (p : Params) (slot : Nat) : Word :=
  match p.resetRegs with
  | .zero => 0
  | .unwritten => Config.unwrittenReg slot

/-- An SPSR after reset: bits 27..8 read zero (R56, R60). -/
def resetSpsr (p : Params) (slot : Nat) : Word := resetReg p slot &&& 0xF00000FF#32

/-- R801. The save bytes are SAVE_INIT's, the other bytes RAM_INIT's. -/
def Cpu32.reset (p : Params) : Cpu32 where
  slots := Vector.ofFn (fun n => resetReg p n.val)
  pc := 0
  cpsr := Psr.reset
  spsrFiq := resetSpsr p 30
  spsrIrq := resetSpsr p 31
  spsrSvc := resetSpsr p 32
  spsrAbt := resetSpsr p 33
  spsrUnd := resetSpsr p 34
  halted := false
  lastAccess := none
  ie := 0
  iflag := 0
  ime := false
  waitcnt := 0
  postflg := false
  haltcnt := 0
  keyinput := 0x3FF#10
  timers := Vector.replicate 4 Timer.reset
  dma := Vector.replicate 4 DmaChannel.reset
  save := Save.reset p.saveType
  mem := Memory.ofImage (p.saveBytes.filter (fun cell => 0x0E000000 ≤ cell.1) ++
    p.ramInit32.filter (fun cell => cell.1 < 0x0E000000))

/-- The machine after reset, as a function of the parameters only (R802). -/
def State.resetWith (p : Params) : State where
  params := p
  cpu8 := Cpu8.reset p
  cpu32 := Cpu32.reset p
  cart8 := []
  fault := none
  cycles := 0
  draws := 0
  outbox := []
  callback := none
  wasReset := true

/-- The machine before the first `reset()`: its state means nothing yet, and `run` declines it (R794). -/
def State.powerOn (p : Params) : State := { State.resetWith p with wasReset := false }

/-- The machine right after reset, with the parameters of `Params.default`. -/
def State.reset : State := State.resetWith Params.default

end Sys2Proof.Machine
end

