-- ==== Sys2Proof/Machine/Flags.lean ====
section
/-! DEFINITION. Flag computations: the CPU-8 flag byte and the results that set it (00_scope.md R16,
41_cpu8_alu.md, 42_cpu8_cb.md), and the CPU-32 status word, condition tests and arithmetic
(10_state.md R54, R55; 44_arm_dataproc.md). -/

namespace Sys2Proof.Machine

/-! CPU-8. -/

/-- F from its four flags; bits 3..0 are 0 (R32). -/
def mkF (z n h c : Bool) : Byte :=
  BitVec.ofBool z ++ BitVec.ofBool n ++ BitVec.ofBool h ++ BitVec.ofBool c ++ 0#4

/-- F[7] (R32). -/
def flagZ (f : Byte) : Bool := f.getLsbD 7

/-- F[6] (R32). -/
def flagN (f : Byte) : Bool := f.getLsbD 6

/-- F[5] (R32). -/
def flagH (f : Byte) : Bool := f.getLsbD 5

/-- F[4] (R32). -/
def flagC (f : Byte) : Bool := f.getLsbD 4

/-- The carry-in as a number. -/
def carryNat (c : Bool) : Nat := if c then 1 else 0

/-- `H_add` (R16). -/
def hAdd (a b : Byte) (c : Bool) : Bool := decide (a.toNat % 16 + b.toNat % 16 + carryNat c > 0xF)

/-- `C_add` (R16). -/
def cAdd (a b : Byte) (c : Bool) : Bool := decide (a.toNat + b.toNat + carryNat c > 0xFF)

/-- `H_sub` (R16): the exact difference of the low nibbles is negative. -/
def hSub (a b : Byte) (c : Bool) : Bool := decide (a.toNat % 16 < b.toNat % 16 + carryNat c)

/-- `C_sub` (R16): the exact difference is negative. -/
def cSub (a b : Byte) (c : Bool) : Bool := decide (a.toNat < b.toNat + carryNat c)

/-- ADD and ADC (R351, R352): the sum and F. -/
def addResult (a b : Byte) (c : Bool) : Byte × Byte :=
  let r := a + b + BitVec.ofNat 8 (carryNat c)
  (r, mkF (r == 0) false (hAdd a b c) (cAdd a b c))

/-- SUB, SBC and CP (R353, R354, R358): the difference and F. -/
def subResult (a b : Byte) (c : Bool) : Byte × Byte :=
  let r := a - b - BitVec.ofNat 8 (carryNat c)
  (r, mkF (r == 0) true (hSub a b c) (cSub a b c))

/-- AND, XOR and OR (R355 to R357): F from the result. -/
def logicResult (r : Byte) (h : Bool) : Byte × Byte := (r, mkF (r == 0) false h false)

/-- The eight operations of R350: the result and F. -/
def aluResult8 (op : Alu8) (a b f : Byte) : Byte × Byte :=
  match op with
  | .add => addResult a b false
  | .adc => addResult a b (flagC f)
  | .sub => subResult a b false
  | .sbc => subResult a b (flagC f)
  | .and => logicResult (a &&& b) true
  | .xor => logicResult (a ^^^ b) false
  | .or => logicResult (a ||| b) false
  | .cp => subResult a b false

/-- INC (R359): C is kept. -/
def incResult (a f : Byte) : Byte × Byte :=
  (a + 1, mkF (a + 1 == 0) false (hAdd a 1 false) (flagC f))

/-- DEC (R361): C is kept. -/
def decResult (a f : Byte) : Byte × Byte :=
  (a - 1, mkF (a - 1 == 0) true (hSub a 1 false) (flagC f))

/-- ADD HL,rr (R363): Z is kept. -/
def addHlResult (a b : Half) (f : Byte) : Half × Byte :=
  (a + b, mkF (flagZ f) false (decide (a.toNat % 0x1000 + b.toNat % 0x1000 > 0x0FFF))
    (decide (a.toNat + b.toNat > 0xFFFF)))

/-- SP + e of ADD SP,e and LD HL,SP+e (R324, R366): the flags add e to the low byte, unsigned. -/
def addSpResult (sp : Half) (e : Byte) : Half × Byte :=
  (sp + e.signExtend 16, mkF false false (decide (sp.toNat % 16 + e.toNat % 16 > 0x0F))
    (decide (sp.toNat % 256 + e.toNat > 0xFF)))

/-- The correction of DAA (R367). -/
def daaCorrection (a f : Byte) : Byte :=
  if flagN f then
    (if flagC f then 0x60#8 else 0#8) ||| (if flagH f then 0x06#8 else 0#8)
  else
    (if flagC f = true ∨ a.toNat > 0x99 then 0x60#8 else 0#8) |||
      (if flagH f = true ∨ a.toNat % 16 > 0x09 then 0x06#8 else 0#8)

/-- DAA (R367). -/
def daaResult (a f : Byte) : Byte × Byte :=
  let corr := daaCorrection a f
  let r := if flagN f then a - corr else a + corr
  (r, mkF (r == 0) (flagN f) false (decide (corr.toNat ≥ 0x60)))

/-- A bit as bit 0 of a byte. -/
def bit0 (b : Bool) : Byte := if b then 0x01#8 else 0#8

/-- A bit as bit 7 of a byte. -/
def bit7 (b : Bool) : Byte := if b then 0x80#8 else 0#8

/-- The rotates and shifts of R401 to R408: the result and the bit that lands in C. -/
def rotResult (op : Rot8) (v : Byte) (c : Bool) : Byte × Bool :=
  match op with
  | .rlc => ((v <<< 1) ||| bit0 (v.getLsbD 7), v.getLsbD 7)
  | .rrc => ((v >>> 1) ||| bit7 (v.getLsbD 0), v.getLsbD 0)
  | .rl => ((v <<< 1) ||| bit0 c, v.getLsbD 7)
  | .rr => ((v >>> 1) ||| bit7 c, v.getLsbD 0)
  | .sla => (v <<< 1, v.getLsbD 7)
  | .sra => ((v >>> 1) ||| (v &&& 0x80#8), v.getLsbD 0)
  | .swap => ((v <<< 4) ||| (v >>> 4), false)
  | .srl => (v >>> 1, v.getLsbD 0)

/-! CPU-32. -/

/-- R55. -/
def Mode.code : Mode → BitVec 5
  | .usr => 0x10#5 | .fiq => 0x11#5 | .irq => 0x12#5 | .svc => 0x13#5
  | .abt => 0x17#5 | .und => 0x1B#5 | .sys => 0x1F#5

/-- R55: every other value is no mode. -/
def Mode.ofCode? (m : Nat) : Option Mode :=
  match m with
  | 0x10 => some .usr | 0x11 => some .fiq | 0x12 => some .irq | 0x13 => some .svc
  | 0x17 => some .abt | 0x1B => some .und | 0x1F => some .sys
  | _ => none

/-- The 32-bit CPSR (R54). -/
def Psr.toWord (p : Psr) : Word :=
  BitVec.ofBool p.n ++ BitVec.ofBool p.z ++ BitVec.ofBool p.c ++ BitVec.ofBool p.v ++ 0#20 ++
    BitVec.ofBool p.i ++ BitVec.ofBool p.f ++ BitVec.ofBool p.t ++ p.mode.code

/-- The CPSR a word stands for, if its M is a mode (R55); bits 27..8 are ignored (R54). -/
def Psr.ofWord? (w : Word) : Option Psr :=
  match Mode.ofCode? (w.toNat % 32) with
  | some m =>
    some { n := w.getLsbD 31, z := w.getLsbD 30, c := w.getLsbD 29, v := w.getLsbD 28
           i := w.getLsbD 7, f := w.getLsbD 6, t := w.getLsbD 5, mode := m }
  | none => none

/-- The stored bits of a status word: bits 27..8 store 0 (R54, R56). -/
def psrMask : Word := 0xF00000FF#32

/-- The condition tests of R500. -/
def condPasses (cond : Cond) (p : Psr) : Bool :=
  match cond with
  | .eq => p.z
  | .ne => !p.z
  | .cs => p.c
  | .cc => !p.c
  | .mi => p.n
  | .pl => !p.n
  | .vs => p.v
  | .vc => !p.v
  | .hi => p.c && !p.z
  | .ls => !p.c || p.z
  | .ge => p.n == p.v
  | .lt => p.n != p.v
  | .gt => !p.z && (p.n == p.v)
  | .le => p.z || (p.n != p.v)
  | .al => true

/-- `AddC` (R504): result, carry, overflow. -/
def addC (a b : Word) (cin : Bool) : Word × Bool × Bool :=
  let u := a.toNat + b.toNat + carryNat cin
  let r := BitVec.ofNat 32 u
  (r, decide (u > 0xFFFFFFFF), ((a ^^^ r) &&& (b ^^^ r)).getLsbD 31)

/-- The sixteen operations of R506 to R521: result, carry and overflow. A logical one takes the shifter's
carry and keeps V. -/
def dpResult (op : DpOp) (a b : Word) (shc : Bool) (p : Psr) : Word × Bool × Bool :=
  match op with
  | .and => (a &&& b, shc, p.v)
  | .eor => (a ^^^ b, shc, p.v)
  | .sub => addC a (~~~b) true
  | .rsb => addC b (~~~a) true
  | .add => addC a b false
  | .adc => addC a b p.c
  | .sbc => addC a (~~~b) p.c
  | .rsc => addC b (~~~a) p.c
  | .tst => (a &&& b, shc, p.v)
  | .teq => (a ^^^ b, shc, p.v)
  | .cmp => addC a (~~~b) true
  | .cmn => addC a b false
  | .orr => (a ||| b, shc, p.v)
  | .mov => (b, shc, p.v)
  | .bic => (a &&& ~~~b, shc, p.v)
  | .mvn => (~~~b, shc, p.v)

/-- The operations that write no register (R505). -/
def isTestOp : DpOp → Bool
  | .tst | .teq | .cmp | .cmn => true
  | .and | .eor | .sub | .rsb | .add | .adc | .sbc | .rsc | .orr | .mov | .bic | .mvn => false

/-- The operations whose Rn field should be zero (R505). -/
def ignoresRn : DpOp → Bool
  | .mov | .mvn => true
  | .and | .eor | .sub | .rsb | .add | .adc | .sbc | .rsc | .tst | .teq | .cmp | .cmn | .orr | .bic => false

/-- N and Z of a result, with a carry and an overflow (R505). -/
def Psr.setFlags (p : Psr) (r : Word) (c v : Bool) : Psr :=
  { p with n := r.getLsbD 31, z := r == 0, c := c, v := v }

/-- N and Z of a 64-bit product, C cleared, V kept (R532). -/
def Psr.setLongFlags (p : Psr) (r : BitVec 64) : Psr :=
  { p with n := r.getLsbD 63, z := r == 0, c := false }

/-- The leading bytes of a word, from byte 3 down, that are all equal to `x` (R536). -/
def leadingBytes (w : Word) (x : Nat) : Nat :=
  if w.toNat / 0x1000000 ≠ x then 0
  else if w.toNat / 0x10000 % 256 ≠ x then 1
  else if w.toNat / 0x100 % 256 ≠ x then 2
  else if w.toNat % 256 ≠ x then 3
  else 4

/-- `iCycles` of R536 without the accumulate term. -/
def multiplyCycles (w : Word) : Nat :=
  let k := max (leadingBytes w 0x00) (leadingBytes w 0xFF)
  if k = 4 then 1 else 4 - k

end Sys2Proof.Machine
end

