-- ==== Sys2Proof/Machine/Ops.lean ====
section
/-! DEFINITION. The named operations every meaning uses: outcomes, free values, the registers of both variants,
taking a CPU-32 exception and returning from one (10_state.md R30 to R35, R50 to R58; 60_exceptions.md R742). -/

namespace Sys2Proof.Machine

/-- What an instruction or a part of one answers. -/
abbrev Res := Host.Outcome State Fault Refusal

/-- Go on from a next state; a fault or a refusal stays. -/
def thenRes (r : Res) (k : State → Res) : Res :=
  match r with
  | .next s => k s
  | .fault f => .fault f
  | .refused q => .refused q

/-- A free value of width w (R13): the next constant, and the state that will not give it again. -/
def draw (w : Nat) (s : State) : BitVec w × State :=
  (Config.draw w s.draws, { s with draws := s.draws + 1 })

/-- Add cycles to the running instruction (R14). -/
def charge (k : Nat) (s : State) : State := { s with cycles := s.cycles + k }

/-- Hand a write to a collaborator (R118, R122). -/
def deliver (d : Delivery) (s : State) : State := { s with outbox := s.outbox ++ [d] }

/-- Change the CPU-8 half. -/
def on8 (f : Cpu8 → Cpu8) (s : State) : State := { s with cpu8 := f s.cpu8 }

/-- Change the CPU-32 half. -/
def on32 (f : Cpu32 → Cpu32) (s : State) : State := { s with cpu32 := f s.cpu32 }

/-! CPU-8 registers. -/

/-- A pair from its halves, the first named high (R31). -/
def pair (hi lo : Byte) : Half := hi ++ lo

/-- The high byte of a pair. -/
def hiByte (v : Half) : Byte := (v >>> 8).setWidth 8

/-- The low byte of a pair. -/
def loByte (v : Half) : Byte := v.setWidth 8

/-- `r8[R(k)]` for k ≠ 6 (R300); code 6 names memory and has its own operation, `readOperand8`. -/
def Cpu8.reg (c : Cpu8) : R8 → Byte
  | .b => c.b | .c => c.c | .d => c.d | .e => c.e | .h => c.h | .l => c.l | .a => c.a
  | .hlm => 0

/-- `r8[R(k)] <- v` for k ≠ 6 (R300). -/
def Cpu8.setReg (c : Cpu8) (k : R8) (v : Byte) : Cpu8 :=
  match k with
  | .b => { c with b := v } | .c => { c with c := v } | .d => { c with d := v } | .e => { c with e := v }
  | .h => { c with h := v } | .l => { c with l := v } | .a => { c with a := v }
  | .hlm => c

/-- `r16[HL]`. -/
def Cpu8.hl (c : Cpu8) : Half := pair c.h c.l

/-- `F <- v & 0xF0` (R32). -/
def Cpu8.setF (c : Cpu8) (v : Byte) : Cpu8 := { c with f := v &&& 0xF0#8 }

/-- `A <- v` and F. -/
def Cpu8.setAF (c : Cpu8) (a f : Byte) : Cpu8 := ({ c with a := a }).setF f

/-- `r16[RR(p)]` (R202). -/
def Cpu8.pairOf (c : Cpu8) : RP → Half
  | .bc => pair c.b c.c | .de => pair c.d c.e | .hl => pair c.h c.l | .sp => c.sp

/-- `r16[RR(p)] <- v` (R31). -/
def Cpu8.setPair (c : Cpu8) (p : RP) (v : Half) : Cpu8 :=
  match p with
  | .bc => { c with b := hiByte v, c := loByte v }
  | .de => { c with d := hiByte v, e := loByte v }
  | .hl => { c with h := hiByte v, l := loByte v }
  | .sp => { c with sp := v }

/-- `r16[QQ(q)]` (R202). -/
def Cpu8.stackPair (c : Cpu8) : QQ → Half
  | .bc => pair c.b c.c | .de => pair c.d c.e | .hl => pair c.h c.l | .af => pair c.a c.f

/-- `r16[QQ(q)] <- v`, with F masked (R326). -/
def Cpu8.setStackPair (c : Cpu8) (q : QQ) (v : Half) : Cpu8 :=
  match q with
  | .bc => { c with b := hiByte v, c := loByte v }
  | .de => { c with d := hiByte v, e := loByte v }
  | .hl => { c with h := hiByte v, l := loByte v }
  | .af => c.setAF (hiByte v) (loByte v)

/-- The conditions of R430. -/
def condPasses8 (cc : Cc) (f : Byte) : Bool :=
  match cc with
  | .nz => !flagZ f
  | .z => flagZ f
  | .nc => !flagC f
  | .c => flagC f

/-- `SERV8` (R39). -/
def Cpu8.serviceable (c : Cpu8) : BitVec 5 := c.ie.setWidth 5 &&& c.iflag

/-! CPU-32 registers. -/

/-- `Map(i, mode)` of R50 as an index into `Cpu32.slots`, for i < 15 (R15 is the PC, and has no slot). -/
def slotOf (i : RegNum) (m : Mode) : Fin 30 :=
  match i.toNat, m with
  | 0, _ => 0 | 1, _ => 1 | 2, _ => 2 | 3, _ => 3 | 4, _ => 4 | 5, _ => 5 | 6, _ => 6 | 7, _ => 7
  | 8, .fiq => 15 | 9, .fiq => 16 | 10, .fiq => 17 | 11, .fiq => 18 | 12, .fiq => 19
  | 8, _ => 8 | 9, _ => 9 | 10, _ => 10 | 11, _ => 11 | 12, _ => 12
  | 13, .usr => 13 | 13, .sys => 13 | 13, .fiq => 20 | 13, .irq => 22 | 13, .svc => 24
  | 13, .abt => 26 | 13, .und => 28
  | _, .usr => 14 | _, .sys => 14 | _, .fiq => 21 | _, .irq => 23 | _, .svc => 25
  | _, .abt => 27 | _, .und => 29

/-- `x[i]` for i < 15, through a mode's map (R50). -/
def Cpu32.regIn (c : Cpu32) (m : Mode) (i : RegNum) : Word := c.slots[slotOf i m]

/-- `x[i] <- v` for i < 15, through a mode's map (R50). -/
def Cpu32.setRegIn (c : Cpu32) (m : Mode) (i : RegNum) (v : Word) : Cpu32 :=
  { c with slots := c.slots.set (slotOf i m) v }

/-- The length in bytes of an instruction in the current state (R224). -/
def Cpu32.codeBytes (c : Cpu32) : Nat := if c.cpsr.t then 2 else 4

/-- What R15 reads as in an ordinary operand: ia + 8 in ARM state, ia + 4 in THUMB state (R52). -/
def Cpu32.pcRead (c : Cpu32) : Word := if c.cpsr.t then c.pc + 4 else c.pc + 8

/-- `x[i]` as an operand (R52). -/
def readReg (i : RegNum) (s : State) : Word :=
  if i = 15#4 then s.cpu32.pcRead else s.cpu32.regIn s.cpu32.cpsr.mode i

/-- `x[i]` where R15 reads ia + 12: the register-shift form, and the stored register (R52). -/
def readRegLate (i : RegNum) (s : State) : Word :=
  if i = 15#4 then s.cpu32.pc + 12 else s.cpu32.regIn s.cpu32.cpsr.mode i

/-- `xu[i]` (R51), with R15 as a stored register (R582). -/
def readUserLate (i : RegNum) (s : State) : Word :=
  if i = 15#4 then s.cpu32.pc + 12 else s.cpu32.regIn .usr i

/-- `x[i] <- v` for i < 15; a write of R15 is `jumpTo` (R53). -/
def writeReg (i : RegNum) (v : Word) (s : State) : State :=
  on32 (fun c => c.setRegIn c.cpsr.mode i v) s

/-- `xu[i] <- v` (R51). -/
def writeUser (i : RegNum) (v : Word) (s : State) : State := on32 (fun c => c.setRegIn .usr i v) s

/-- A THUMB 3-bit register field as a register number (R630). -/
def low (r : LowReg) : RegNum := r.setWidth 4

/-- Change CPSR. -/
def setPsr (f : Psr → Psr) (s : State) : State := on32 (fun c => { c with cpsr := f c.cpsr }) s

/-- The SPSR of a mode that has one (R56). -/
def Cpu32.spsr? (c : Cpu32) (m : Mode) : Option Word :=
  match m with
  | .fiq => some c.spsrFiq
  | .irq => some c.spsrIrq
  | .svc => some c.spsrSvc
  | .abt => some c.spsrAbt
  | .und => some c.spsrUnd
  | .usr => none
  | .sys => none

/-- Write the SPSR of a mode, bits 27..8 storing 0 (R56); user and system mode have none. -/
def Cpu32.setSpsr (c : Cpu32) (m : Mode) (v : Word) : Cpu32 :=
  match m with
  | .fiq => { c with spsrFiq := v &&& psrMask }
  | .irq => { c with spsrIrq := v &&& psrMask }
  | .svc => { c with spsrSvc := v &&& psrMask }
  | .abt => { c with spsrAbt := v &&& psrMask }
  | .und => { c with spsrUnd := v &&& psrMask }
  | .usr => c
  | .sys => c

/-- `raise Fault(Unpredictable, reason)` at the running instruction (R13, R751). -/
def unpredictable (r : Reason) (s : State) : Res := .fault (.unpredictable r s.cpu32.pc.toNat)

/-- `raise Fault(UndefinedOpcode, …)` with the bits and `ia` (R13, R216, R222). -/
def undefinedAlways (w : Nat) (s : State) : Res := .fault (.undefinedOpcode w s.cpu32.pc.toNat)

/-- A PC value aligned for a state: `& ~1` in THUMB, `& ~3` in ARM (R53, R58). -/
def alignPc (t : Bool) (v : Word) : Word := if t then v &&& ~~~1#32 else v &&& ~~~3#32

/-- `CPSR.T <- t` and `pc <- v` aligned to that state. -/
def setPc (t : Bool) (v : Word) (s : State) : State :=
  on32 (fun c => { c with pc := alignPc t v, cpsr := { c.cpsr with t := t } }) s

/-- Taking an exception: `Enter(mode, vector, lr)` (R742). -/
def enterException (mode : Mode) (vector lr : Word) (s : State) : State :=
  on32 (fun c =>
    let c1 := c.setSpsr mode c.cpsr.toWord
    let c2 := { c1 with cpsr := { c.cpsr with mode := mode, t := false, i := true } }
    { c2.setRegIn mode 14#4 lr with pc := vector }) s

/-- Returning from one: `RestoreCPSR()` (R58). -/
def restoreCpsr (s : State) : Res :=
  match s.cpu32.spsr? s.cpu32.cpsr.mode with
  | none => unpredictable .noSpsr s
  | some w =>
    match Psr.ofWord? w with
    | none => unpredictable .invalidMode s
    | some p => .next (setPsr (fun _ => p) s)

/-- The bytes an MSR field mask selects (R540). -/
def fieldMask (fields : BitVec 4) : Word :=
  (if fields.getLsbD 3 then 0xFF000000#32 else 0) ||| (if fields.getLsbD 2 then 0x00FF0000#32 else 0) |||
    (if fields.getLsbD 1 then 0x0000FF00#32 else 0) ||| (if fields.getLsbD 0 then 0x000000FF#32 else 0)

/-- `old` with the bits of `mask` taken from `v`. -/
def replaceBits (old v mask : Word) : Word := (old &&& ~~~mask) ||| (v &&& mask)

/-- `WritePSR(target, fmask, v)` (R540). -/
def writePsr (spsr : Bool) (fields : BitVec 4) (v : Word) (s : State) : Res :=
  let c := s.cpu32
  if spsr then
    match c.spsr? c.cpsr.mode with
    | none => unpredictable .noSpsr s
    | some old => .next (on32 (fun c => c.setSpsr c.cpsr.mode (replaceBits old v (fieldMask fields))) s)
  else
    let mask := if c.cpsr.mode = .usr then fieldMask fields &&& 0xFF000000#32 else fieldMask fields
    match Psr.ofWord? (replaceBits c.cpsr.toWord v mask) with
    | none => unpredictable .invalidMode s
    | some p => .next (setPsr (fun old => { p with t := old.t }) s)

/-- `SERV32` (R62). -/
def Cpu32.serviceable (c : Cpu32) : BitVec 14 := c.ie &&& c.iflag

end Sys2Proof.Machine
end

