-- ==== Sys2Proof/Machine/Save.lean ====
section
/-! DEFINITION. The cartridge save machines of CPU-32: SRAM, Flash and EEPROM (20_memory.md R150 to R158). -/

namespace Sys2Proof.Machine

/-- Who performs a bus write: the CPU, or a run of a DMA channel with its unit count (R157). -/
inductive Master where
  | cpu
  | dma (channel : Fin 4) (count : Nat)
  deriving DecidableEq, Repr

/-- Where the save bytes stand in `Cpu32.mem`. -/
def saveBase : Nat := 0x0E000000

/-- Change the save machine. -/
def onSave (f : Save → Save) (s : State) : State := on32 (fun c => { c with save := f c.save }) s

/-- Read a save byte. -/
def saveByte (s : State) (offset : Nat) : Byte := Memory.read s.cpu32.mem (saveBase + offset)

/-- Store a save byte. -/
def setSaveByte (offset : Nat) (v : Byte) (s : State) : State :=
  on32 (fun c => { c with mem := Memory.write c.mem (saveBase + offset) v }) s

/-- Set a run of save bytes to 0xFF (R154). -/
def eraseSave (offset n : Nat) (s : State) : State :=
  on32 (fun c => { c with mem := Memory.fill c.mem (saveBase + offset) 0xFF#8 n }) s

/-- Both EEPROM types (R150). -/
def isEepromType : SaveType → Bool
  | .eeprom512 | .eeprom8k => true
  | .unknown | .sram | .flash64 | .flash128 => false

/-- `flash[fbank * 0x10000 + o]`'s offset. -/
def Save.flashOffset (v : Save) (o : Nat) : Nat := v.fbank.toNat * 0x10000 + o

/-- End a Flash command: `fcmd <- None; fstage <- 0`. -/
def Save.endCommand (v : Save) : Save := { v with fcmd := .none, fstage := .s0 }

/-- The command byte at 0x5555 after the unlock (R154). -/
def flashCommand (b : Nat) (s : State) : State :=
  let v := s.cpu32.save
  let back := onSave (fun v => { v with fstage := .s0 })
  match b with
  | 0x90 => back (onSave (fun v => { v with fmode := .id }) s)
  | 0xF0 => back (onSave (fun v => { v with fmode := .read }) s)
  | 0x80 => back (onSave (fun v => { v with fcmd := .erase }) s)
  | 0x10 =>
    if v.fcmd = .erase then
      back (onSave (fun v => { v with fcmd := .none })
        (eraseSave 0 (if v.kind = .flash128 then 0x20000 else 0x10000) s))
    else back s
  | 0xA0 => back (onSave (fun v => { v with fcmd := .write }) s)
  | 0xB0 => back (onSave (fun v => { v with fcmd := .bank }) s)
  | _ => back s

/-- A Flash write: the first matching line of R154. -/
def flashWrite (o : Nat) (b : Byte) (s : State) : State :=
  let v := s.cpu32.save
  if v.fcmd = .write then onSave Save.endCommand (setSaveByte (v.flashOffset o) b s)
  else if v.fcmd = .bank ∧ o = 0 then
    onSave (fun v => { v.endCommand with fbank := if v.kind = .flash128 then b.setWidth 1 else 0 }) s
  else if v.fstage = .s0 ∧ o = 0x5555 ∧ b = 0xAA#8 then onSave (fun v => { v with fstage := .s1 }) s
  else if v.fstage = .s1 ∧ o = 0x2AAA ∧ b = 0x55#8 then onSave (fun v => { v with fstage := .s2 }) s
  else if v.fstage = .s2 ∧ o = 0x5555 then flashCommand b.toNat s
  else if v.fstage = .s2 ∧ v.fcmd = .erase ∧ b = 0x30#8 then
    onSave Save.endCommand (eraseSave (v.flashOffset (o / 0x1000 * 0x1000)) 0x1000 s)
  else if b = 0xF0#8 then onSave (fun v => { v with fmode := .read, fstage := .s0 }) s
  else onSave (fun v => { v with fstage := .s0 }) s

/-- A Flash read (R155). -/
def flashRead (o : Nat) (s : State) : Byte :=
  let v := s.cpu32.save
  if v.fmode = .id ∧ o = 0 then Config.flashMaker
  else if v.fmode = .id ∧ o = 1 then Config.flashDevice
  else saveByte s (v.flashOffset o)

/-- The byte that an 8-bit read of region 0xE–0xF answers at an address (R152, R155); none where the answer is a draw
(R151; under an EEPROM type, log entry 17). -/
def saveRead (addr : Nat) (s : State) : Option Byte :=
  match s.cpu32.save.kind with
  | .sram => some (saveByte s (addr % 0x8000))
  | .flash64 => some (flashRead (addr % 0x10000) s)
  | .flash128 => some (flashRead (addr % 0x10000) s)
  | .unknown => none
  | .eeprom512 => none
  | .eeprom8k => none

/-- The type the first write to region 0xE–0xF decides (R151). -/
def detectSave (byteWrite : Bool) (addr : Nat) (b : Byte) : SaveType :=
  if byteWrite = true ∧ b = 0xAA#8 ∧ addr % 0x10000 = 0x5555 then .flash64 else .sram

/-- The 8-bit write of region 0xE–0xF, after detection (R151, R152, R154). -/
def saveWrite (byteWrite : Bool) (addr : Nat) (b : Byte) (s : State) : State :=
  let s := if s.cpu32.save.kind = .unknown then onSave (fun v => { v with kind := detectSave byteWrite addr b }) s
    else s
  match s.cpu32.save.kind with
  | .sram => setSaveByte (addr % 0x8000) b s
  | .flash64 => flashWrite (addr % 0x10000) b s
  | .flash128 => flashWrite (addr % 0x10000) b s
  | .unknown => s
  | .eeprom512 => s
  | .eeprom8k => s

/-! EEPROM. -/

/-- The EEPROM size on detection, by the DMA 3 unit count (R157). -/
def detectEeprom (m : Master) : SaveType :=
  match m with
  | .cpu => .eeprom8k
  | .dma ch count => if ch = 3 ∧ (count = 9 ∨ count = 73) then .eeprom512 else .eeprom8k

/-- The address width A (R156). -/
def eepromAddrBits (k : SaveType) : Nat := if k = .eeprom512 then 6 else 14

/-- The storage in 8-byte blocks (R150). -/
def eepromBlocks (k : SaveType) : Nat := if k = .eeprom512 then 64 else 1024

/-- A number from bits, most significant first. -/
def ofBits (bs : List Bool) : Nat := bs.foldl (fun acc b => 2 * acc + (if b then 1 else 0)) 0

/-- The bits of a byte, most significant first. -/
def byteBits (b : Byte) : List Bool :=
  [b.getLsbD 7, b.getLsbD 6, b.getLsbD 5, b.getLsbD 4, b.getLsbD 3, b.getLsbD 2, b.getLsbD 1, b.getLsbD 0]

/-- The 64 bits of a block, the first byte's most significant bit first (R156). -/
def blockBits (s : State) (block : Nat) : Nat → List Bool
  | 0 => []
  | n + 1 => byteBits (saveByte s (8 * block + (7 - n))) ++ blockBits s block n

/-- Sixty-four free bits, for a block past the end of the storage (log entry 16). -/
def drawnBits (w : BitVec 64) : Nat → List Bool
  | 0 => []
  | n + 1 => w.getLsbD n :: drawnBits w n

/-- Store 8n bits into a block, the first bit the most significant of byte `8 - n` (R156). -/
def storeBlock (block : Nat) (bs : List Bool) : Nat → State → State
  | 0, s => s
  | n + 1, s =>
    storeBlock block (bs.drop 8) n (setSaveByte (8 * block + (7 - n)) (BitVec.ofNat 8 (ofBits (bs.take 8))) s)

/-- The answer to a read request (R156): four 0 bits and the block. -/
def eepromAnswer (block : Nat) (s : State) : State :=
  let zeros := [false, false, false, false]
  if block < eepromBlocks s.cpu32.save.kind then
    onSave (fun v => { v with ein := [], eout := zeros ++ blockBits s block 8 }) s
  else
    let d := draw 64 s
    onSave (fun v => { v with ein := [], eout := zeros ++ drawnBits d.1 64 }) d.2

/-- Act on a complete command in `ein` (R156). -/
def eepromCommand (s : State) : State :=
  let v := s.cpu32.save
  let aw := eepromAddrBits v.kind
  match v.ein with
  | true :: true :: rest =>
    if rest.length = aw + 1 then eepromAnswer (ofBits (rest.take aw)) s else s
  | true :: false :: rest =>
    if rest.length = aw + 65 then
      let block := ofBits (rest.take aw)
      let s' := if block < eepromBlocks v.kind then storeBlock block ((rest.drop aw).take 64) 8 s else s
      onSave (fun v => { v with ein := [], eout := [] }) s'
    else s
  | _ => s

/-- A 16-bit EEPROM write appends v[0] (R156); a full buffer drops it (log entry 16). -/
def eepromWrite (b : Bool) (s : State) : State :=
  let v := s.cpu32.save
  if v.ein.length < 0x80 then eepromCommand (onSave (fun v => { v with ein := v.ein ++ [b] }) s) else s

/-- A 16-bit EEPROM read (R156): the next output bit, and 1 where none is left, as R156 says and not the draw that
93_implementation_defined.md lists outside a read command (log entry 16). -/
def eepromRead (s : State) : Half × State :=
  match s.cpu32.save.eout with
  | [] => (1#16, s)
  | b :: rest => (if b then 1#16 else 0#16, onSave (fun v => { v with eout := rest }) s)

end Sys2Proof.Machine
end

