-- ==== Sys2Proof/Machine/Timers.lean ====
section
/-! DEFINITION. The timers of both variants, their register writes and their advance
(60_exceptions.md R720 to R722, R730 to R732; 70_reset_and_hazards.md R820). -/

namespace Sys2Proof.Machine

/-! CPU-8. -/

/-- `sel(TAC)`, the DIV16 bit that clocks TIMA (R40, R721). -/
def timerBit (tac : BitVec 3) : Nat :=
  match tac.toNat % 4 with
  | 0 => 9
  | 1 => 3
  | 2 => 5
  | _ => 7

/-- The timer clock, `TAC[2] AND DIV16[sel(TAC)]` (R721). -/
def timerSignal (tac : BitVec 3) (div16 : Half) : Bool := tac.getLsbD 2 && div16.getLsbD (timerBit tac)

/-- What a falling edge does: TIMA counts, or reloads and flags the Timer interrupt (R721). -/
def Cpu8.timerEdge (c : Cpu8) : Cpu8 :=
  if c.tima = 0xFF#8 then { c with tima := c.tma, iflag := c.iflag ||| 0b00100#5 }
  else { c with tima := c.tima + 1 }

/-- Recompute `timer_in`, and act on a falling edge (R721). -/
def Cpu8.updateTimerIn (c : Cpu8) : Cpu8 :=
  let new := timerSignal c.tac c.div16
  let c' := if c.timerIn = true ∧ new = false then c.timerEdge else c
  { c' with timerIn := new }

/-- One clock (R720, R721, R820). -/
def Cpu8.tick (c : Cpu8) : Cpu8 :=
  if c.stopped then c else ({ c with div16 := c.div16 + 1 }).updateTimerIn

/-- Advance by n clocks (R820). -/
def Cpu8.advance : Nat → Cpu8 → Cpu8
  | 0, c => c
  | n + 1, c => Cpu8.advance n c.tick

/-- A write to DIV (R722). -/
def Cpu8.writeDiv (c : Cpu8) : Cpu8 := ({ c with div16 := 0 }).updateTimerIn

/-- A write to TAC (R722). -/
def Cpu8.writeTac (c : Cpu8) (v : Byte) : Cpu8 := ({ c with tac := v.setWidth 3 }).updateTimerIn

/-! CPU-32. -/

/-- `control[n].enable` (R65). -/
def Timer.enabled (t : Timer) : Bool := t.control.getLsbD 7

/-- `control[n].irq` (R65). -/
def Timer.irq (t : Timer) : Bool := t.control.getLsbD 6

/-- `control[n].countup` (R65). -/
def Timer.countUp (t : Timer) : Bool := t.control.getLsbD 2

/-- `divisor(control[n].prescaler)` (R730). -/
def Timer.divisor (t : Timer) : Nat :=
  match t.control.toNat % 4 with
  | 0 => 1
  | 1 => 64
  | 2 => 256
  | _ => 1024

/-- Change timer n. -/
def Cpu32.setTimer (c : Cpu32) (n : Fin 4) (t : Timer) : Cpu32 := { c with timers := c.timers.set n t }

/-- `IF[bit] <- 1`. -/
def Cpu32.raise (c : Cpu32) (bit : Nat) : Cpu32 := { c with iflag := c.iflag ||| BitVec.ofNat 14 (2 ^ bit) }

/-- Whether the timer that follows in the list counts this one's overflows (R730). -/
def Cpu32.chained (c : Cpu32) : List (Fin 4) → Bool
  | [] => false
  | m :: _ => c.timers[m].enabled && c.timers[m].countUp

/-- `tick(n)` (R730), with the timers n, n + 1, …, 3 as the list. -/
def Cpu32.tickChain (c : Cpu32) : List (Fin 4) → Cpu32
  | [] => c
  | n :: rest =>
    let t := c.timers[n]
    if t.counter = 0xFFFF#16 then
      let c1 := c.setTimer n { t with counter := t.reload }
      let c2 := if t.irq then c1.raise (3 + n.val) else c1
      if c2.chained rest then Cpu32.tickChain c2 rest else c2
    else c.setTimer n { t with counter := t.counter + 1 }

/-- The timers from n on. -/
def timersFrom (n : Fin 4) : List (Fin 4) :=
  match n with
  | 0 => [0, 1, 2, 3]
  | 1 => [1, 2, 3]
  | 2 => [2, 3]
  | 3 => [3]

/-- One cycle of timer n (R730); timer 0 ignores the count-up bit. -/
def Cpu32.cycleTimer (c : Cpu32) (n : Fin 4) : Cpu32 :=
  let t := c.timers[n]
  if t.enabled = true ∧ ¬ (n.val > 0 ∧ t.countUp = true) then
    if t.phase + 1 = t.divisor then (c.setTimer n { t with phase := 0 }).tickChain (timersFrom n)
    else c.setTimer n { t with phase := t.phase + 1 }
  else c

/-- One cycle of all four timers, in index order (R730). -/
def Cpu32.tick (c : Cpu32) : Cpu32 :=
  (((c.cycleTimer 0).cycleTimer 1).cycleTimer 2).cycleTimer 3

/-- Advance by n cycles (R820). -/
def Cpu32.advance : Nat → Cpu32 → Cpu32
  | 0, c => c
  | n + 1, c => Cpu32.advance n c.tick

/-- A write to TMnCNT_L sets the reload only (R731). -/
def Cpu32.writeTimerReload (c : Cpu32) (n : Fin 4) (v : Half) : Cpu32 :=
  c.setTimer n { c.timers[n] with reload := v }

/-- The stored bits of TMnCNT_H (R65). -/
def timerControlMask : Half := 0x00C7#16

/-- A write to TMnCNT_H, with the enable edge of R731. -/
def Cpu32.writeTimerControl (c : Cpu32) (n : Fin 4) (v : Half) : Cpu32 :=
  let t := c.timers[n]
  let t' := { t with control := v &&& timerControlMask }
  if t.enabled = false ∧ t'.enabled = true then c.setTimer n { t' with counter := t.reload, phase := 0 }
  else c.setTimer n t'

end Sys2Proof.Machine
end

