-- ==== Sys2Proof/Machine/Bus32.lean ====
section
/-! DEFINITION. The CPU-32 bus: routing, the IO window and its registers, memory with its width rules, open bus,
and the access costs (10_state.md R61 to R66; 20_memory.md R102 to R105, R120 to R132). -/

namespace Sys2Proof.Machine

/-- An access width (R103). -/
inductive Width where
  | byte | half | word
  deriving DecidableEq, Repr

/-- n of `MemRead(addr, n)`. -/
def Width.bytes : Width → Nat
  | .byte => 1 | .half => 2 | .word => 4

/-- A region of the address space (R120). -/
inductive Region where
  | bios | ewram | iwram | io | palette | vram | oam
  /-- Cartridge ROM through wait-state window 0, 1 or 2 (R128). -/
  | rom (window : Nat)
  | save
  | unmapped
  deriving DecidableEq, Repr

/-- The routing of R120, by addr[27:24]; an address with addr[31:28] ≠ 0 is unmapped. -/
def region (addr : Word) : Region :=
  match addr.toNat / 0x1000000 with
  | 0x0 => if addr.toNat < 0x4000 then .bios else .unmapped
  | 0x2 => .ewram
  | 0x3 => .iwram
  | 0x4 => if addr.toNat < 0x4000400 then .io else .unmapped
  | 0x5 => .palette
  | 0x6 => .vram
  | 0x7 => .oam
  | 0x8 => .rom 0 | 0x9 => .rom 0
  | 0xA => .rom 1 | 0xB => .rom 1
  | 0xC => .rom 2 | 0xD => .rom 2
  | 0xE => .save | 0xF => .save
  | _ => .unmapped

/-- The VRAM offset, with the last 32 KiB of the window folded (R126). -/
def vramOffset (a : Nat) : Nat := if a % 0x20000 < 0x18000 then a % 0x20000 else a % 0x20000 - 0x8000

/-- The address aligned down to the access width (R103). -/
def alignTo (w : Width) (addr : Word) : Word :=
  match w with
  | .byte => addr
  | .half => addr &&& ~~~1#32
  | .word => addr &&& ~~~3#32

/-! Costs. -/

/-- The decoded wait count of a 2-bit field (R63). -/
def firstWait (n : Nat) : Nat :=
  match n with
  | 0 => 4
  | 1 => 3
  | 2 => 2
  | _ => 8

/-- `nw_k` (R63, R131). -/
def nWait (waitcnt : Half) (k : Nat) : Nat :=
  match k with
  | 0 => firstWait (bits waitcnt.toNat 3 2)
  | 1 => firstWait (bits waitcnt.toNat 6 5)
  | _ => firstWait (bits waitcnt.toNat 9 8)

/-- `sw_k` (R63, R131). -/
def sWait (waitcnt : Half) (k : Nat) : Nat :=
  match k with
  | 0 => if waitcnt.getLsbD 4 then 1 else 2
  | 1 => if waitcnt.getLsbD 7 then 1 else 4
  | _ => if waitcnt.getLsbD 10 then 1 else 8

/-- `N(addr, w)` and `S(addr, w)` (R131). -/
def accessCost (seq : Bool) (w : Width) (addr : Word) (s : State) : Nat :=
  let wc := s.cpu32.waitcnt
  match region addr with
  | .bios => 1
  | .iwram => 1
  | .io => 1
  | .oam => 1
  | .ewram => if w = .word then 6 else 3
  | .palette => if w = .word then 2 else 1
  | .vram => if w = .word then 2 else 1
  | .rom k =>
    let first := if seq then 1 + sWait wc k else 1 + nWait wc k
    if w = .word then first + (1 + sWait wc k) else first
  | .save => 1 + firstWait (bits wc.toNat 1 0)
  | .unmapped => 1

/-! IO registers. -/

/-- A register of the IO window, by its even offset (R122). -/
inductive Io32 where
  | dmaSad (n : Fin 4) (high : Bool)
  | dmaDad (n : Fin 4) (high : Bool)
  | dmaCount (n : Fin 4)
  | dmaControl (n : Fin 4)
  | timerCount (n : Fin 4)
  | timerControl (n : Fin 4)
  | keyinput | ie | iflag | waitcnt | ime | imeHigh | postHalt
  | forwarded
  deriving DecidableEq, Repr

/-- A DMA register by its offset from the channel's base (R66). -/
def dmaRegister (n : Fin 4) (r : Nat) : Io32 :=
  match r with
  | 0 => .dmaSad n false
  | 2 => .dmaSad n true
  | 4 => .dmaDad n false
  | 6 => .dmaDad n true
  | 8 => .dmaCount n
  | _ => .dmaControl n

/-- The decode of R122. -/
def io32 (offset : Nat) : Io32 :=
  if 0x0B0 ≤ offset ∧ offset < 0x0E0 then
    dmaRegister (Fin.ofNat 4 ((offset - 0x0B0) / 12)) ((offset - 0x0B0) % 12)
  else if 0x100 ≤ offset ∧ offset < 0x110 then
    if offset % 4 = 0 then .timerCount (Fin.ofNat 4 ((offset - 0x100) / 4))
    else .timerControl (Fin.ofNat 4 ((offset - 0x100) / 4))
  else
    match offset with
    | 0x130 => .keyinput
    | 0x200 => .ie
    | 0x202 => .iflag
    | 0x204 => .waitcnt
    | 0x208 => .ime
    | 0x20A => .imeHigh
    | 0x300 => .postHalt
    | _ => .forwarded

/-- A register halfword whose bits outside `used` are drawn (D11). -/
def withUnused16 (used v : Half) (s : State) : Half × State :=
  let d := draw 16 s
  ((v &&& used) ||| (d.1 &&& ~~~used), d.2)

/-- The used bits of DMAnCNT_H; bit 11 belongs to channel 3 (R66; log entry 24). -/
def dmaControlMask (n : Fin 4) : Half := if n = 3 then 0xFFE0#16 else 0xF7E0#16

/-- The used bits of DMAnSAD (R66). -/
def dmaSadMask (n : Fin 4) : Word := if n = 0 then 0x07FFFFFF#32 else 0x0FFFFFFF#32

/-- The used bits of DMAnDAD (R66). -/
def dmaDadMask (n : Fin 4) : Word := if n = 3 then 0x0FFFFFFF#32 else 0x07FFFFFF#32

/-- The used bits of DMAnCNT_L (R66). -/
def dmaCountMask (n : Fin 4) : Half := if n = 3 then 0xFFFF#16 else 0x3FFF#16

/-- The unit count of a CNT_L value, 0 meaning the maximum (R66). -/
def dmaUnits (n : Fin 4) (v : Half) : Nat :=
  if v.toNat = 0 then (if n = 3 then 0x10000 else 0x4000) else v.toNat

/-- A half of a 32-bit register. -/
def halfOf (high : Bool) (v : Word) : Half := if high then (v >>> 16).setWidth 16 else v.setWidth 16

/-- Replace a half of a 32-bit register. -/
def setHalf (high : Bool) (old : Word) (v : Half) : Word :=
  if high then v ++ (old.setWidth 16 : Half) else ((old >>> 16).setWidth 16 : Half) ++ v

/-- IORead16 (R61 to R66, R122). KEYINPUT has 16 bits, of which 15..10 hold 0 (R64, R792). -/
def ioRead16 (r : Io32) (s : State) : Half × State :=
  let c := s.cpu32
  match r with
  | .dmaSad _ _ => draw 16 s
  | .dmaDad _ _ => draw 16 s
  | .dmaCount _ => draw 16 s
  | .dmaControl n => withUnused16 (dmaControlMask n) c.dma[n].control s
  | .timerCount n => (c.timers[n].counter, s)
  | .timerControl n => withUnused16 timerControlMask c.timers[n].control s
  | .keyinput => (c.keyinput.setWidth 16, s)
  | .ie => withUnused16 0x3FFF#16 (c.ie.setWidth 16) s
  | .iflag => withUnused16 0x3FFF#16 (c.iflag.setWidth 16) s
  | .waitcnt => withUnused16 0xDFFF#16 c.waitcnt s
  | .ime => withUnused16 0x0001#16 ((BitVec.ofBool c.ime).setWidth 16) s
  | .imeHigh => draw 16 s
  | .postHalt => withUnused16 0x0001#16 ((BitVec.ofBool c.postflg).setWidth 16) s
  | .forwarded => draw 16 s

/-- `Stored16` (R121): what a byte write merges with. A collaborator's register is not the core's (log entry 32). -/
def stored16 (r : Io32) (s : State) : Half × State :=
  let c := s.cpu32
  match r with
  | .dmaSad n high => (halfOf high c.dma[n].sad, s)
  | .dmaDad n high => (halfOf high c.dma[n].dad, s)
  | .dmaCount n => (c.dma[n].cntL, s)
  | .dmaControl n => (c.dma[n].control, s)
  | .timerCount n => (c.timers[n].reload, s)
  | .timerControl n => (c.timers[n].control, s)
  | .keyinput => (c.keyinput.setWidth 16, s)
  | .ie => (c.ie.setWidth 16, s)
  | .iflag => (c.iflag.setWidth 16, s)
  | .waitcnt => (c.waitcnt, s)
  | .ime => ((BitVec.ofBool c.ime).setWidth 16, s)
  | .imeHigh => (0, s)
  | .postHalt => (c.haltcnt ++ (BitVec.ofBool c.postflg).setWidth 8, s)
  | .forwarded => draw 16 s

/-- Change a DMA channel. -/
def Cpu32.setDma (c : Cpu32) (n : Fin 4) (d : DmaChannel) : Cpu32 := { c with dma := c.dma.set n d }

/-- Change every DMA channel. -/
def Cpu32.mapDma (c : Cpu32) (f : DmaChannel → DmaChannel) : Cpu32 :=
  (((c.setDma 0 (f c.dma[0])).setDma 1 (f c.dma[1])).setDma 2 (f c.dma[2])).setDma 3 (f c.dma[3])

/-- `control.enable` (R66). -/
def DmaChannel.enabled (d : DmaChannel) : Bool := d.control.getLsbD 15

/-- Start timing, bits 13..12 (R66). -/
def DmaChannel.timing (d : DmaChannel) : Nat := bits d.control.toNat 13 12

/-- Source control, bits 8..7 (R66). -/
def DmaChannel.srcControl (d : DmaChannel) : Nat := bits d.control.toNat 8 7

/-- Destination control, bits 6..5 (R66). -/
def DmaChannel.dstControl (d : DmaChannel) : Nat := bits d.control.toNat 6 5

/-- A write to DMAnCNT_H, with the enable edges of R770 and the prohibited source control of R771. -/
def writeDmaControl (n : Fin 4) (v : Half) (s : State) : Res :=
  let d := s.cpu32.dma[n]
  let d1 := { d with control := v &&& dmaControlMask n }
  if d1.enabled = false then .next (on32 (fun c => c.setDma n { d1 with pending := false }) s)
  else if d.enabled then .next (on32 (fun c => c.setDma n d1) s)
  else if d1.srcControl = 3 then .refused .dmaSourceControl3
  else
    let d2 := { d1 with isrc := d.sad &&& dmaSadMask n, idst := d.dad &&& dmaDadMask n
                        icount := dmaUnits n d.cntL, pending := d.pending || d1.timing == 0 }
    .next (on32 (fun c => c.setDma n d2) s)

/-- A write to POSTFLG and HALTCNT, by the bytes that the mask names (R64, R122, R745, R746). The halt is seen at the
next halt check, after a DMA run's write that of the same step (log entry 30). -/
def writePostHalt (v mask : Half) (s : State) : Res :=
  let s1 := if mask.getLsbD 0 then on32 (fun c => { c with postflg := v.getLsbD 0 }) s else s
  if mask.getLsbD 8 then
    if v.getLsbD 15 then .refused .cpu32StopMode
    else .next (on32 (fun c => { c with haltcnt := hiByte v, halted := true }) s1)
  else .next s1

/-- IOWrite16 (R61 to R66, R122, R731). -/
def ioWrite16 (r : Io32) (offset : Nat) (v mask : Half) (s : State) : Res :=
  match r with
  | .dmaSad n high =>
    .next (on32 (fun c => c.setDma n { c.dma[n] with sad := setHalf high c.dma[n].sad v &&& dmaSadMask n }) s)
  | .dmaDad n high =>
    .next (on32 (fun c => c.setDma n { c.dma[n] with dad := setHalf high c.dma[n].dad v &&& dmaDadMask n }) s)
  | .dmaCount n => .next (on32 (fun c => c.setDma n { c.dma[n] with cntL := v &&& dmaCountMask n }) s)
  | .dmaControl n => writeDmaControl n v s
  | .timerCount n => .next (on32 (fun c => c.writeTimerReload n v) s)
  | .timerControl n => .next (on32 (fun c => c.writeTimerControl n v) s)
  | .keyinput => .next s
  | .ie => .next (on32 (fun c => { c with ie := v.setWidth 14 }) s)
  | .iflag => .next (on32 (fun c => { c with iflag := c.iflag &&& ~~~((v &&& mask).setWidth 14) }) s)
  | .waitcnt => .next (on32 (fun c => { c with waitcnt := v &&& 0x5FFF#16 }) s)
  | .ime => .next (on32 (fun c => { c with ime := v.getLsbD 0 }) s)
  | .imeHigh => .next s
  | .postHalt => writePostHalt v mask s
  | .forwarded => .next (deliver (.io32 offset v mask) s)

/-- The offset of an aligned halfword in the IO window. -/
def ioOffset (addr : Word) : Nat := addr.toNat % 0x400 / 2 * 2

/-- A read of the IO window (R121). -/
def ioRead (w : Width) (addr : Word) (s : State) : Word × State :=
  match w with
  | .byte =>
    let r := ioRead16 (io32 (ioOffset addr)) s
    ((if addr.getLsbD 0 then hiByte r.1 else loByte r.1).setWidth 32, r.2)
  | .half =>
    let r := ioRead16 (io32 (ioOffset addr)) s
    (r.1.setWidth 32, r.2)
  | .word =>
    let o := ioOffset (alignTo .word addr)
    let lo := ioRead16 (io32 o) s
    let hi := ioRead16 (io32 (o + 2)) lo.2
    (hi.1 ++ lo.1, hi.2)

/-- A write of the IO window (R121). -/
def ioWrite (w : Width) (addr v : Word) (s : State) : Res :=
  match w with
  | .byte =>
    let o := ioOffset addr
    let m : Half := if addr.getLsbD 0 then 0xFF00#16 else 0x00FF#16
    let cur := stored16 (io32 o) s
    let b : Byte := v.setWidth 8
    ioWrite16 (io32 o) o ((cur.1 &&& ~~~m) ||| ((b ++ b) &&& m)) m cur.2
  | .half => ioWrite16 (io32 (ioOffset addr)) (ioOffset addr) (v.setWidth 16) 0xFFFF#16 s
  | .word =>
    let o := ioOffset (alignTo .word addr)
    thenRes (ioWrite16 (io32 o) o (v.setWidth 16) 0xFFFF#16 s) fun s =>
      ioWrite16 (io32 (o + 2)) (o + 2) ((v >>> 16).setWidth 16) 0xFFFF#16 s

/-! Memory. -/

/-- A byte of BIOS32 (R123). -/
def biosByte (p : Params) (o : Nat) : Byte := (Image.find? p.bios32 o).getD (Config.biosByte o)

/-- A byte of ROM32 (R128). -/
def romByte (p : Params) (o : Nat) : Byte := (Image.find? p.rom32 o).getD (Config.romByte o)

/-- n bytes of a byte function, little-endian (R102). -/
def leBytes (f : Nat → Byte) (a : Nat) : Nat → Nat
  | 0 => 0
  | n + 1 => (f a).toNat + 256 * leBytes f (a + 1) n

/-- The address pattern of R129 for an aligned unit. -/
def openPattern (w : Width) (addr : Word) : Word :=
  let p : Word → Half := fun a => a.setWidth 16
  match w with
  | .byte =>
    let h := p (addr &&& ~~~1#32)
    (if addr.getLsbD 0 then hiByte h else loByte h).setWidth 32
  | .half => (p (addr &&& ~~~1#32)).setWidth 32
  | .word => p ((addr &&& ~~~3#32) + 2) ++ p (addr &&& ~~~3#32)

/-- A draw of an access's width, as a word. -/
def drawWidth (w : Width) (s : State) : Word × State :=
  let d := draw 32 s
  match w with
  | .byte => ((loByte (d.1.setWidth 16)).setWidth 32, d.2)
  | .half => ((d.1.setWidth 16 : Half).setWidth 32, d.2)
  | .word => d

/-- Open bus (R129). -/
def openBus (w : Width) (addr : Word) (s : State) : Word × State :=
  if s.params.openBusDraw then drawWidth w s else (openPattern w addr, s)

/-- Whether an address of region 0xD is the EEPROM's (R156). -/
def isEepromAddr (addr : Word) (s : State) : Bool :=
  isEepromType s.cpu32.save.kind && decide (addr.toNat / 0x1000000 = 0xD) &&
    (decide (s.params.rom32Size ≤ 0x1000000) || decide (0x0DFFFF00 ≤ addr.toNat))

/-- The key of an address of core memory in `Cpu32.mem`, by its region's mirroring (R120, R124 to R127). -/
def memKey (r : Region) (a : Nat) : Nat :=
  match r with
  | .ewram => 0x02000000 + a % 0x40000
  | .iwram => 0x03000000 + a % 0x8000
  | .palette => 0x05000000 + a % 0x400
  | .vram => 0x06000000 + vramOffset a
  | .oam => 0x07000000 + a % 0x400
  | .bios => a
  | .io => a
  | .rom _ => a
  | .save => a
  | .unmapped => a

/-- Read the core memory at an aligned address. -/
def ramRead (r : Region) (w : Width) (addr : Word) (s : State) : Word :=
  BitVec.ofNat 32 (Memory.readLe s.cpu32.mem (memKey r (alignTo w addr).toNat) w.bytes)

/-- Write the core memory at an aligned address. -/
def ramWrite (r : Region) (w : Width) (addr v : Word) (s : State) : State :=
  on32 (fun c =>
    { c with mem := Memory.writeLe c.mem (memKey r (alignTo w addr).toNat) v.toNat w.bytes }) s

/-- A byte repeated over an access's width (R158). -/
def spread (w : Width) (b : Byte) : Word :=
  match w with
  | .byte => b.setWidth 32
  | .half => ((b ++ b : Half)).setWidth 32
  | .word => b ++ b ++ b ++ b

/-- Read cartridge ROM, or the EEPROM in its window (R128, R156). -/
def romRead (w : Width) (addr : Word) (s : State) : Word × State :=
  if isEepromAddr addr s then
    match w with
    | .half => let r := eepromRead s; (r.1.setWidth 32, r.2)
    | .byte => drawWidth .byte s
    | .word => drawWidth .word s
  else
    let o := (alignTo w addr).toNat % 0x2000000
    if o < s.params.rom32Size then (BitVec.ofNat 32 (leBytes (romByte s.params) o w.bytes), s)
    else openBus w addr s

/-- `MemRead(addr, n)`, zero-extended to 32 bits (R103, R120 to R129, R155 to R158). -/
def memRead (w : Width) (addr : Word) (s : State) : Word × State :=
  match region addr with
  | .bios => (BitVec.ofNat 32 (leBytes (biosByte s.params) (alignTo w addr).toNat w.bytes), s)
  | .ewram => (ramRead .ewram w addr s, s)
  | .iwram => (ramRead .iwram w addr s, s)
  | .io => ioRead w addr s
  | .palette => (ramRead .palette w addr s, s)
  | .vram => (ramRead .vram w addr s, s)
  | .oam => (ramRead .oam w addr s, s)
  | .rom _ => romRead w addr s
  | .save =>
    match saveRead addr.toNat s with
    | some b => (spread w b, s)
    | none => drawWidth w s
  | .unmapped => openBus w addr s

/-- An 8-bit write of palette or background VRAM: the byte in both halves of the halfword (R125, R126). -/
def duplicateWrite (r : Region) (addr v : Word) (s : State) : State :=
  ramWrite r .half addr (spread .half (v.setWidth 8)) s

/-- A write of region 0x8–0xD: ignored, but for the EEPROM and its detection (R128, R151, R156). -/
def romWrite (m : Master) (w : Width) (addr v : Word) (s : State) : State :=
  if isEepromAddr addr s then
    (if w = .half then eepromWrite (v.getLsbD 0) s else s)
  else if w = .half ∧ s.cpu32.save.kind = .unknown ∧ addr.toNat / 0x1000000 = 0xD then
    eepromWrite (v.getLsbD 0) (onSave (fun x => { x with kind := detectEeprom m }) s)
  else s

/-- `MemWrite(addr, n, v)` (R103, R120 to R129, R151 to R158). -/
def memWrite (m : Master) (w : Width) (addr v : Word) (s : State) : Res :=
  match region addr with
  | .bios => .next s
  | .ewram => .next (ramWrite .ewram w addr v s)
  | .iwram => .next (ramWrite .iwram w addr v s)
  | .io => ioWrite w addr v s
  | .palette => .next (if w = .byte then duplicateWrite .palette addr v s else ramWrite .palette w addr v s)
  | .vram =>
    .next (if w = .byte then
        (if vramOffset addr.toNat < 0x10000 then duplicateWrite .vram addr v s else s)
      else ramWrite .vram w addr v s)
  | .oam => .next (if w = .byte then s else ramWrite .oam w addr v s)
  | .rom _ => .next (romWrite m w addr v s)
  | .save => .next (saveWrite (w == .byte) addr.toNat (v.setWidth 8) s)
  | .unmapped => .next s

/-! CPU accesses: cost, record and hazard around the bus. -/

/-- Record the access (R59, `last_access`). -/
def recordAccess (addr : Word) (w : Width) (code : Bool) (s : State) : State :=
  on32 (fun c => { c with lastAccess := some { addr := addr, width := 8 * w.bytes, code := code } }) s

/-- A data read: charge N or S, then read (R130, R832). -/
def loadData (seq : Bool) (w : Width) (addr : Word) (s : State) : Word × State :=
  memRead w addr (recordAccess addr w false (charge (accessCost seq w addr s) s))

/-- The bytes a CPU write stores, as a start and a length; none where the region ignores it. A write that Flash takes
counts as the one byte at its address, whatever its command does (R176, R842; log entry 13). -/
def storeSpan (w : Width) (addr : Word) (s : State) : Word × Nat :=
  match region addr with
  | .bios => (addr, 0)
  | .rom _ => (addr, 0)
  | .unmapped => (addr, 0)
  | .oam => if w = .byte then (addr, 0) else (alignTo w addr, w.bytes)
  | .palette => if w = .byte then (alignTo .half addr, 2) else (alignTo w addr, w.bytes)
  | .vram =>
    if w = .byte then
      (if vramOffset addr.toNat < 0x10000 then (alignTo .half addr, 2) else (addr, 0))
    else (alignTo w addr, w.bytes)
  | .save => if isEepromType s.cpu32.save.kind then (addr, 0) else (addr, 1)
  | .ewram => (alignTo w addr, w.bytes)
  | .iwram => (alignTo w addr, w.bytes)
  | .io => (alignTo w addr, w.bytes)

/-- Whether one of n bytes from `addr` lies in `[ia + L, ia + 3L)` (R842). -/
def touchesPrefetch (c : Cpu32) (addr : Word) : Nat → Bool
  | 0 => false
  | n + 1 =>
    decide ((addr + BitVec.ofNat 32 n - (c.pc + BitVec.ofNat 32 c.codeBytes)).toNat < 2 * c.codeBytes) ||
      touchesPrefetch c addr n

/-- A CPU store: the hazard of R842 before the write, then the cost and the write. -/
def storeData (seq : Bool) (w : Width) (addr v : Word) (s : State) : Res :=
  let span := storeSpan w addr s
  if touchesPrefetch s.cpu32 span.1 span.2 then unpredictable .storeIntoPrefetch s
  else memWrite .cpu w addr v (recordAccess addr w false (charge (accessCost seq w addr s) s))

/-- `RotRead32` (R104), given the word read. -/
def rotate32 (addr v : Word) : Word := v.rotateRight (8 * (addr.toNat % 4))

/-- `RotRead16` (R104), given the halfword read. -/
def rotate16 (addr v : Word) : Word := v.rotateRight (8 * (addr.toNat % 2))

end Sys2Proof.Machine
end

