-- ==== Sys2Proof/Machine/Bus8.lean ====
section
/-! DEFINITION. The CPU-8 bus: the address map, the core's IO registers, OAM DMA and general-purpose HDMA, and
the helpers of 40_cpu8_loads.md R300 (10_state.md R37 to R44; 20_memory.md R110 to R119; 60_exceptions.md
R760 to R763). -/

namespace Sys2Proof.Machine

/-- Where a CPU-8 address leads (R110). -/
inductive Place8 where
  /-- The mapper collaborator ROM8. -/
  | cart
  /-- A byte of core memory, by its key in `Cpu8.mem`. -/
  | cell (key : Nat)
  /-- 0xFEA0 to 0xFEFF (R116). -/
  | absent
  /-- An IO address, by its offset from 0xFF00. -/
  | io (offset : Nat)
  /-- IE, at 0xFFFF. -/
  | ie
  deriving DecidableEq, Repr

/-- The VRAM bank seen (R112). -/
def vramBank (color : Bool) (c : Cpu8) : Nat := if color then c.vbk.toNat else 0

/-- The bank seen at 0xD000 (R114). -/
def wramBank (color : Bool) (c : Cpu8) : Nat := if color then max 1 c.svbk.toNat else 1

/-- WRAM by an address in 0xC000 to 0xDFFF (R114). -/
def wramKey (color : Bool) (c : Cpu8) (a : Nat) : Nat :=
  if a < 0xD000 then a else wramBank color c * 0x10000 + a

/-- The map of R110, with the echo of R115. -/
def place8 (color : Bool) (c : Cpu8) (addr : Half) : Place8 :=
  let a := addr.toNat
  if a < 0x8000 then .cart
  else if a < 0xA000 then .cell (vramBank color c * 0x10000 + a)
  else if a < 0xC000 then .cart
  else if a < 0xE000 then .cell (wramKey color c a)
  else if a < 0xFE00 then .cell (wramKey color c (a - 0x2000))
  else if a < 0xFEA0 then .cell a
  else if a < 0xFF00 then .absent
  else if a < 0xFF80 then .io (a - 0xFF00)
  else if a < 0xFFFF then .cell a
  else .ie

/-- A CPU-8 IO register (R117), or a forwarded address (R118). -/
inductive Io8 where
  | div | tima | tma | tac | iflag | dma | key1 | vbk | hdma1 | hdma2 | hdma3 | hdma4 | hdma5 | svbk
  | forwarded
  deriving DecidableEq, Repr

/-- The registers of R117; those of the colour mode exist only there. -/
def io8 (color : Bool) (offset : Nat) : Io8 :=
  match color, offset with
  | _, 0x04 => .div | _, 0x05 => .tima | _, 0x06 => .tma | _, 0x07 => .tac | _, 0x0F => .iflag
  | _, 0x46 => .dma
  | true, 0x4D => .key1 | true, 0x4F => .vbk | true, 0x51 => .hdma1 | true, 0x52 => .hdma2
  | true, 0x53 => .hdma3 | true, 0x54 => .hdma4 | true, 0x55 => .hdma5 | true, 0x70 => .svbk
  | _, _ => .forwarded

/-- A register byte whose bits outside `used` are drawn (D11). -/
def withUnused8 (used v : Byte) (s : State) : Byte × State :=
  let d := draw 8 s
  ((v &&& used) ||| (d.1 &&& ~~~used), d.2)

/-- Read a CPU-8 IO register (R37 to R44, R118). -/
def readIo8 (r : Io8) (s : State) : Byte × State :=
  let c := s.cpu8
  match r with
  | .div => (hiByte c.div16, s)
  | .tima => (c.tima, s)
  | .tma => (c.tma, s)
  | .tac => withUnused8 0x07#8 (c.tac.setWidth 8) s
  | .iflag => withUnused8 0x1F#8 (c.iflag.setWidth 8) s
  | .dma => (c.oamDma, s)
  | .key1 => withUnused8 0x81#8 (bit7 c.doubleSpeed ||| bit0 c.speedArmed) s
  | .vbk => withUnused8 0x01#8 (c.vbk.setWidth 8) s
  | .svbk => withUnused8 0x07#8 (c.svbk.setWidth 8) s
  | .hdma1 => draw 8 s
  | .hdma2 => draw 8 s
  | .hdma3 => draw 8 s
  | .hdma4 => draw 8 s
  | .hdma5 => (0xFF#8, s)
  | .forwarded => draw 8 s

/-- `MemRead(addr, 1)` (R110 to R118). -/
def read8 (addr : Half) (s : State) : Byte × State :=
  match place8 s.params.colorMode s.cpu8 addr with
  | .cart =>
    match Image.find? s.cart8 addr.toNat with
    | some b => (b, s)
    | none => draw 8 s
  | .cell key => (Memory.read s.cpu8.mem key, s)
  | .absent => draw 8 s
  | .io offset => readIo8 (io8 s.params.colorMode offset) s
  | .ie => (s.cpu8.ie, s)

/-- Store a byte of core memory. -/
def setCell8 (key : Nat) (v : Byte) (s : State) : State :=
  on8 (fun c => { c with mem := Memory.write c.mem key v }) s

/-- The first n bytes of the OAM copy of R760, i = 0 first. -/
def oamCopy (page : Byte) : Nat → State → State
  | 0, s => s
  | n + 1, s =>
    let s' := oamCopy page n s
    let r := read8 (page ++ BitVec.ofNat 8 n) s'
    setCell8 (0xFE00 + n) r.1 r.2

/-- The first n bytes of the HDMA copy of R762, i = 0 first. -/
def hdmaCopy (src dst : Half) : Nat → State → State
  | 0, s => s
  | n + 1, s =>
    let s' := hdmaCopy src dst n s
    let r := read8 (src + BitVec.ofNat 16 n) s'
    setCell8 (r.2.cpu8.vbk.toNat * 0x10000 + 0x8000 + (dst.toNat + n) % 0x2000) r.1 r.2

/-- A write of HDMA5 (R762, R763). -/
def writeHdma5 (v : Byte) (s : State) : Res :=
  if v.getLsbD 7 then .refused .hblankHdma
  else
    let c := s.cpu8
    let src : Half := c.hdma1 ++ c.hdma2 ++ 0#4
    let dst : Half := 0#3 ++ c.hdma3 ++ c.hdma4 ++ 0#4
    let blocks := v.toNat % 128 + 1
    .next (charge (blocks * (if c.doubleSpeed then 64 else 32)) (hdmaCopy src dst (blocks * 16) s))

/-- Write a CPU-8 IO register (R37 to R44, R118, R722). -/
def writeIo8 (r : Io8) (addr : Half) (v : Byte) (s : State) : Res :=
  match r with
  | .div => .next (on8 Cpu8.writeDiv s)
  | .tima => .next (on8 (fun c => { c with tima := v }) s)
  | .tma => .next (on8 (fun c => { c with tma := v }) s)
  | .tac => .next (on8 (fun c => c.writeTac v) s)
  | .iflag => .next (on8 (fun c => { c with iflag := v.setWidth 5 }) s)
  | .dma => .next (oamCopy v 160 (on8 (fun c => { c with oamDma := v }) s))
  | .key1 => .next (on8 (fun c => { c with speedArmed := v.getLsbD 0 }) s)
  | .vbk => .next (on8 (fun c => { c with vbk := v.setWidth 1 }) s)
  | .svbk => .next (on8 (fun c => { c with svbk := v.setWidth 3 }) s)
  | .hdma1 => .next (on8 (fun c => { c with hdma1 := v }) s)
  | .hdma2 => .next (on8 (fun c => { c with hdma2 := (v >>> 4).setWidth 4 }) s)
  | .hdma3 => .next (on8 (fun c => { c with hdma3 := v.setWidth 5 }) s)
  | .hdma4 => .next (on8 (fun c => { c with hdma4 := (v >>> 4).setWidth 4 }) s)
  | .hdma5 => writeHdma5 v s
  | .forwarded => .next (deliver (.io8 addr v) s)

/-- `MemWrite(addr, 1, v)` (R110 to R119). -/
def write8 (addr : Half) (v : Byte) (s : State) : Res :=
  match place8 s.params.colorMode s.cpu8 addr with
  | .cart => .next (deliver (.rom8 addr v) s)
  | .cell key => .next (setCell8 key v s)
  | .absent => .next s
  | .io offset => writeIo8 (io8 s.params.colorMode offset) addr v s
  | .ie => .next (on8 (fun c => { c with ie := v }) s)

/-- `Imm8()`: the byte at PC, and PC advanced (R300). -/
def fetchByte (s : State) : Byte × State :=
  let r := read8 s.cpu8.pc s
  (r.1, on8 (fun c => { c with pc := c.pc + 1 }) r.2)

/-- `Push16(v)`: the high byte at SP − 1, then the low byte at SP − 2 (R300). -/
def push16 (v : Half) (s : State) : Res :=
  let s1 := on8 (fun c => { c with sp := c.sp - 1 }) s
  thenRes (write8 s1.cpu8.sp (hiByte v) s1) fun s2 =>
    let s3 := on8 (fun c => { c with sp := c.sp - 1 }) s2
    write8 s3.cpu8.sp (loByte v) s3

/-- `Pop16()`: the low byte at SP, then the high byte (R300). -/
def pop16 (s : State) : Half × State :=
  let lo := read8 s.cpu8.sp s
  let s1 := on8 (fun c => { c with sp := c.sp + 1 }) lo.2
  let hi := read8 s1.cpu8.sp s1
  (pair hi.1 lo.1, on8 (fun c => { c with sp := c.sp + 1 }) hi.2)

end Sys2Proof.Machine
end

