-- ==== Sys2Proof/Machine/Operands.lean ====
section
/-! DEFINITION. Operand forms: the CPU-8 operand `r`, the ARM shifter, transfer addressing, register lists; and the
ways an instruction ends, with its cost (30_encoding.md R202; 44_arm_dataproc.md R501 to R503; 45_arm_memory.md
R560, R565, R580; 70_reset_and_hazards.md R830). -/

namespace Sys2Proof.Machine

/-! CPU-8. -/

/-- `Reg(k)` (R300): code 6 is the byte at HL. -/
def readOperand8 (k : R8) (s : State) : Byte × State :=
  if k = .hlm then read8 s.cpu8.hl s else (s.cpu8.reg k, s)

/-- `SetReg(k, v)` (R300). -/
def writeOperand8 (k : R8) (v : Byte) (s : State) : Res :=
  if k = .hlm then write8 s.cpu8.hl v s else .next (on8 (fun c => c.setReg k v) s)

/-- End a CPU-8 instruction with its clocks (R841). -/
def finish8 (clocks : Nat) (s : State) : Res := .next (charge clocks s)

/-! The ARM shifter. -/

/-- A rotated immediate and its carry (R501, R214). -/
def rotatedImm (x : Op2Imm) (c : Bool) : Word × Bool :=
  let v : Word := (x.imm.setWidth 32).rotateRight (2 * x.rot.toNat)
  (v, if x.rot = 0#4 then c else v.getLsbD 31)

/-- Thirty-two copies of a bit. -/
def allBits (b : Bool) : Word := if b then 0xFFFFFFFF#32 else 0

/-- A shift by 1 to 31 places (R502, R503). -/
def shiftSmall (kind : Shift) (m : Word) (k : Nat) : Word × Bool :=
  match kind with
  | .lsl => (m <<< k, m.getLsbD (32 - k))
  | .lsr => (m >>> k, m.getLsbD (k - 1))
  | .asr => (m.sshiftRight k, m.getLsbD (k - 1))
  | .ror => (m.rotateRight k, m.getLsbD (k - 1))

/-- A shift by an immediate (R502); an amount of 0 is special. -/
def shiftImm (kind : Shift) (m : Word) (amount : Nat) (c : Bool) : Word × Bool :=
  if amount = 0 then
    match kind with
    | .lsl => (m, c)
    | .lsr => (0, m.getLsbD 31)
    | .asr => (allBits (m.getLsbD 31), m.getLsbD 31)
    | .ror => ((if c then 0x80000000#32 else 0) ||| (m >>> 1), m.getLsbD 0)
  else shiftSmall kind m amount

/-- A shift by a register's low byte (R503). -/
def shiftReg (kind : Shift) (m : Word) (k : Nat) (c : Bool) : Word × Bool :=
  if k = 0 then (m, c)
  else
    match kind with
    | .lsl => if k < 32 then shiftSmall .lsl m k else (0, decide (k = 32) && m.getLsbD 0)
    | .lsr => if k < 32 then shiftSmall .lsr m k else (0, decide (k = 32) && m.getLsbD 31)
    | .asr => if k < 32 then shiftSmall .asr m k else (allBits (m.getLsbD 31), m.getLsbD 31)
    | .ror => if k % 32 = 0 then (m, m.getLsbD 31) else shiftSmall .ror m (k % 32)

/-! How a CPU-32 instruction ends. -/

/-- The width of a code fetch (R830). -/
def Cpu32.codeWidth (c : Cpu32) : Width := if c.cpsr.t then .half else .word

/-- `Sc` and `Nc` (R830): the fetch of the next instruction, sequential or after a data access. -/
def codeCost (seq : Bool) (s : State) : Nat :=
  accessCost seq s.cpu32.codeWidth (s.cpu32.pc + BitVec.ofNat 32 s.cpu32.codeBytes) s

/-- `Nt + St` (R830): the refill at the new PC. -/
def refillCost (s : State) : Nat :=
  accessCost false s.cpu32.codeWidth s.cpu32.pc s +
    accessCost true s.cpu32.codeWidth (s.cpu32.pc + BitVec.ofNat 32 s.cpu32.codeBytes) s

/-- `pc <- ia + 4`, or `ia + 2` in THUMB state (R53). -/
def advancePc (s : State) : State :=
  on32 (fun c => { c with pc := c.pc + BitVec.ofNat 32 c.codeBytes }) s

/-- End an instruction that does not write R15: `Sc` and `extra` internal cycles (R831, R832). -/
def retire (extra : Nat) (s : State) : Res := .next (charge (codeCost true s + extra) (advancePc s))

/-- End a store: `Nc` (R832, R834). -/
def retireStore (s : State) : Res := .next (charge (codeCost false s) (advancePc s))

/-- End with `CPSR.T <- t` and `pc` at v, aligned to that state: `Sc + Nt + St` (R835). -/
def jumpTo (t : Bool) (v : Word) (s : State) : Res :=
  let s1 := setPc t v s
  .next (charge (codeCost true s + refillCost s1) s1)

/-- End with a register value in R15 (R53): the state stays, unless INTERWORK_ALL_PC_WRITES (C5; log entry 14). -/
def writePcValue (v : Word) (s : State) : Res :=
  jumpTo (if s.params.interwork then v.getLsbD 0 else s.cpu32.cpsr.t) v s

/-- End with `RestoreCPSR()` and then the PC write, aligned to the restored state (R58, R747). -/
def returnTo (v : Word) (s : State) : Res :=
  let sc := codeCost true s
  thenRes (restoreCpsr s) fun s1 =>
    let s2 := setPc s1.cpu32.cpsr.t v s1
    .next (charge (sc + refillCost s2) s2)

/-- End by taking an exception: `Sc + Nt + St` at the vector (R742, R835). -/
def enterAt (mode : Mode) (vector lr : Word) (s : State) : Res :=
  let s1 := enterException mode vector lr s
  .next (charge (codeCost true s + refillCost s1) s1)

/-- Run the body if the condition passes; otherwise only the PC moves, at the cost `Sc` (R500). -/
def ifCond (cond : Cond) (body : State → Res) (s : State) : Res :=
  if condPasses cond s.cpu32.cpsr then body s else retire 0 s

/-! Transfers. -/

/-- What a single load does with the data (R104, R561, R562, R566 to R569). -/
inductive LoadKind where
  | word | unsignedByte | signedByte | unsignedHalf | signedHalf
  deriving DecidableEq, Repr

/-- The data of a single load: `RotRead32`, `RotRead16`, `SgnRead16` and the byte forms (R104). -/
def loadValue (k : LoadKind) (addr : Word) (s : State) : Word × State :=
  match k with
  | .word =>
    let r := loadData false .word addr s
    (rotate32 addr r.1, r.2)
  | .unsignedByte => loadData false .byte addr s
  | .signedByte =>
    let r := loadData false .byte addr s
    ((r.1.setWidth 8 : Byte).signExtend 32, r.2)
  | .unsignedHalf =>
    let r := loadData false .half addr s
    (rotate16 addr r.1, r.2)
  | .signedHalf =>
    if addr.getLsbD 0 then
      let r := loadData false .byte addr s
      ((r.1.setWidth 8 : Byte).signExtend 32, r.2)
    else
      let r := loadData false .half addr s
      ((r.1.setWidth 16 : Half).signExtend 32, r.2)

/-- End a single load: `I + Sc`, and the refill when it loads R15 (R832). -/
def finishLoad (rd : RegNum) (v : Word) (s : State) : Res :=
  if rd = 15#4 then writePcValue v (charge 1 s) else retire 1 (writeReg rd v s)

/-- `off_addr` (R560). -/
def Index.offAddr (ix : Index) (offset : Word) (s : State) : Word :=
  if ix.up then readReg ix.rn s + offset else readReg ix.rn s - offset

/-- `addr` (R560). -/
def Index.addr (ix : Index) (offset : Word) (s : State) : Word :=
  if ix.pre then Index.offAddr ix offset s else readReg ix.rn s

/-- `wb` (R560): post-indexing always writes back. -/
def Index.writesBack (ix : Index) : Bool := !ix.pre || ix.wb

/-- The base after the transfer (R560). -/
def Index.writeBack (ix : Index) (offAddr : Word) (s : State) : State :=
  if Index.writesBack ix then writeReg ix.rn offAddr s else s

/-- The registers a list names, ascending (R580). -/
def listedRegs (list : Nat) : List RegNum :=
  ((List.range 16).filter fun i => flag list i).map fun i => BitVec.ofNat 4 i

/-- Transfer registers from ascending addresses (R581): `first` marks the first transfer, after which the base is
written back; R15, always last, is answered as the new PC. -/
def loadRegs (put : RegNum → Word → State → State) (wb : State → State) :
    Bool → List RegNum → Word → State → Word × State
  | _, [], _, s => (0, s)
  | first, i :: rest, addr, s =>
    let r := loadData (!first) .word (alignTo .word addr) s
    let s1 := if first then wb r.2 else r.2
    if i = 15#4 then (r.1, s1) else loadRegs put wb false rest (addr + 4) (put i r.1 s1)

/-- Transfer registers to ascending addresses (R582): the base is written back after the first transfer. -/
def storeRegs (get : RegNum → State → Word) (wb : State → State) :
    Bool → List RegNum → Word → State → Res
  | _, [], _, s => .next s
  | first, i :: rest, addr, s =>
    thenRes (storeData (!first) .word (alignTo .word addr) (get i s) s) fun s1 =>
      storeRegs get wb false rest (addr + 4) (if first then wb s1 else s1)

end Sys2Proof.Machine
end

