-- ==== Sys2Proof/Machine/Dma.lean ====
section
/-! DEFINITION. The CPU-32 DMA executor (60_exceptions.md R770 to R776). -/

namespace Sys2Proof.Machine

/-- `w` of R773. -/
def DmaChannel.width (d : DmaChannel) : Width := if d.control.getLsbD 10 then .word else .half

/-- The address step of a control field (R773): 0 and 3 increment, 1 decrements, 2 stays. -/
def dmaStep (control : Nat) (w : Width) : Word :=
  match control with
  | 1 => -(BitVec.ofNat 32 w.bytes)
  | 2 => 0
  | _ => BitVec.ofNat 32 w.bytes

/-- Advance a channel's internal addresses by one unit (R773). -/
def DmaChannel.next (d : DmaChannel) (w : Width) : DmaChannel :=
  { d with isrc := d.isrc + dmaStep d.srcControl w, idst := d.idst + dmaStep d.dstControl w }

/-- One unit of a transfer (R773); source control 3 is refused (R771). -/
def dmaUnit (n : Fin 4) (w : Width) (count : Nat) (s : State) : Res :=
  let d := s.cpu32.dma[n]
  if d.srcControl = 3 then .refused .dmaSourceControl3
  else
    let src := alignTo w d.isrc
    let dst := alignTo w d.idst
    let v := memRead w src (recordAccess src w false s)
    thenRes (memWrite (.dma n count) w dst v.1 (recordAccess dst w false v.2)) fun s1 =>
      .next (on32 (fun c => c.setDma n (c.dma[n].next w)) s1)

/-- k units of a transfer (R773). -/
def dmaTransfer (n : Fin 4) (w : Width) (count : Nat) : Nat → State → Res
  | 0, s => .next s
  | k + 1, s => thenRes (dmaUnit n w count s) (dmaTransfer n w count k)

/-- The channel after its transfer (R774). -/
def DmaChannel.complete (n : Fin 4) (d : DmaChannel) : DmaChannel :=
  if d.control.getLsbD 9 = true ∧ d.timing ≠ 0 then
    { d with pending := false, icount := dmaUnits n d.cntL
             idst := if d.dstControl = 3 then d.dad &&& dmaDadMask n else d.idst }
  else { d with pending := false, control := d.control &&& 0x7FFF#16 }

/-- The cost of a run (R776), at the channel's first addresses. -/
def dmaCost (d : DmaChannel) (s : State) : Nat :=
  let w := d.width
  2 + accessCost false w d.isrc s + accessCost false w d.idst s +
    (d.icount - 1) * (accessCost true w d.isrc s + accessCost true w d.idst s)

/-- Let the timers run with k cycles of the step (R811, R820). -/
def passCycles (k : Nat) (s : State) : State := on32 (Cpu32.advance k) (charge k s)

/-- One run of channel n to completion (R773 to R776), charged with WAITCNT as it stands before the run (log
entry 12). -/
def dmaRun (n : Fin 4) (s : State) : Res :=
  let d := s.cpu32.dma[n]
  thenRes (dmaTransfer n d.width d.icount d.icount s) fun s1 =>
    let s2 := on32 (fun c => c.setDma n (c.dma[n].complete n)) s1
    let s3 := if s1.cpu32.dma[n].control.getLsbD 14 then on32 (fun c => c.raise (8 + n.val)) s2 else s2
    .next (passCycles (dmaCost d s) s3)

/-- The lowest pending channel (R775). -/
def Cpu32.lowestPending (c : Cpu32) : Option (Fin 4) :=
  if c.dma[0].pending then some 0
  else if c.dma[1].pending then some 1
  else if c.dma[2].pending then some 2
  else if c.dma[3].pending then some 3
  else none

/-- The DMA loop of R811, at most `fuel` runs of it (log entry 20). -/
def dmaPhase : Nat → State → Res
  | 0, s => .next s
  | fuel + 1, s =>
    match s.cpu32.lowestPending with
    | none => .next s
    | some n => thenRes (dmaRun n s) (dmaPhase fuel)

end Sys2Proof.Machine
end

