-- ==== Sys2Proof/Machine/Boundary.lean ====
section
/-! DEFINITION. What happens at an instruction boundary (60_exceptions.md R701 to R705, R741, R744, R745) and
fetching an instruction's bytes (10_state.md R34; 20_memory.md R105). -/

namespace Sys2Proof.Machine

/-- Begin a step: nothing charged, nothing delivered. -/
def beginStep (s : State) : State := { s with cycles := 0, outbox := [] }

/-! CPU-8. -/

/-- The lowest set bit of SERV8 (R702, R704). -/
def lowestBit (v : BitVec 5) : Nat :=
  if v.getLsbD 0 then 0 else if v.getLsbD 1 then 1 else if v.getLsbD 2 then 2 else if v.getLsbD 3 then 3 else 4

/-- Whether the boundary dispatches (R701). -/
def Cpu8.dispatches (c : Cpu8) : Bool := c.ime && c.serviceable != 0#5

/-- Clear IF[k], IME and a pending EI (R702). -/
def Cpu8.acknowledge (c : Cpu8) (k : Nat) : Cpu8 :=
  { c with iflag := c.iflag &&& ~~~(1#5 <<< k), ime := false, eiPending := false }

/-- Interrupt dispatch (R702, R810). Where the push starts an HDMA (R762), its cycles are added to the 20 (log entry
31). -/
def dispatch8 (s : State) : Res :=
  let k := lowestBit s.cpu8.serviceable
  thenRes (push16 s.cpu8.pc (on8 (fun c => c.acknowledge k) s)) fun s1 =>
    .next (charge 20 (on8 (fun c => { c with pc := BitVec.ofNat 16 (0x40 + 8 * k) }) s1))

/-- The end of a CPU-8 step: the timer runs for the step's cycles (R810, R820). -/
def finishStep8 (s : State) : Res := .next (on8 (Cpu8.advance s.cycles) s)

/-- Fetch a CPU-8 instruction, every byte through the bus, PC past each (R34, R300). -/
def fetch8 (s : State) : Instr × State :=
  let op := fetchByte s
  match length8 op.1.toNat with
  | 2 =>
    let n := fetchByte op.2
    (if op.1 = 0xCB#8 then decodeCb n.1.toNat else decodePrimary op.1.toNat n.1 0, n.2)
  | 3 =>
    let lo := fetchByte op.2
    let hi := fetchByte lo.2
    (decodePrimary op.1.toNat lo.1 (hi.1 ++ lo.1), hi.2)
  | _ => (decodePrimary op.1.toNat 0 0, op.2)

/-- The EI delay ends after the instruction that follows EI (R446, R810). -/
def completeEi (pend : Bool) (s : State) : State :=
  if pend = true ∧ s.cpu8.eiPending = true then on8 (fun c => { c with ime := true, eiPending := false }) s else s

/-! CPU-32. -/

/-- Whether the boundary takes the IRQ (R741). -/
def Cpu32.takesIrq (c : Cpu32) : Bool := c.ime && (c.serviceable != 0#14) && !c.cpsr.i

/-- IRQ entry (R744), at the cost `Nt + St + I` (R835). -/
def enterIrq (s : State) : Res :=
  let s1 := enterException .irq 0x18#32 (s.cpu32.pc + 4) s
  .next (passCycles (refillCost s1 + 1) s1)

/-- Fetch a CPU-32 instruction at `ia` (R105, R224). -/
def fetch32 (s : State) : Instr × State :=
  let c := s.cpu32
  let r := memRead c.codeWidth c.pc (recordAccess c.pc c.codeWidth true s)
  (if c.cpsr.t then decodeThumbWord r.1.toNat else decodeArmWord r.1.toNat, r.2)

/-- Let the timers run for the instruction's cycles: those charged since `before` (R811). -/
def passInstruction (before : Nat) (s : State) : State := on32 (Cpu32.advance (s.cycles - before)) s

end Sys2Proof.Machine
end

