-- ==== Sys2Proof/Machine/ArmDataProc.lean ====
section
/-! DEFINITION. ARM data processing and multiply (44_arm_dataproc.md sections 2 to 5). -/

namespace Sys2Proof.Machine

/-- What every data-processing instruction does with its operands (R505): `extra` is the I cycle of a
register-specified shift (R831). -/
def dpFinish (op : DpOp) (d : Dp) (a b : Word) (shc : Bool) (extra : Nat) (s : State) : Res :=
  let r := dpResult op a b shc s.cpu32.cpsr
  let flags := fun (p : Psr) => p.setFlags r.1 r.2.1 r.2.2
  if isTestOp op then
    if d.rd ≠ 0#4 then unpredictable .sbz s else retire extra (setPsr flags s)
  else if ignoresRn op = true ∧ d.rn ≠ 0#4 then unpredictable .sbz s
  else if d.rd = 15#4 then
    if d.s then returnTo r.1 (charge extra s) else writePcValue r.1 (charge extra s)
  else
    let s1 := writeReg d.rd r.1 s
    retire extra (if d.s then setPsr flags s1 else s1)

/-- The immediate form (R501). -/
def dpImm (op : DpOp) (d : Dp) (op2 : Op2Imm) (s : State) : Res :=
  ifCond d.cond (fun s =>
    let x := rotatedImm op2 s.cpu32.cpsr.c
    dpFinish op d (readReg d.rn s) x.1 x.2 0 s) s

/-- The immediate-shift form (R502). -/
def dpShift (op : DpOp) (d : Dp) (op2 : Op2Shift) (s : State) : Res :=
  ifCond d.cond (fun s =>
    let x := shiftImm op2.kind (readReg op2.rm s) op2.amount.toNat s.cpu32.cpsr.c
    dpFinish op d (readReg d.rn s) x.1 x.2 0 s) s

/-- The register-shift form (R503): R15 as Rn or Rm reads ia + 12. -/
def dpRegShift (op : DpOp) (d : Dp) (op2 : Op2RegShift) (s : State) : Res :=
  ifCond d.cond (fun s =>
    if op2.rs = 15#4 then unpredictable .rsIsR15 s
    else
      let x := shiftReg op2.kind (readRegLate op2.rm s) ((readReg op2.rs s).toNat % 256) s.cpu32.cpsr.c
      dpFinish op d (readRegLate d.rn s) x.1 x.2 1 s) s

/-- The flags of MUL and MLA: C is cleared, V kept (R530). -/
def Psr.setMulFlags (p : Psr) (r : Word) : Psr := p.setFlags r false p.v

/-- MUL and MLA (R530, R531, R536): `acc` is the addend. -/
def multiplyFinish (o : MulOps) (acc : Word) (extra : Nat) (s : State) : Res :=
  let rs := readReg o.rs s
  let r := readReg o.rm s * rs + acc
  let s1 := writeReg o.rd r s
  retire (multiplyCycles rs + extra) (if o.s then setPsr (fun p => p.setMulFlags r) s1 else s1)

/-- MUL (R530). -/
def multiply (o : MulOps) (s : State) : Res :=
  ifCond o.cond (fun s =>
    if o.rd = 15#4 ∨ o.rs = 15#4 ∨ o.rm = 15#4 ∨ o.rd = o.rm then unpredictable .multiplyOperands s
    else if o.rn ≠ 0#4 then unpredictable .sbz s
    else multiplyFinish o 0 0 s) s

/-- MLA (R531). -/
def multiplyAccumulate (o : MulOps) (s : State) : Res :=
  ifCond o.cond (fun s =>
    if o.rd = 15#4 ∨ o.rn = 15#4 ∨ o.rs = 15#4 ∨ o.rm = 15#4 ∨ o.rd = o.rm then
      unpredictable .multiplyOperands s
    else multiplyFinish o (readReg o.rn s) 1 s) s

/-- The long product, modulo 2^64 (R532 to R535). -/
def longProduct (signed : Bool) (a b : Word) : BitVec 64 :=
  if signed then a.signExtend 64 * b.signExtend 64 else a.setWidth 64 * b.setWidth 64

/-- The long multiplies (R532 to R536). -/
def multiplyLong (signed acc : Bool) (o : LongMulOps) (s : State) : Res :=
  ifCond o.cond (fun s =>
    if o.rdHi = 15#4 ∨ o.rdLo = 15#4 ∨ o.rs = 15#4 ∨ o.rm = 15#4 ∨ o.rdHi = o.rdLo ∨ o.rdHi = o.rm ∨
        o.rdLo = o.rm then unpredictable .multiplyOperands s
    else
      let rs := readReg o.rs s
      let base : BitVec 64 := if acc then readReg o.rdHi s ++ readReg o.rdLo s else 0
      let p := longProduct signed (readReg o.rm s) rs + base
      let s1 := writeReg o.rdHi ((p >>> 32).setWidth 32) (writeReg o.rdLo (p.setWidth 32) s)
      retire (multiplyCycles rs + (if acc then 1 else 0) + 1)
        (if o.s then setPsr (fun q => q.setLongFlags p) s1 else s1)) s

/-! The meanings of the table's rows. -/

/-- R530 -/
def execArmMul (o : MulOps) (s : State) : Res := multiply o s
/-- R531 -/
def execArmMla (o : MulOps) (s : State) : Res := multiplyAccumulate o s
/-- R532 -/
def execArmUmull (o : LongMulOps) (s : State) : Res := multiplyLong false false o s
/-- R533 -/
def execArmUmlal (o : LongMulOps) (s : State) : Res := multiplyLong false true o s
/-- R534 -/
def execArmSmull (o : LongMulOps) (s : State) : Res := multiplyLong true false o s
/-- R535 -/
def execArmSmlal (o : LongMulOps) (s : State) : Res := multiplyLong true true o s
/-- R506 -/
def execArmAndImm (d : Dp) (op2 : Op2Imm) (s : State) : Res := dpImm .and d op2 s
/-- R506 -/
def execArmAndShift (d : Dp) (op2 : Op2Shift) (s : State) : Res := dpShift .and d op2 s
/-- R506 -/
def execArmAndRegShift (d : Dp) (op2 : Op2RegShift) (s : State) : Res := dpRegShift .and d op2 s
/-- R507 -/
def execArmEorImm (d : Dp) (op2 : Op2Imm) (s : State) : Res := dpImm .eor d op2 s
/-- R507 -/
def execArmEorShift (d : Dp) (op2 : Op2Shift) (s : State) : Res := dpShift .eor d op2 s
/-- R507 -/
def execArmEorRegShift (d : Dp) (op2 : Op2RegShift) (s : State) : Res := dpRegShift .eor d op2 s
/-- R508 -/
def execArmSubImm (d : Dp) (op2 : Op2Imm) (s : State) : Res := dpImm .sub d op2 s
/-- R508 -/
def execArmSubShift (d : Dp) (op2 : Op2Shift) (s : State) : Res := dpShift .sub d op2 s
/-- R508 -/
def execArmSubRegShift (d : Dp) (op2 : Op2RegShift) (s : State) : Res := dpRegShift .sub d op2 s
/-- R509 -/
def execArmRsbImm (d : Dp) (op2 : Op2Imm) (s : State) : Res := dpImm .rsb d op2 s
/-- R509 -/
def execArmRsbShift (d : Dp) (op2 : Op2Shift) (s : State) : Res := dpShift .rsb d op2 s
/-- R509 -/
def execArmRsbRegShift (d : Dp) (op2 : Op2RegShift) (s : State) : Res := dpRegShift .rsb d op2 s
/-- R510 -/
def execArmAddImm (d : Dp) (op2 : Op2Imm) (s : State) : Res := dpImm .add d op2 s
/-- R510 -/
def execArmAddShift (d : Dp) (op2 : Op2Shift) (s : State) : Res := dpShift .add d op2 s
/-- R510 -/
def execArmAddRegShift (d : Dp) (op2 : Op2RegShift) (s : State) : Res := dpRegShift .add d op2 s
/-- R511 -/
def execArmAdcImm (d : Dp) (op2 : Op2Imm) (s : State) : Res := dpImm .adc d op2 s
/-- R511 -/
def execArmAdcShift (d : Dp) (op2 : Op2Shift) (s : State) : Res := dpShift .adc d op2 s
/-- R511 -/
def execArmAdcRegShift (d : Dp) (op2 : Op2RegShift) (s : State) : Res := dpRegShift .adc d op2 s
/-- R512 -/
def execArmSbcImm (d : Dp) (op2 : Op2Imm) (s : State) : Res := dpImm .sbc d op2 s
/-- R512 -/
def execArmSbcShift (d : Dp) (op2 : Op2Shift) (s : State) : Res := dpShift .sbc d op2 s
/-- R512 -/
def execArmSbcRegShift (d : Dp) (op2 : Op2RegShift) (s : State) : Res := dpRegShift .sbc d op2 s
/-- R513 -/
def execArmRscImm (d : Dp) (op2 : Op2Imm) (s : State) : Res := dpImm .rsc d op2 s
/-- R513 -/
def execArmRscShift (d : Dp) (op2 : Op2Shift) (s : State) : Res := dpShift .rsc d op2 s
/-- R513 -/
def execArmRscRegShift (d : Dp) (op2 : Op2RegShift) (s : State) : Res := dpRegShift .rsc d op2 s
/-- R514 -/
def execArmTstImm (d : DpTest) (op2 : Op2Imm) (s : State) : Res := dpImm .tst d.withS op2 s
/-- R514 -/
def execArmTstShift (d : DpTest) (op2 : Op2Shift) (s : State) : Res := dpShift .tst d.withS op2 s
/-- R514 -/
def execArmTstRegShift (d : DpTest) (op2 : Op2RegShift) (s : State) : Res := dpRegShift .tst d.withS op2 s
/-- R515 -/
def execArmTeqImm (d : DpTest) (op2 : Op2Imm) (s : State) : Res := dpImm .teq d.withS op2 s
/-- R515 -/
def execArmTeqShift (d : DpTest) (op2 : Op2Shift) (s : State) : Res := dpShift .teq d.withS op2 s
/-- R515 -/
def execArmTeqRegShift (d : DpTest) (op2 : Op2RegShift) (s : State) : Res := dpRegShift .teq d.withS op2 s
/-- R516 -/
def execArmCmpImm (d : DpTest) (op2 : Op2Imm) (s : State) : Res := dpImm .cmp d.withS op2 s
/-- R516 -/
def execArmCmpShift (d : DpTest) (op2 : Op2Shift) (s : State) : Res := dpShift .cmp d.withS op2 s
/-- R516 -/
def execArmCmpRegShift (d : DpTest) (op2 : Op2RegShift) (s : State) : Res := dpRegShift .cmp d.withS op2 s
/-- R517 -/
def execArmCmnImm (d : DpTest) (op2 : Op2Imm) (s : State) : Res := dpImm .cmn d.withS op2 s
/-- R517 -/
def execArmCmnShift (d : DpTest) (op2 : Op2Shift) (s : State) : Res := dpShift .cmn d.withS op2 s
/-- R517 -/
def execArmCmnRegShift (d : DpTest) (op2 : Op2RegShift) (s : State) : Res := dpRegShift .cmn d.withS op2 s
/-- R518 -/
def execArmOrrImm (d : Dp) (op2 : Op2Imm) (s : State) : Res := dpImm .orr d op2 s
/-- R518 -/
def execArmOrrShift (d : Dp) (op2 : Op2Shift) (s : State) : Res := dpShift .orr d op2 s
/-- R518 -/
def execArmOrrRegShift (d : Dp) (op2 : Op2RegShift) (s : State) : Res := dpRegShift .orr d op2 s
/-- R519 -/
def execArmMovImm (d : Dp) (op2 : Op2Imm) (s : State) : Res := dpImm .mov d op2 s
/-- R519 -/
def execArmMovShift (d : Dp) (op2 : Op2Shift) (s : State) : Res := dpShift .mov d op2 s
/-- R519 -/
def execArmMovRegShift (d : Dp) (op2 : Op2RegShift) (s : State) : Res := dpRegShift .mov d op2 s
/-- R520 -/
def execArmBicImm (d : Dp) (op2 : Op2Imm) (s : State) : Res := dpImm .bic d op2 s
/-- R520 -/
def execArmBicShift (d : Dp) (op2 : Op2Shift) (s : State) : Res := dpShift .bic d op2 s
/-- R520 -/
def execArmBicRegShift (d : Dp) (op2 : Op2RegShift) (s : State) : Res := dpRegShift .bic d op2 s
/-- R521 -/
def execArmMvnImm (d : Dp) (op2 : Op2Imm) (s : State) : Res := dpImm .mvn d op2 s
/-- R521 -/
def execArmMvnShift (d : Dp) (op2 : Op2Shift) (s : State) : Res := dpShift .mvn d op2 s
/-- R521 -/
def execArmMvnRegShift (d : Dp) (op2 : Op2RegShift) (s : State) : Res := dpRegShift .mvn d op2 s

end Sys2Proof.Machine
end

