-- ==== Sys2Proof/Machine/ArmMemory.lean ====
section
/-! DEFINITION. ARM loads, stores, block transfers and swap (45_arm_memory.md). -/

namespace Sys2Proof.Machine

/-- The body of a single load, after its form's own restrictions (R560, R561, R566 to R569). -/
def loadIndexed (k : LoadKind) (ix : Index) (offset : Word) (s : State) : Res :=
  if Index.writesBack ix = true ∧ ix.rn = 15#4 then unpredictable .writebackR15 s
  else if Index.writesBack ix = true ∧ ix.rn = ix.rd then unpredictable .loadWritebackSame s
  else
    let r := loadValue k (Index.addr ix offset s) s
    finishLoad ix.rd r.1 (Index.writeBack ix (Index.offAddr ix offset s) r.2)

/-- The body of a single store, after its form's own restrictions (R560, R563, R564, R567). -/
def storeIndexed (w : Width) (ix : Index) (offset : Word) (s : State) : Res :=
  if Index.writesBack ix = true ∧ ix.rn = 15#4 then unpredictable .writebackR15 s
  else
    thenRes (storeData false w (Index.addr ix offset s) (readRegLate ix.rd s) s) fun s1 =>
      retireStore (Index.writeBack ix (Index.offAddr ix offset s) s1)

/-- LDRB into R15 is refused before any access (R562). -/
def loadSingle (k : LoadKind) (ix : Index) (offset : Word) (s : State) : Res :=
  if k = .unsignedByte ∧ ix.rd = 15#4 then unpredictable .ldrbToPc s else loadIndexed k ix offset s

/-- LDR and LDRB, immediate offset (R560 to R562). -/
def loadSingleImm (k : LoadKind) (o : XferImm) (s : State) : Res :=
  ifCond o.ix.cond (loadSingle k o.ix (o.offset.setWidth 32)) s

/-- The shifted register offset (R560): the immediate shift of R502, its carry discarded. -/
def regOffset (o : Op2Shift) (s : State) : Word :=
  (shiftImm o.kind (readReg o.rm s) o.amount.toNat s.cpu32.cpsr.c).1

/-- LDR and LDRB, register offset (R560 to R562). -/
def loadSingleReg (k : LoadKind) (o : XferReg) (s : State) : Res :=
  ifCond o.ix.cond (fun s =>
    if o.op2.rm = 15#4 then unpredictable .offsetR15 s
    else loadSingle k o.ix (regOffset o.op2 s) s) s

/-- STR and STRB, immediate offset (R560, R563, R564). -/
def storeSingleImm (w : Width) (o : XferImm) (s : State) : Res :=
  ifCond o.ix.cond (storeIndexed w o.ix (o.offset.setWidth 32)) s

/-- STR and STRB, register offset (R560, R563, R564). -/
def storeSingleReg (w : Width) (o : XferReg) (s : State) : Res :=
  ifCond o.ix.cond (fun s =>
    if o.op2.rm = 15#4 then unpredictable .offsetR15 s
    else storeIndexed w o.ix (regOffset o.op2 s) s) s

/-- The restrictions every halfword or signed transfer shares (R565). -/
def halfChecked (ix : Index) (body : State → Res) (s : State) : Res :=
  if ix.pre = false ∧ ix.wb = true then unpredictable .postIndexedW s
  else if ix.rd = 15#4 then unpredictable .halfRdR15 s
  else body s

/-- The immediate halfword offset (R565). -/
def HalfImm.offset (o : HalfImm) : Word := (o.hi ++ o.lo).setWidth 32

/-- LDRH, LDRSB and LDRSH, register offset (R565 to R569). -/
def loadHalfReg (k : LoadKind) (o : HalfReg) (s : State) : Res :=
  ifCond o.ix.cond (halfChecked o.ix fun s =>
    if o.rm = 15#4 then unpredictable .offsetR15 s else loadIndexed k o.ix (readReg o.rm s) s) s

/-- LDRH, LDRSB and LDRSH, immediate offset (R565 to R569). -/
def loadHalfImm (k : LoadKind) (o : HalfImm) (s : State) : Res :=
  ifCond o.ix.cond (halfChecked o.ix (loadIndexed k o.ix (HalfImm.offset o))) s

/-- STRH, register offset (R567). -/
def storeHalfReg (o : HalfReg) (s : State) : Res :=
  ifCond o.ix.cond (halfChecked o.ix fun s =>
    if o.rm = 15#4 then unpredictable .offsetR15 s else storeIndexed .half o.ix (readReg o.rm s) s) s

/-- STRH, immediate offset (R567). -/
def storeHalfImm (o : HalfImm) (s : State) : Res :=
  ifCond o.ix.cond (halfChecked o.ix (storeIndexed .half o.ix (HalfImm.offset o))) s

/-- `regs` of R580: an empty list transfers R15 alone (R584). -/
def blockRegs (list : BitVec 16) : List RegNum :=
  if list = 0#16 then [15#4] else listedRegs list.toNat

/-- `size` of R580. -/
def blockSize (list : BitVec 16) : Nat :=
  if list = 0#16 then 0x40 else 4 * (listedRegs list.toNat).length

/-- `newb` of R580. -/
def blockNewBase (o : BlockOps) (base : Word) : Word :=
  if o.up then base + BitVec.ofNat 32 (blockSize o.list) else base - BitVec.ofNat 32 (blockSize o.list)

/-- `start` of R580. -/
def blockStart (o : BlockOps) (base : Word) : Word :=
  if o.up then base + (if o.pre then 4 else 0)
  else base - BitVec.ofNat 32 (blockSize o.list) + (if o.pre then 0 else 4)

/-- The restrictions of R580 and R583. -/
def blockChecked (o : BlockOps) (restores : Bool) (body : State → Res) (s : State) : Res :=
  if o.rn = 15#4 then unpredictable .blockBaseR15 s
  else if o.s = true ∧ o.wb = true ∧ restores = false then unpredictable .sWithWriteback s
  else if o.s = true ∧ (s.cpu32.cpsr.mode = .usr ∨ s.cpu32.cpsr.mode = .sys) then
    unpredictable .sUnprivileged s
  else body s

/-- LDM (R581, R583 to R585). -/
def blockLoad (o : BlockOps) (s : State) : Res :=
  let regs := blockRegs o.list
  let toPc := decide (15#4 ∈ regs)
  ifCond o.cond (blockChecked o toPc fun s =>
    let base := readReg o.rn s
    let wb := fun s => if o.wb = true ∧ o.rn ∉ regs then writeReg o.rn (blockNewBase o base) s else s
    let r := loadRegs (if o.s then writeUser else writeReg) wb true regs (blockStart o base) s
    if toPc = false then retire 1 r.2
    else if o.s then returnTo r.1 (charge 1 r.2)
    else writePcValue r.1 (charge 1 r.2)) s

/-- STM (R582 to R585). -/
def blockStore (o : BlockOps) (s : State) : Res :=
  ifCond o.cond (blockChecked o false fun s =>
    let base := readReg o.rn s
    let wb := fun s => if o.wb then writeReg o.rn (blockNewBase o base) s else s
    thenRes (storeRegs (if o.s then readUserLate else readRegLate) wb true (blockRegs o.list)
      (blockStart o base) s) retireStore) s

/-- SWP and SWPB (R590, R591). -/
def swap (w : Width) (o : SwapOps) (s : State) : Res :=
  ifCond o.cond (fun s =>
    if o.rn = 15#4 ∨ o.rd = 15#4 ∨ o.rm = 15#4 ∨ o.rn = o.rd ∨ o.rn = o.rm then
      unpredictable .swapOperands s
    else
      let a := readReg o.rn s
      let t := loadValue (if w = .byte then .unsignedByte else .word) a s
      thenRes (storeData false w a (readReg o.rm s) t.2) fun s1 => retire 1 (writeReg o.rd t.1 s1)) s

/-! The meanings of the table's rows. -/

/-- R590 -/
def execArmSwp (o : SwapOps) (s : State) : Res := swap .word o s
/-- R591 -/
def execArmSwpb (o : SwapOps) (s : State) : Res := swap .byte o s
/-- R567 -/
def execArmStrhReg (o : HalfReg) (s : State) : Res := storeHalfReg o s
/-- R567 -/
def execArmStrhImm (o : HalfImm) (s : State) : Res := storeHalfImm o s
/-- R566 -/
def execArmLdrhReg (o : HalfReg) (s : State) : Res := loadHalfReg .unsignedHalf o s
/-- R566 -/
def execArmLdrhImm (o : HalfImm) (s : State) : Res := loadHalfImm .unsignedHalf o s
/-- R568 -/
def execArmLdrsbReg (o : HalfReg) (s : State) : Res := loadHalfReg .signedByte o s
/-- R568 -/
def execArmLdrsbImm (o : HalfImm) (s : State) : Res := loadHalfImm .signedByte o s
/-- R569 -/
def execArmLdrshReg (o : HalfReg) (s : State) : Res := loadHalfReg .signedHalf o s
/-- R569 -/
def execArmLdrshImm (o : HalfImm) (s : State) : Res := loadHalfImm .signedHalf o s
/-- R563 -/
def execArmStrImm (o : XferImm) (s : State) : Res := storeSingleImm .word o s
/-- R563 -/
def execArmStrReg (o : XferReg) (s : State) : Res := storeSingleReg .word o s
/-- R561 -/
def execArmLdrImm (o : XferImm) (s : State) : Res := loadSingleImm .word o s
/-- R561 -/
def execArmLdrReg (o : XferReg) (s : State) : Res := loadSingleReg .word o s
/-- R564 -/
def execArmStrbImm (o : XferImm) (s : State) : Res := storeSingleImm .byte o s
/-- R564 -/
def execArmStrbReg (o : XferReg) (s : State) : Res := storeSingleReg .byte o s
/-- R562 -/
def execArmLdrbImm (o : XferImm) (s : State) : Res := loadSingleImm .unsignedByte o s
/-- R562 -/
def execArmLdrbReg (o : XferReg) (s : State) : Res := loadSingleReg .unsignedByte o s
/-- R582 -/
def execArmStm (o : BlockOps) (s : State) : Res := blockStore o s
/-- R581 -/
def execArmLdm (o : BlockOps) (s : State) : Res := blockLoad o s

end Sys2Proof.Machine
end

