-- ==== Sys2Proof/Machine/ArmSystem.lean ====
section
/-! DEFINITION. ARM branches, PSR transfer, SWI and the undefined spaces (44_arm_dataproc.md section 6;
46_arm_branch_system.md). -/

namespace Sys2Proof.Machine

/-- B and BL (R610, R611): the target is ia + 8 plus the offset; BL writes the next address to LR. -/
def branch (link : Bool) (o : BranchOps) (s : State) : Res :=
  ifCond o.cond (fun s =>
    let ia := s.cpu32.pc
    let s1 := if link then writeReg 14#4 (ia + 4) s else s
    jumpTo s.cpu32.cpsr.t (ia + 8 + (o.offset.signExtend 32 <<< 2)) s1) s

/-- BX (R612). -/
def armBranchExchange (o : BranchExchange) (s : State) : Res :=
  ifCond o.cond (fun s => jumpTo ((readReg o.rm s).getLsbD 0) (readReg o.rm s) s) s

/-- SWI (R613, R743). -/
def softwareInterrupt (o : SwiOps) (s : State) : Res :=
  ifCond o.cond (fun s => enterAt .svc 0x08#32 (s.cpu32.pc + 4) s) s

/-- The undefined and coprocessor words: with the condition passed, the fault (R500, R614, R615). -/
def undefinedIfCond (w : Word) (s : State) : Res :=
  ifCond (Cond.ofCode (bits w.toNat 31 28)) (undefinedAlways w.toNat) s

/-- MRS (R541). Where several restrictions hold, Rd = R15 is reported first, then SBZ, then the missing SPSR (log
entry 35). -/
def moveFromPsr (o : MrsOps) (s : State) : Res :=
  ifCond o.cond (fun s =>
    if o.rd = 15#4 then unpredictable .mrsToPc s
    else if o.sbz ≠ 0#12 then unpredictable .sbz s
    else if o.spsr then
      match s.cpu32.spsr? s.cpu32.cpsr.mode with
      | none => unpredictable .noSpsr s
      | some v => retire 0 (writeReg o.rd v s)
    else retire 0 (writeReg o.rd s.cpu32.cpsr.toWord s)) s

/-- MSR from a register (R540, R542). Where several restrictions hold, Rm = R15 is reported first (log entry 35). -/
def moveToPsrReg (o : MsrRegOps) (s : State) : Res :=
  ifCond o.cond (fun s =>
    if o.rm = 15#4 then unpredictable .msrFromPc s
    else if o.sbz ≠ 0#8 then unpredictable .sbz s
    else thenRes (writePsr o.spsr o.fields (readReg o.rm s) s) (retire 0)) s

/-- MSR from an immediate (R540, R543). -/
def moveToPsrImm (o : MsrImmOps) (s : State) : Res :=
  ifCond o.cond (fun s =>
    thenRes (writePsr o.spsr o.fields (rotatedImm o.op2 s.cpu32.cpsr.c).1 s) (retire 0)) s

/-! The meanings of the table's rows. -/

/-- R616 -/
def execArmReservedCond (w : Word) (s : State) : Res := undefinedAlways w.toNat s
/-- R612 -/
def execArmBx (o : BranchExchange) (s : State) : Res := armBranchExchange o s
/-- R615 -/
def execArmUndefStoreSignedReg (w : Word) (s : State) : Res := undefinedIfCond w s
/-- R615 -/
def execArmUndefStoreSignedImm (w : Word) (s : State) : Res := undefinedIfCond w s
/-- R615 -/
def execArmUndefMultiplySpace (w : Word) (s : State) : Res := undefinedIfCond w s
/-- R541 -/
def execArmMrs (o : MrsOps) (s : State) : Res := moveFromPsr o s
/-- R542 -/
def execArmMsrReg (o : MsrRegOps) (s : State) : Res := moveToPsrReg o s
/-- R543 -/
def execArmMsrImm (o : MsrImmOps) (s : State) : Res := moveToPsrImm o s
/-- R615 -/
def execArmUndefCompareNoS (w : Word) (s : State) : Res := undefinedIfCond w s
/-- R615 -/
def execArmUndefSpace (w : Word) (s : State) : Res := undefinedIfCond w s
/-- R610 -/
def execArmB (o : BranchOps) (s : State) : Res := branch false o s
/-- R611 -/
def execArmBl (o : BranchOps) (s : State) : Res := branch true o s
/-- R614 -/
def execArmLdcStc (w : Word) (s : State) : Res := undefinedIfCond w s
/-- R614 -/
def execArmCdpMrcMcr (w : Word) (s : State) : Res := undefinedIfCond w s
/-- R613 -/
def execArmSwi (o : SwiOps) (s : State) : Res := softwareInterrupt o s

end Sys2Proof.Machine
end

