-- ==== Sys2Proof/Machine/Cpu8Alu.lean ====
section
/-! DEFINITION. CPU-8 arithmetic and logic (41_cpu8_alu.md). -/

namespace Sys2Proof.Machine

/-- A and F after an operation of R350; CP writes F only (R358). -/
def Cpu8.setAlu (c : Cpu8) (op : Alu8) (r : Byte × Byte) : Cpu8 :=
  if op = .cp then c.setF r.2 else c.setAF r.1 r.2

/-- The 8-bit operations with operand r or (HL) (R350 to R358). -/
def alu8 (op : Alu8) (k : R8) (s : State) : Res :=
  let b := readOperand8 k s
  finish8 (if k = .hlm then 8 else 4)
    (on8 (fun c => c.setAlu op (aluResult8 op c.a b.1 c.f)) b.2)

/-- The 8-bit operations with an immediate (R350 to R358). -/
def alu8Imm (op : Alu8) (n : Byte) (s : State) : Res :=
  finish8 8 (on8 (fun c => c.setAlu op (aluResult8 op c.a n c.f)) s)

/-- INC r and INC (HL) (R359, R360). -/
def inc8 (k : R8) (s : State) : Res :=
  let a := readOperand8 k s
  let r := incResult a.1 a.2.cpu8.f
  thenRes (writeOperand8 k r.1 a.2) fun s1 =>
    finish8 (if k = .hlm then 12 else 4) (on8 (fun c => c.setF r.2) s1)

/-- DEC r and DEC (HL) (R361, R362). -/
def dec8 (k : R8) (s : State) : Res :=
  let a := readOperand8 k s
  let r := decResult a.1 a.2.cpu8.f
  thenRes (writeOperand8 k r.1 a.2) fun s1 =>
    finish8 (if k = .hlm then 12 else 4) (on8 (fun c => c.setF r.2) s1)

/-- ADD HL,rr (R363). -/
def addHl (p : RP) (s : State) : Res :=
  let r := addHlResult s.cpu8.hl (s.cpu8.pairOf p) s.cpu8.f
  finish8 8 (on8 (fun c => (c.setPair .hl r.1).setF r.2) s)

/-- INC rr (R364). -/
def incPair (p : RP) (s : State) : Res := finish8 8 (on8 (fun c => c.setPair p (c.pairOf p + 1)) s)

/-- DEC rr (R365). -/
def decPair (p : RP) (s : State) : Res := finish8 8 (on8 (fun c => c.setPair p (c.pairOf p - 1)) s)

/-- ADD SP,e (R366). -/
def addSp (e : Byte) (s : State) : Res :=
  let r := addSpResult s.cpu8.sp e
  finish8 16 (on8 (fun c => ({ c with sp := r.1 }).setF r.2) s)

/-- DAA (R367). -/
def daa8 (s : State) : Res :=
  let r := daaResult s.cpu8.a s.cpu8.f
  finish8 4 (on8 (fun c => c.setAF r.1 r.2) s)

/-- CPL (R368). -/
def cpl8 (s : State) : Res :=
  finish8 4 (on8 (fun c => c.setAF (~~~c.a) (mkF (flagZ c.f) true true (flagC c.f))) s)

/-- SCF (R369). -/
def scf8 (s : State) : Res :=
  finish8 4 (on8 (fun c => c.setF (mkF (flagZ c.f) false false true)) s)

/-- CCF (R370). -/
def ccf8 (s : State) : Res :=
  finish8 4 (on8 (fun c => c.setF (mkF (flagZ c.f) false false (!flagC c.f))) s)

/-- RLCA, RRCA, RLA and RRA (R371 to R374): Z is 0, unlike the CB forms. -/
def rotateA (op : Rot8) (s : State) : Res :=
  let r := rotResult op s.cpu8.a (flagC s.cpu8.f)
  finish8 4 (on8 (fun c => c.setAF r.1 (mkF false false false r.2)) s)

/-! The meanings of the table's rows. -/

/-- R364 -/
def exec_inc_bc (s : State) : Res := incPair .bc s
/-- R359 -/
def exec_inc_b (s : State) : Res := inc8 .b s
/-- R361 -/
def exec_dec_b (s : State) : Res := dec8 .b s
/-- R371 -/
def exec_rlca (s : State) : Res := rotateA .rlc s
/-- R363 -/
def exec_add_hl_bc (s : State) : Res := addHl .bc s
/-- R365 -/
def exec_dec_bc (s : State) : Res := decPair .bc s
/-- R359 -/
def exec_inc_c (s : State) : Res := inc8 .c s
/-- R361 -/
def exec_dec_c (s : State) : Res := dec8 .c s
/-- R372 -/
def exec_rrca (s : State) : Res := rotateA .rrc s
/-- R364 -/
def exec_inc_de (s : State) : Res := incPair .de s
/-- R359 -/
def exec_inc_d (s : State) : Res := inc8 .d s
/-- R361 -/
def exec_dec_d (s : State) : Res := dec8 .d s
/-- R373 -/
def exec_rla (s : State) : Res := rotateA .rl s
/-- R363 -/
def exec_add_hl_de (s : State) : Res := addHl .de s
/-- R365 -/
def exec_dec_de (s : State) : Res := decPair .de s
/-- R359 -/
def exec_inc_e (s : State) : Res := inc8 .e s
/-- R361 -/
def exec_dec_e (s : State) : Res := dec8 .e s
/-- R374 -/
def exec_rra (s : State) : Res := rotateA .rr s
/-- R364 -/
def exec_inc_hl (s : State) : Res := incPair .hl s
/-- R359 -/
def exec_inc_h (s : State) : Res := inc8 .h s
/-- R361 -/
def exec_dec_h (s : State) : Res := dec8 .h s
/-- R367 -/
def exec_daa (s : State) : Res := daa8 s
/-- R363 -/
def exec_add_hl_hl (s : State) : Res := addHl .hl s
/-- R365 -/
def exec_dec_hl (s : State) : Res := decPair .hl s
/-- R359 -/
def exec_inc_l (s : State) : Res := inc8 .l s
/-- R361 -/
def exec_dec_l (s : State) : Res := dec8 .l s
/-- R368 -/
def exec_cpl (s : State) : Res := cpl8 s
/-- R364 -/
def exec_inc_sp (s : State) : Res := incPair .sp s
/-- R360 -/
def exec_inc_hlm (s : State) : Res := inc8 .hlm s
/-- R362 -/
def exec_dec_hlm (s : State) : Res := dec8 .hlm s
/-- R369 -/
def exec_scf (s : State) : Res := scf8 s
/-- R363 -/
def exec_add_hl_sp (s : State) : Res := addHl .sp s
/-- R365 -/
def exec_dec_sp (s : State) : Res := decPair .sp s
/-- R359 -/
def exec_inc_a (s : State) : Res := inc8 .a s
/-- R361 -/
def exec_dec_a (s : State) : Res := dec8 .a s
/-- R370 -/
def exec_ccf (s : State) : Res := ccf8 s
/-- R351 -/
def exec_add_a_b (s : State) : Res := alu8 .add .b s
/-- R351 -/
def exec_add_a_c (s : State) : Res := alu8 .add .c s
/-- R351 -/
def exec_add_a_d (s : State) : Res := alu8 .add .d s
/-- R351 -/
def exec_add_a_e (s : State) : Res := alu8 .add .e s
/-- R351 -/
def exec_add_a_h (s : State) : Res := alu8 .add .h s
/-- R351 -/
def exec_add_a_l (s : State) : Res := alu8 .add .l s
/-- R351 -/
def exec_add_a_hlm (s : State) : Res := alu8 .add .hlm s
/-- R351 -/
def exec_add_a_a (s : State) : Res := alu8 .add .a s
/-- R352 -/
def exec_adc_a_b (s : State) : Res := alu8 .adc .b s
/-- R352 -/
def exec_adc_a_c (s : State) : Res := alu8 .adc .c s
/-- R352 -/
def exec_adc_a_d (s : State) : Res := alu8 .adc .d s
/-- R352 -/
def exec_adc_a_e (s : State) : Res := alu8 .adc .e s
/-- R352 -/
def exec_adc_a_h (s : State) : Res := alu8 .adc .h s
/-- R352 -/
def exec_adc_a_l (s : State) : Res := alu8 .adc .l s
/-- R352 -/
def exec_adc_a_hlm (s : State) : Res := alu8 .adc .hlm s
/-- R352 -/
def exec_adc_a_a (s : State) : Res := alu8 .adc .a s
/-- R353 -/
def exec_sub_b (s : State) : Res := alu8 .sub .b s
/-- R353 -/
def exec_sub_c (s : State) : Res := alu8 .sub .c s
/-- R353 -/
def exec_sub_d (s : State) : Res := alu8 .sub .d s
/-- R353 -/
def exec_sub_e (s : State) : Res := alu8 .sub .e s
/-- R353 -/
def exec_sub_h (s : State) : Res := alu8 .sub .h s
/-- R353 -/
def exec_sub_l (s : State) : Res := alu8 .sub .l s
/-- R353 -/
def exec_sub_hlm (s : State) : Res := alu8 .sub .hlm s
/-- R353 -/
def exec_sub_a (s : State) : Res := alu8 .sub .a s
/-- R354 -/
def exec_sbc_a_b (s : State) : Res := alu8 .sbc .b s
/-- R354 -/
def exec_sbc_a_c (s : State) : Res := alu8 .sbc .c s
/-- R354 -/
def exec_sbc_a_d (s : State) : Res := alu8 .sbc .d s
/-- R354 -/
def exec_sbc_a_e (s : State) : Res := alu8 .sbc .e s
/-- R354 -/
def exec_sbc_a_h (s : State) : Res := alu8 .sbc .h s
/-- R354 -/
def exec_sbc_a_l (s : State) : Res := alu8 .sbc .l s
/-- R354 -/
def exec_sbc_a_hlm (s : State) : Res := alu8 .sbc .hlm s
/-- R354 -/
def exec_sbc_a_a (s : State) : Res := alu8 .sbc .a s
/-- R355 -/
def exec_and_b (s : State) : Res := alu8 .and .b s
/-- R355 -/
def exec_and_c (s : State) : Res := alu8 .and .c s
/-- R355 -/
def exec_and_d (s : State) : Res := alu8 .and .d s
/-- R355 -/
def exec_and_e (s : State) : Res := alu8 .and .e s
/-- R355 -/
def exec_and_h (s : State) : Res := alu8 .and .h s
/-- R355 -/
def exec_and_l (s : State) : Res := alu8 .and .l s
/-- R355 -/
def exec_and_hlm (s : State) : Res := alu8 .and .hlm s
/-- R355 -/
def exec_and_a (s : State) : Res := alu8 .and .a s
/-- R356 -/
def exec_xor_b (s : State) : Res := alu8 .xor .b s
/-- R356 -/
def exec_xor_c (s : State) : Res := alu8 .xor .c s
/-- R356 -/
def exec_xor_d (s : State) : Res := alu8 .xor .d s
/-- R356 -/
def exec_xor_e (s : State) : Res := alu8 .xor .e s
/-- R356 -/
def exec_xor_h (s : State) : Res := alu8 .xor .h s
/-- R356 -/
def exec_xor_l (s : State) : Res := alu8 .xor .l s
/-- R356 -/
def exec_xor_hlm (s : State) : Res := alu8 .xor .hlm s
/-- R356 -/
def exec_xor_a (s : State) : Res := alu8 .xor .a s
/-- R357 -/
def exec_or_b (s : State) : Res := alu8 .or .b s
/-- R357 -/
def exec_or_c (s : State) : Res := alu8 .or .c s
/-- R357 -/
def exec_or_d (s : State) : Res := alu8 .or .d s
/-- R357 -/
def exec_or_e (s : State) : Res := alu8 .or .e s
/-- R357 -/
def exec_or_h (s : State) : Res := alu8 .or .h s
/-- R357 -/
def exec_or_l (s : State) : Res := alu8 .or .l s
/-- R357 -/
def exec_or_hlm (s : State) : Res := alu8 .or .hlm s
/-- R357 -/
def exec_or_a (s : State) : Res := alu8 .or .a s
/-- R358 -/
def exec_cp_b (s : State) : Res := alu8 .cp .b s
/-- R358 -/
def exec_cp_c (s : State) : Res := alu8 .cp .c s
/-- R358 -/
def exec_cp_d (s : State) : Res := alu8 .cp .d s
/-- R358 -/
def exec_cp_e (s : State) : Res := alu8 .cp .e s
/-- R358 -/
def exec_cp_h (s : State) : Res := alu8 .cp .h s
/-- R358 -/
def exec_cp_l (s : State) : Res := alu8 .cp .l s
/-- R358 -/
def exec_cp_hlm (s : State) : Res := alu8 .cp .hlm s
/-- R358 -/
def exec_cp_a (s : State) : Res := alu8 .cp .a s
/-- R351 -/
def exec_add_a_n (n : Byte) (s : State) : Res := alu8Imm .add n s
/-- R352 -/
def exec_adc_a_n (n : Byte) (s : State) : Res := alu8Imm .adc n s
/-- R353 -/
def exec_sub_n (n : Byte) (s : State) : Res := alu8Imm .sub n s
/-- R354 -/
def exec_sbc_a_n (n : Byte) (s : State) : Res := alu8Imm .sbc n s
/-- R355 -/
def exec_and_n (n : Byte) (s : State) : Res := alu8Imm .and n s
/-- R366 -/
def exec_add_sp_e (e : Byte) (s : State) : Res := addSp e s
/-- R356 -/
def exec_xor_n (n : Byte) (s : State) : Res := alu8Imm .xor n s
/-- R357 -/
def exec_or_n (n : Byte) (s : State) : Res := alu8Imm .or n s
/-- R358 -/
def exec_cp_n (n : Byte) (s : State) : Res := alu8Imm .cp n s

end Sys2Proof.Machine
end

