-- ==== Sys2Proof/Machine/Cpu8Cb.lean ====
section
/-! DEFINITION. The CPU-8 CB-prefixed instructions (42_cpu8_cb.md). -/

namespace Sys2Proof.Machine

/-- Rotates and shifts (R400 to R408). -/
def cbRotate (op : Rot8) (k : R8) (s : State) : Res :=
  let v := readOperand8 k s
  let r := rotResult op v.1 (flagC v.2.cpu8.f)
  thenRes (writeOperand8 k r.1 v.2) fun s1 =>
    finish8 (if k = .hlm then 16 else 8) (on8 (fun c => c.setF (mkF (r.1 == 0) false false r.2)) s1)

/-- BIT b,r (R409). -/
def cbBit (b : BitVec 3) (k : R8) (s : State) : Res :=
  let v := readOperand8 k s
  finish8 (if k = .hlm then 12 else 8)
    (on8 (fun c => c.setF (mkF (!v.1.getLsbD b.toNat) false true (flagC c.f))) v.2)

/-- The byte with only bit b set. -/
def oneBit (b : BitVec 3) : Byte := 1#8 <<< b.toNat

/-- RES b,r (R410). -/
def cbRes (b : BitVec 3) (k : R8) (s : State) : Res :=
  let v := readOperand8 k s
  thenRes (writeOperand8 k (v.1 &&& ~~~oneBit b) v.2) (finish8 (if k = .hlm then 16 else 8))

/-- SET b,r (R411). -/
def cbSet (b : BitVec 3) (k : R8) (s : State) : Res :=
  let v := readOperand8 k s
  thenRes (writeOperand8 k (v.1 ||| oneBit b) v.2) (finish8 (if k = .hlm then 16 else 8))

/-- The CB rule of a second byte, by the fields of R205. -/
def cbOperation (op2 : Byte) (s : State) : Res :=
  let k := R8.ofCode (bits op2.toNat 2 0)
  match bits op2.toNat 7 6 with
  | 0 => cbRotate (Rot8.ofCode (bits op2.toNat 5 3)) k s
  | 1 => cbBit (fld 3 op2.toNat 3) k s
  | 2 => cbRes (fld 3 op2.toNat 3) k s
  | _ => cbSet (fld 3 op2.toNat 3) k s

/-! The meanings of the table's rows. -/

/-- R205 -/
def exec_cbPrefix (op2 : Byte) (s : State) : Res := cbOperation op2 s
/-- R401 -/
def exec_rlc_b (s : State) : Res := cbRotate .rlc .b s
/-- R401 -/
def exec_rlc_c (s : State) : Res := cbRotate .rlc .c s
/-- R401 -/
def exec_rlc_d (s : State) : Res := cbRotate .rlc .d s
/-- R401 -/
def exec_rlc_e (s : State) : Res := cbRotate .rlc .e s
/-- R401 -/
def exec_rlc_h (s : State) : Res := cbRotate .rlc .h s
/-- R401 -/
def exec_rlc_l (s : State) : Res := cbRotate .rlc .l s
/-- R401 -/
def exec_rlc_hlm (s : State) : Res := cbRotate .rlc .hlm s
/-- R401 -/
def exec_rlc_a (s : State) : Res := cbRotate .rlc .a s
/-- R402 -/
def exec_rrc_b (s : State) : Res := cbRotate .rrc .b s
/-- R402 -/
def exec_rrc_c (s : State) : Res := cbRotate .rrc .c s
/-- R402 -/
def exec_rrc_d (s : State) : Res := cbRotate .rrc .d s
/-- R402 -/
def exec_rrc_e (s : State) : Res := cbRotate .rrc .e s
/-- R402 -/
def exec_rrc_h (s : State) : Res := cbRotate .rrc .h s
/-- R402 -/
def exec_rrc_l (s : State) : Res := cbRotate .rrc .l s
/-- R402 -/
def exec_rrc_hlm (s : State) : Res := cbRotate .rrc .hlm s
/-- R402 -/
def exec_rrc_a (s : State) : Res := cbRotate .rrc .a s
/-- R403 -/
def exec_rl_b (s : State) : Res := cbRotate .rl .b s
/-- R403 -/
def exec_rl_c (s : State) : Res := cbRotate .rl .c s
/-- R403 -/
def exec_rl_d (s : State) : Res := cbRotate .rl .d s
/-- R403 -/
def exec_rl_e (s : State) : Res := cbRotate .rl .e s
/-- R403 -/
def exec_rl_h (s : State) : Res := cbRotate .rl .h s
/-- R403 -/
def exec_rl_l (s : State) : Res := cbRotate .rl .l s
/-- R403 -/
def exec_rl_hlm (s : State) : Res := cbRotate .rl .hlm s
/-- R403 -/
def exec_rl_a (s : State) : Res := cbRotate .rl .a s
/-- R404 -/
def exec_rr_b (s : State) : Res := cbRotate .rr .b s
/-- R404 -/
def exec_rr_c (s : State) : Res := cbRotate .rr .c s
/-- R404 -/
def exec_rr_d (s : State) : Res := cbRotate .rr .d s
/-- R404 -/
def exec_rr_e (s : State) : Res := cbRotate .rr .e s
/-- R404 -/
def exec_rr_h (s : State) : Res := cbRotate .rr .h s
/-- R404 -/
def exec_rr_l (s : State) : Res := cbRotate .rr .l s
/-- R404 -/
def exec_rr_hlm (s : State) : Res := cbRotate .rr .hlm s
/-- R404 -/
def exec_rr_a (s : State) : Res := cbRotate .rr .a s
/-- R405 -/
def exec_sla_b (s : State) : Res := cbRotate .sla .b s
/-- R405 -/
def exec_sla_c (s : State) : Res := cbRotate .sla .c s
/-- R405 -/
def exec_sla_d (s : State) : Res := cbRotate .sla .d s
/-- R405 -/
def exec_sla_e (s : State) : Res := cbRotate .sla .e s
/-- R405 -/
def exec_sla_h (s : State) : Res := cbRotate .sla .h s
/-- R405 -/
def exec_sla_l (s : State) : Res := cbRotate .sla .l s
/-- R405 -/
def exec_sla_hlm (s : State) : Res := cbRotate .sla .hlm s
/-- R405 -/
def exec_sla_a (s : State) : Res := cbRotate .sla .a s
/-- R406 -/
def exec_sra_b (s : State) : Res := cbRotate .sra .b s
/-- R406 -/
def exec_sra_c (s : State) : Res := cbRotate .sra .c s
/-- R406 -/
def exec_sra_d (s : State) : Res := cbRotate .sra .d s
/-- R406 -/
def exec_sra_e (s : State) : Res := cbRotate .sra .e s
/-- R406 -/
def exec_sra_h (s : State) : Res := cbRotate .sra .h s
/-- R406 -/
def exec_sra_l (s : State) : Res := cbRotate .sra .l s
/-- R406 -/
def exec_sra_hlm (s : State) : Res := cbRotate .sra .hlm s
/-- R406 -/
def exec_sra_a (s : State) : Res := cbRotate .sra .a s
/-- R407 -/
def exec_swap_b (s : State) : Res := cbRotate .swap .b s
/-- R407 -/
def exec_swap_c (s : State) : Res := cbRotate .swap .c s
/-- R407 -/
def exec_swap_d (s : State) : Res := cbRotate .swap .d s
/-- R407 -/
def exec_swap_e (s : State) : Res := cbRotate .swap .e s
/-- R407 -/
def exec_swap_h (s : State) : Res := cbRotate .swap .h s
/-- R407 -/
def exec_swap_l (s : State) : Res := cbRotate .swap .l s
/-- R407 -/
def exec_swap_hlm (s : State) : Res := cbRotate .swap .hlm s
/-- R407 -/
def exec_swap_a (s : State) : Res := cbRotate .swap .a s
/-- R408 -/
def exec_srl_b (s : State) : Res := cbRotate .srl .b s
/-- R408 -/
def exec_srl_c (s : State) : Res := cbRotate .srl .c s
/-- R408 -/
def exec_srl_d (s : State) : Res := cbRotate .srl .d s
/-- R408 -/
def exec_srl_e (s : State) : Res := cbRotate .srl .e s
/-- R408 -/
def exec_srl_h (s : State) : Res := cbRotate .srl .h s
/-- R408 -/
def exec_srl_l (s : State) : Res := cbRotate .srl .l s
/-- R408 -/
def exec_srl_hlm (s : State) : Res := cbRotate .srl .hlm s
/-- R408 -/
def exec_srl_a (s : State) : Res := cbRotate .srl .a s
/-- R409 -/
def exec_bit_0_b (s : State) : Res := cbBit 0 .b s
/-- R409 -/
def exec_bit_0_c (s : State) : Res := cbBit 0 .c s
/-- R409 -/
def exec_bit_0_d (s : State) : Res := cbBit 0 .d s
/-- R409 -/
def exec_bit_0_e (s : State) : Res := cbBit 0 .e s
/-- R409 -/
def exec_bit_0_h (s : State) : Res := cbBit 0 .h s
/-- R409 -/
def exec_bit_0_l (s : State) : Res := cbBit 0 .l s
/-- R409 -/
def exec_bit_0_hlm (s : State) : Res := cbBit 0 .hlm s
/-- R409 -/
def exec_bit_0_a (s : State) : Res := cbBit 0 .a s
/-- R409 -/
def exec_bit_1_b (s : State) : Res := cbBit 1 .b s
/-- R409 -/
def exec_bit_1_c (s : State) : Res := cbBit 1 .c s
/-- R409 -/
def exec_bit_1_d (s : State) : Res := cbBit 1 .d s
/-- R409 -/
def exec_bit_1_e (s : State) : Res := cbBit 1 .e s
/-- R409 -/
def exec_bit_1_h (s : State) : Res := cbBit 1 .h s
/-- R409 -/
def exec_bit_1_l (s : State) : Res := cbBit 1 .l s
/-- R409 -/
def exec_bit_1_hlm (s : State) : Res := cbBit 1 .hlm s
/-- R409 -/
def exec_bit_1_a (s : State) : Res := cbBit 1 .a s
/-- R409 -/
def exec_bit_2_b (s : State) : Res := cbBit 2 .b s
/-- R409 -/
def exec_bit_2_c (s : State) : Res := cbBit 2 .c s
/-- R409 -/
def exec_bit_2_d (s : State) : Res := cbBit 2 .d s
/-- R409 -/
def exec_bit_2_e (s : State) : Res := cbBit 2 .e s
/-- R409 -/
def exec_bit_2_h (s : State) : Res := cbBit 2 .h s
/-- R409 -/
def exec_bit_2_l (s : State) : Res := cbBit 2 .l s
/-- R409 -/
def exec_bit_2_hlm (s : State) : Res := cbBit 2 .hlm s
/-- R409 -/
def exec_bit_2_a (s : State) : Res := cbBit 2 .a s
/-- R409 -/
def exec_bit_3_b (s : State) : Res := cbBit 3 .b s
/-- R409 -/
def exec_bit_3_c (s : State) : Res := cbBit 3 .c s
/-- R409 -/
def exec_bit_3_d (s : State) : Res := cbBit 3 .d s
/-- R409 -/
def exec_bit_3_e (s : State) : Res := cbBit 3 .e s
/-- R409 -/
def exec_bit_3_h (s : State) : Res := cbBit 3 .h s
/-- R409 -/
def exec_bit_3_l (s : State) : Res := cbBit 3 .l s
/-- R409 -/
def exec_bit_3_hlm (s : State) : Res := cbBit 3 .hlm s
/-- R409 -/
def exec_bit_3_a (s : State) : Res := cbBit 3 .a s
/-- R409 -/
def exec_bit_4_b (s : State) : Res := cbBit 4 .b s
/-- R409 -/
def exec_bit_4_c (s : State) : Res := cbBit 4 .c s
/-- R409 -/
def exec_bit_4_d (s : State) : Res := cbBit 4 .d s
/-- R409 -/
def exec_bit_4_e (s : State) : Res := cbBit 4 .e s
/-- R409 -/
def exec_bit_4_h (s : State) : Res := cbBit 4 .h s
/-- R409 -/
def exec_bit_4_l (s : State) : Res := cbBit 4 .l s
/-- R409 -/
def exec_bit_4_hlm (s : State) : Res := cbBit 4 .hlm s
/-- R409 -/
def exec_bit_4_a (s : State) : Res := cbBit 4 .a s
/-- R409 -/
def exec_bit_5_b (s : State) : Res := cbBit 5 .b s
/-- R409 -/
def exec_bit_5_c (s : State) : Res := cbBit 5 .c s
/-- R409 -/
def exec_bit_5_d (s : State) : Res := cbBit 5 .d s
/-- R409 -/
def exec_bit_5_e (s : State) : Res := cbBit 5 .e s
/-- R409 -/
def exec_bit_5_h (s : State) : Res := cbBit 5 .h s
/-- R409 -/
def exec_bit_5_l (s : State) : Res := cbBit 5 .l s
/-- R409 -/
def exec_bit_5_hlm (s : State) : Res := cbBit 5 .hlm s
/-- R409 -/
def exec_bit_5_a (s : State) : Res := cbBit 5 .a s
/-- R409 -/
def exec_bit_6_b (s : State) : Res := cbBit 6 .b s
/-- R409 -/
def exec_bit_6_c (s : State) : Res := cbBit 6 .c s
/-- R409 -/
def exec_bit_6_d (s : State) : Res := cbBit 6 .d s
/-- R409 -/
def exec_bit_6_e (s : State) : Res := cbBit 6 .e s
/-- R409 -/
def exec_bit_6_h (s : State) : Res := cbBit 6 .h s
/-- R409 -/
def exec_bit_6_l (s : State) : Res := cbBit 6 .l s
/-- R409 -/
def exec_bit_6_hlm (s : State) : Res := cbBit 6 .hlm s
/-- R409 -/
def exec_bit_6_a (s : State) : Res := cbBit 6 .a s
/-- R409 -/
def exec_bit_7_b (s : State) : Res := cbBit 7 .b s
/-- R409 -/
def exec_bit_7_c (s : State) : Res := cbBit 7 .c s
/-- R409 -/
def exec_bit_7_d (s : State) : Res := cbBit 7 .d s
/-- R409 -/
def exec_bit_7_e (s : State) : Res := cbBit 7 .e s
/-- R409 -/
def exec_bit_7_h (s : State) : Res := cbBit 7 .h s
/-- R409 -/
def exec_bit_7_l (s : State) : Res := cbBit 7 .l s
/-- R409 -/
def exec_bit_7_hlm (s : State) : Res := cbBit 7 .hlm s
/-- R409 -/
def exec_bit_7_a (s : State) : Res := cbBit 7 .a s
/-- R410 -/
def exec_res_0_b (s : State) : Res := cbRes 0 .b s
/-- R410 -/
def exec_res_0_c (s : State) : Res := cbRes 0 .c s
/-- R410 -/
def exec_res_0_d (s : State) : Res := cbRes 0 .d s
/-- R410 -/
def exec_res_0_e (s : State) : Res := cbRes 0 .e s
/-- R410 -/
def exec_res_0_h (s : State) : Res := cbRes 0 .h s
/-- R410 -/
def exec_res_0_l (s : State) : Res := cbRes 0 .l s
/-- R410 -/
def exec_res_0_hlm (s : State) : Res := cbRes 0 .hlm s
/-- R410 -/
def exec_res_0_a (s : State) : Res := cbRes 0 .a s
/-- R410 -/
def exec_res_1_b (s : State) : Res := cbRes 1 .b s
/-- R410 -/
def exec_res_1_c (s : State) : Res := cbRes 1 .c s
/-- R410 -/
def exec_res_1_d (s : State) : Res := cbRes 1 .d s
/-- R410 -/
def exec_res_1_e (s : State) : Res := cbRes 1 .e s
/-- R410 -/
def exec_res_1_h (s : State) : Res := cbRes 1 .h s
/-- R410 -/
def exec_res_1_l (s : State) : Res := cbRes 1 .l s
/-- R410 -/
def exec_res_1_hlm (s : State) : Res := cbRes 1 .hlm s
/-- R410 -/
def exec_res_1_a (s : State) : Res := cbRes 1 .a s
/-- R410 -/
def exec_res_2_b (s : State) : Res := cbRes 2 .b s
/-- R410 -/
def exec_res_2_c (s : State) : Res := cbRes 2 .c s
/-- R410 -/
def exec_res_2_d (s : State) : Res := cbRes 2 .d s
/-- R410 -/
def exec_res_2_e (s : State) : Res := cbRes 2 .e s
/-- R410 -/
def exec_res_2_h (s : State) : Res := cbRes 2 .h s
/-- R410 -/
def exec_res_2_l (s : State) : Res := cbRes 2 .l s
/-- R410 -/
def exec_res_2_hlm (s : State) : Res := cbRes 2 .hlm s
/-- R410 -/
def exec_res_2_a (s : State) : Res := cbRes 2 .a s
/-- R410 -/
def exec_res_3_b (s : State) : Res := cbRes 3 .b s
/-- R410 -/
def exec_res_3_c (s : State) : Res := cbRes 3 .c s
/-- R410 -/
def exec_res_3_d (s : State) : Res := cbRes 3 .d s
/-- R410 -/
def exec_res_3_e (s : State) : Res := cbRes 3 .e s
/-- R410 -/
def exec_res_3_h (s : State) : Res := cbRes 3 .h s
/-- R410 -/
def exec_res_3_l (s : State) : Res := cbRes 3 .l s
/-- R410 -/
def exec_res_3_hlm (s : State) : Res := cbRes 3 .hlm s
/-- R410 -/
def exec_res_3_a (s : State) : Res := cbRes 3 .a s
/-- R410 -/
def exec_res_4_b (s : State) : Res := cbRes 4 .b s
/-- R410 -/
def exec_res_4_c (s : State) : Res := cbRes 4 .c s
/-- R410 -/
def exec_res_4_d (s : State) : Res := cbRes 4 .d s
/-- R410 -/
def exec_res_4_e (s : State) : Res := cbRes 4 .e s
/-- R410 -/
def exec_res_4_h (s : State) : Res := cbRes 4 .h s
/-- R410 -/
def exec_res_4_l (s : State) : Res := cbRes 4 .l s
/-- R410 -/
def exec_res_4_hlm (s : State) : Res := cbRes 4 .hlm s
/-- R410 -/
def exec_res_4_a (s : State) : Res := cbRes 4 .a s
/-- R410 -/
def exec_res_5_b (s : State) : Res := cbRes 5 .b s
/-- R410 -/
def exec_res_5_c (s : State) : Res := cbRes 5 .c s
/-- R410 -/
def exec_res_5_d (s : State) : Res := cbRes 5 .d s
/-- R410 -/
def exec_res_5_e (s : State) : Res := cbRes 5 .e s
/-- R410 -/
def exec_res_5_h (s : State) : Res := cbRes 5 .h s
/-- R410 -/
def exec_res_5_l (s : State) : Res := cbRes 5 .l s
/-- R410 -/
def exec_res_5_hlm (s : State) : Res := cbRes 5 .hlm s
/-- R410 -/
def exec_res_5_a (s : State) : Res := cbRes 5 .a s
/-- R410 -/
def exec_res_6_b (s : State) : Res := cbRes 6 .b s
/-- R410 -/
def exec_res_6_c (s : State) : Res := cbRes 6 .c s
/-- R410 -/
def exec_res_6_d (s : State) : Res := cbRes 6 .d s
/-- R410 -/
def exec_res_6_e (s : State) : Res := cbRes 6 .e s
/-- R410 -/
def exec_res_6_h (s : State) : Res := cbRes 6 .h s
/-- R410 -/
def exec_res_6_l (s : State) : Res := cbRes 6 .l s
/-- R410 -/
def exec_res_6_hlm (s : State) : Res := cbRes 6 .hlm s
/-- R410 -/
def exec_res_6_a (s : State) : Res := cbRes 6 .a s
/-- R410 -/
def exec_res_7_b (s : State) : Res := cbRes 7 .b s
/-- R410 -/
def exec_res_7_c (s : State) : Res := cbRes 7 .c s
/-- R410 -/
def exec_res_7_d (s : State) : Res := cbRes 7 .d s
/-- R410 -/
def exec_res_7_e (s : State) : Res := cbRes 7 .e s
/-- R410 -/
def exec_res_7_h (s : State) : Res := cbRes 7 .h s
/-- R410 -/
def exec_res_7_l (s : State) : Res := cbRes 7 .l s
/-- R410 -/
def exec_res_7_hlm (s : State) : Res := cbRes 7 .hlm s
/-- R410 -/
def exec_res_7_a (s : State) : Res := cbRes 7 .a s
/-- R411 -/
def exec_set_0_b (s : State) : Res := cbSet 0 .b s
/-- R411 -/
def exec_set_0_c (s : State) : Res := cbSet 0 .c s
/-- R411 -/
def exec_set_0_d (s : State) : Res := cbSet 0 .d s
/-- R411 -/
def exec_set_0_e (s : State) : Res := cbSet 0 .e s
/-- R411 -/
def exec_set_0_h (s : State) : Res := cbSet 0 .h s
/-- R411 -/
def exec_set_0_l (s : State) : Res := cbSet 0 .l s
/-- R411 -/
def exec_set_0_hlm (s : State) : Res := cbSet 0 .hlm s
/-- R411 -/
def exec_set_0_a (s : State) : Res := cbSet 0 .a s
/-- R411 -/
def exec_set_1_b (s : State) : Res := cbSet 1 .b s
/-- R411 -/
def exec_set_1_c (s : State) : Res := cbSet 1 .c s
/-- R411 -/
def exec_set_1_d (s : State) : Res := cbSet 1 .d s
/-- R411 -/
def exec_set_1_e (s : State) : Res := cbSet 1 .e s
/-- R411 -/
def exec_set_1_h (s : State) : Res := cbSet 1 .h s
/-- R411 -/
def exec_set_1_l (s : State) : Res := cbSet 1 .l s
/-- R411 -/
def exec_set_1_hlm (s : State) : Res := cbSet 1 .hlm s
/-- R411 -/
def exec_set_1_a (s : State) : Res := cbSet 1 .a s
/-- R411 -/
def exec_set_2_b (s : State) : Res := cbSet 2 .b s
/-- R411 -/
def exec_set_2_c (s : State) : Res := cbSet 2 .c s
/-- R411 -/
def exec_set_2_d (s : State) : Res := cbSet 2 .d s
/-- R411 -/
def exec_set_2_e (s : State) : Res := cbSet 2 .e s
/-- R411 -/
def exec_set_2_h (s : State) : Res := cbSet 2 .h s
/-- R411 -/
def exec_set_2_l (s : State) : Res := cbSet 2 .l s
/-- R411 -/
def exec_set_2_hlm (s : State) : Res := cbSet 2 .hlm s
/-- R411 -/
def exec_set_2_a (s : State) : Res := cbSet 2 .a s
/-- R411 -/
def exec_set_3_b (s : State) : Res := cbSet 3 .b s
/-- R411 -/
def exec_set_3_c (s : State) : Res := cbSet 3 .c s
/-- R411 -/
def exec_set_3_d (s : State) : Res := cbSet 3 .d s
/-- R411 -/
def exec_set_3_e (s : State) : Res := cbSet 3 .e s
/-- R411 -/
def exec_set_3_h (s : State) : Res := cbSet 3 .h s
/-- R411 -/
def exec_set_3_l (s : State) : Res := cbSet 3 .l s
/-- R411 -/
def exec_set_3_hlm (s : State) : Res := cbSet 3 .hlm s
/-- R411 -/
def exec_set_3_a (s : State) : Res := cbSet 3 .a s
/-- R411 -/
def exec_set_4_b (s : State) : Res := cbSet 4 .b s
/-- R411 -/
def exec_set_4_c (s : State) : Res := cbSet 4 .c s
/-- R411 -/
def exec_set_4_d (s : State) : Res := cbSet 4 .d s
/-- R411 -/
def exec_set_4_e (s : State) : Res := cbSet 4 .e s
/-- R411 -/
def exec_set_4_h (s : State) : Res := cbSet 4 .h s
/-- R411 -/
def exec_set_4_l (s : State) : Res := cbSet 4 .l s
/-- R411 -/
def exec_set_4_hlm (s : State) : Res := cbSet 4 .hlm s
/-- R411 -/
def exec_set_4_a (s : State) : Res := cbSet 4 .a s
/-- R411 -/
def exec_set_5_b (s : State) : Res := cbSet 5 .b s
/-- R411 -/
def exec_set_5_c (s : State) : Res := cbSet 5 .c s
/-- R411 -/
def exec_set_5_d (s : State) : Res := cbSet 5 .d s
/-- R411 -/
def exec_set_5_e (s : State) : Res := cbSet 5 .e s
/-- R411 -/
def exec_set_5_h (s : State) : Res := cbSet 5 .h s
/-- R411 -/
def exec_set_5_l (s : State) : Res := cbSet 5 .l s
/-- R411 -/
def exec_set_5_hlm (s : State) : Res := cbSet 5 .hlm s
/-- R411 -/
def exec_set_5_a (s : State) : Res := cbSet 5 .a s
/-- R411 -/
def exec_set_6_b (s : State) : Res := cbSet 6 .b s
/-- R411 -/
def exec_set_6_c (s : State) : Res := cbSet 6 .c s
/-- R411 -/
def exec_set_6_d (s : State) : Res := cbSet 6 .d s
/-- R411 -/
def exec_set_6_e (s : State) : Res := cbSet 6 .e s
/-- R411 -/
def exec_set_6_h (s : State) : Res := cbSet 6 .h s
/-- R411 -/
def exec_set_6_l (s : State) : Res := cbSet 6 .l s
/-- R411 -/
def exec_set_6_hlm (s : State) : Res := cbSet 6 .hlm s
/-- R411 -/
def exec_set_6_a (s : State) : Res := cbSet 6 .a s
/-- R411 -/
def exec_set_7_b (s : State) : Res := cbSet 7 .b s
/-- R411 -/
def exec_set_7_c (s : State) : Res := cbSet 7 .c s
/-- R411 -/
def exec_set_7_d (s : State) : Res := cbSet 7 .d s
/-- R411 -/
def exec_set_7_e (s : State) : Res := cbSet 7 .e s
/-- R411 -/
def exec_set_7_h (s : State) : Res := cbSet 7 .h s
/-- R411 -/
def exec_set_7_l (s : State) : Res := cbSet 7 .l s
/-- R411 -/
def exec_set_7_hlm (s : State) : Res := cbSet 7 .hlm s
/-- R411 -/
def exec_set_7_a (s : State) : Res := cbSet 7 .a s

end Sys2Proof.Machine
end

