-- ==== Sys2Proof/Machine/Cpu8Control.lean ====
section
/-! DEFINITION. CPU-8 control transfer and miscellaneous instructions (43_cpu8_control.md). PC is past the
instruction's bytes. -/

namespace Sys2Proof.Machine

/-- `PC <- a`. -/
def setPc8 (a : Half) (s : State) : State := on8 (fun c => { c with pc := a }) s

/-- NOP (R442). -/
def nop8 (s : State) : Res := finish8 4 s

/-- JP nn (R431). -/
def jumpAbs (nn : Half) (s : State) : Res := finish8 16 (setPc8 nn s)

/-- JP cc,nn (R432). -/
def jumpIf (cc : Cc) (nn : Half) (s : State) : Res :=
  if condPasses8 cc s.cpu8.f then finish8 16 (setPc8 nn s) else finish8 12 s

/-- JP (HL) (R433). -/
def jumpHl (s : State) : Res := finish8 4 (setPc8 s.cpu8.hl s)

/-- JR e (R434). -/
def jumpRel (e : Byte) (s : State) : Res := finish8 12 (setPc8 (s.cpu8.pc + e.signExtend 16) s)

/-- JR cc,e (R435). -/
def jumpRelIf (cc : Cc) (e : Byte) (s : State) : Res :=
  if condPasses8 cc s.cpu8.f then finish8 12 (setPc8 (s.cpu8.pc + e.signExtend 16) s) else finish8 8 s

/-- Push PC and jump (R436, R441). -/
def callTo (a : Half) (clocks : Nat) (s : State) : Res :=
  thenRes (push16 s.cpu8.pc s) fun s1 => finish8 clocks (setPc8 a s1)

/-- CALL nn (R436). -/
def call8 (nn : Half) (s : State) : Res := callTo nn 24 s

/-- CALL cc,nn (R437). -/
def callIf (cc : Cc) (nn : Half) (s : State) : Res :=
  if condPasses8 cc s.cpu8.f then callTo nn 24 s else finish8 12 s

/-- `PC <- Pop16()`. -/
def popPc (s : State) : State :=
  let r := pop16 s
  setPc8 r.1 r.2

/-- RET (R438). -/
def return8 (s : State) : Res := finish8 16 (popPc s)

/-- RET cc (R439). -/
def returnIf (cc : Cc) (s : State) : Res :=
  if condPasses8 cc s.cpu8.f then finish8 20 (popPc s) else finish8 8 s

/-- RETI (R440): IME is set at once, and a pending EI is cleared. -/
def returnInterrupt (s : State) : Res :=
  finish8 16 (on8 (fun c => { c with ime := true, eiPending := false }) (popPc s))

/-- RST t (R441). -/
def restart (t : BitVec 3) (s : State) : Res := callTo (BitVec.ofNat 16 (t.toNat * 8)) 16 s

/-- HALT (R443). -/
def halt8 (s : State) : Res := finish8 4 (on8 (fun c => { c with halted := true }) s)

/-- STOP (R444): armed, it switches the speed; otherwise the machine stops. The second byte is ignored. -/
def stop8 (s : State) : Res :=
  let p := s.params
  finish8 4 (on8 (fun c =>
    if p.colorMode = true ∧ c.speedArmed = true then
      { c with doubleSpeed := !c.doubleSpeed, speedArmed := false }
    else if p.stopResetsDiv then { c with stopped := true, div16 := 0 }
    else { c with stopped := true }) s)

/-- DI (R445). -/
def di8 (s : State) : Res := finish8 4 (on8 (fun c => { c with ime := false, eiPending := false }) s)

/-- EI (R446). -/
def ei8 (s : State) : Res :=
  let p := s.params
  finish8 4 (on8 (fun c => if p.eiDelay then { c with eiPending := true } else { c with ime := true }) s)

/-- The illegal opcodes (R447): the address of the opcode is one before PC. -/
def illegal8 (op : Byte) (s : State) : Res :=
  .fault (.undefinedOpcode op.toNat (s.cpu8.pc - 1).toNat)

/-! The meanings of the table's rows. -/

/-- R442 -/
def exec_nop (s : State) : Res := nop8 s
/-- R444 -/
def exec_stop (_ignored : Byte) (s : State) : Res := stop8 s
/-- R434 -/
def exec_jr_e (e : Byte) (s : State) : Res := jumpRel e s
/-- R435 -/
def exec_jr_nz_e (e : Byte) (s : State) : Res := jumpRelIf .nz e s
/-- R435 -/
def exec_jr_z_e (e : Byte) (s : State) : Res := jumpRelIf .z e s
/-- R435 -/
def exec_jr_nc_e (e : Byte) (s : State) : Res := jumpRelIf .nc e s
/-- R435 -/
def exec_jr_c_e (e : Byte) (s : State) : Res := jumpRelIf .c e s
/-- R443 -/
def exec_halt (s : State) : Res := halt8 s
/-- R439 -/
def exec_ret_nz (s : State) : Res := returnIf .nz s
/-- R432 -/
def exec_jp_nz_nn (nn : Half) (s : State) : Res := jumpIf .nz nn s
/-- R431 -/
def exec_jp_nn (nn : Half) (s : State) : Res := jumpAbs nn s
/-- R437 -/
def exec_call_nz_nn (nn : Half) (s : State) : Res := callIf .nz nn s
/-- R441 -/
def exec_rst_00h (s : State) : Res := restart 0 s
/-- R439 -/
def exec_ret_z (s : State) : Res := returnIf .z s
/-- R438 -/
def exec_ret (s : State) : Res := return8 s
/-- R432 -/
def exec_jp_z_nn (nn : Half) (s : State) : Res := jumpIf .z nn s
/-- R437 -/
def exec_call_z_nn (nn : Half) (s : State) : Res := callIf .z nn s
/-- R436 -/
def exec_call_nn (nn : Half) (s : State) : Res := call8 nn s
/-- R441 -/
def exec_rst_08h (s : State) : Res := restart 1 s
/-- R439 -/
def exec_ret_nc (s : State) : Res := returnIf .nc s
/-- R432 -/
def exec_jp_nc_nn (nn : Half) (s : State) : Res := jumpIf .nc nn s
/-- R447 -/
def exec_illegal_d3 (s : State) : Res := illegal8 0xD3#8 s
/-- R437 -/
def exec_call_nc_nn (nn : Half) (s : State) : Res := callIf .nc nn s
/-- R441 -/
def exec_rst_10h (s : State) : Res := restart 2 s
/-- R439 -/
def exec_ret_c (s : State) : Res := returnIf .c s
/-- R440 -/
def exec_reti (s : State) : Res := returnInterrupt s
/-- R432 -/
def exec_jp_c_nn (nn : Half) (s : State) : Res := jumpIf .c nn s
/-- R447 -/
def exec_illegal_db (s : State) : Res := illegal8 0xDB#8 s
/-- R437 -/
def exec_call_c_nn (nn : Half) (s : State) : Res := callIf .c nn s
/-- R447 -/
def exec_illegal_dd (s : State) : Res := illegal8 0xDD#8 s
/-- R441 -/
def exec_rst_18h (s : State) : Res := restart 3 s
/-- R447 -/
def exec_illegal_e3 (s : State) : Res := illegal8 0xE3#8 s
/-- R447 -/
def exec_illegal_e4 (s : State) : Res := illegal8 0xE4#8 s
/-- R441 -/
def exec_rst_20h (s : State) : Res := restart 4 s
/-- R433 -/
def exec_jp_hl (s : State) : Res := jumpHl s
/-- R447 -/
def exec_illegal_eb (s : State) : Res := illegal8 0xEB#8 s
/-- R447 -/
def exec_illegal_ec (s : State) : Res := illegal8 0xEC#8 s
/-- R447 -/
def exec_illegal_ed (s : State) : Res := illegal8 0xED#8 s
/-- R441 -/
def exec_rst_28h (s : State) : Res := restart 5 s
/-- R445 -/
def exec_di (s : State) : Res := di8 s
/-- R447 -/
def exec_illegal_f4 (s : State) : Res := illegal8 0xF4#8 s
/-- R441 -/
def exec_rst_30h (s : State) : Res := restart 6 s
/-- R446 -/
def exec_ei (s : State) : Res := ei8 s
/-- R447 -/
def exec_illegal_fc (s : State) : Res := illegal8 0xFC#8 s
/-- R447 -/
def exec_illegal_fd (s : State) : Res := illegal8 0xFD#8 s
/-- R441 -/
def exec_rst_38h (s : State) : Res := restart 7 s

end Sys2Proof.Machine
end

