-- ==== Sys2Proof/Machine/Cpu8Loads.lean ====
section
/-! DEFINITION. CPU-8 loads, stores and stack (40_cpu8_loads.md). Each meaning runs with PC past the instruction's
bytes (R34) and its immediates in the instruction. -/

namespace Sys2Proof.Machine

/-- LD r,r' and the (HL) forms (R301, R303, R304). -/
def load8 (dst src : R8) (s : State) : Res :=
  let r := readOperand8 src s
  thenRes (writeOperand8 dst r.1 r.2) (finish8 (if dst = .hlm ∨ src = .hlm then 8 else 4))

/-- LD r,n and LD (HL),n (R302, R305). -/
def loadImm (dst : R8) (n : Byte) (s : State) : Res :=
  thenRes (writeOperand8 dst n s) (finish8 (if dst = .hlm then 12 else 8))

/-- LD A,(rr), and the pair moved by `delta` after it (R306, R307, R317, R319). -/
def loadAAt (p : RP) (delta : Half) (s : State) : Res :=
  let r := read8 (s.cpu8.pairOf p) s
  finish8 8 (on8 (fun c => ({ c with a := r.1 }).setPair p (c.pairOf p + delta)) r.2)

/-- LD (rr),A, and the pair moved by `delta` after it (R308, R309, R316, R318). -/
def storeAAt (p : RP) (delta : Half) (s : State) : Res :=
  thenRes (write8 (s.cpu8.pairOf p) s.cpu8.a s) fun s1 =>
    finish8 8 (on8 (fun c => c.setPair p (c.pairOf p + delta)) s1)

/-- A load of A from an address (R310, R312, R314). -/
def loadAFrom (addr : Half) (clocks : Nat) (s : State) : Res :=
  let r := read8 addr s
  finish8 clocks (on8 (fun c => { c with a := r.1 }) r.2)

/-- A store of A to an address (R311, R313, R315). -/
def storeATo (addr : Half) (clocks : Nat) (s : State) : Res :=
  thenRes (write8 addr s.cpu8.a s) (finish8 clocks)

/-- LD A,(nn) (R310). -/
def loadAAbs (nn : Half) (s : State) : Res := loadAFrom nn 16 s

/-- LD (nn),A (R311). -/
def storeAAbs (nn : Half) (s : State) : Res := storeATo nn 16 s

/-- The high page: `0xFF00 | n` (R203). -/
def highPage (n : Byte) : Half := 0xFF#8 ++ n

/-- LDH A,(n) (R312). -/
def loadHigh (n : Byte) (s : State) : Res := loadAFrom (highPage n) 12 s

/-- LDH (n),A (R313). -/
def storeHigh (n : Byte) (s : State) : Res := storeATo (highPage n) 12 s

/-- LD A,(C) (R314). -/
def loadHighC (s : State) : Res := loadAFrom (highPage s.cpu8.c) 8 s

/-- LD (C),A (R315). -/
def storeHighC (s : State) : Res := storeATo (highPage s.cpu8.c) 8 s

/-- LD rr,nn (R321). -/
def loadPairImm (p : RP) (nn : Half) (s : State) : Res := finish8 12 (on8 (fun c => c.setPair p nn) s)

/-- LD (nn),SP (R322): the low byte first. -/
def storeSp (nn : Half) (s : State) : Res :=
  thenRes (write8 nn (loByte s.cpu8.sp) s) fun s1 =>
    thenRes (write8 (nn + 1) (hiByte s1.cpu8.sp) s1) (finish8 20)

/-- LD SP,HL (R323). -/
def loadSpHl (s : State) : Res := finish8 8 (on8 (fun c => { c with sp := c.hl }) s)

/-- LD HL,SP+e (R324). -/
def loadHlSp (e : Byte) (s : State) : Res :=
  let r := addSpResult s.cpu8.sp e
  finish8 12 (on8 (fun c => (c.setPair .hl r.1).setF r.2) s)

/-- PUSH qq (R325). -/
def pushPair (q : QQ) (s : State) : Res := thenRes (push16 (s.cpu8.stackPair q) s) (finish8 16)

/-- POP qq (R326). -/
def popPair (q : QQ) (s : State) : Res :=
  let r := pop16 s
  finish8 12 (on8 (fun c => c.setStackPair q r.1) r.2)

/-! The meanings of the table's rows. -/

/-- R321 -/
def exec_ld_bc_nn (nn : Half) (s : State) : Res := loadPairImm .bc nn s
/-- R308 -/
def exec_ld_bcm_a (s : State) : Res := storeAAt .bc 0 s
/-- R302 -/
def exec_ld_b_n (n : Byte) (s : State) : Res := loadImm .b n s
/-- R322 -/
def exec_ld_nnm_sp (nn : Half) (s : State) : Res := storeSp nn s
/-- R306 -/
def exec_ld_a_bcm (s : State) : Res := loadAAt .bc 0 s
/-- R302 -/
def exec_ld_c_n (n : Byte) (s : State) : Res := loadImm .c n s
/-- R321 -/
def exec_ld_de_nn (nn : Half) (s : State) : Res := loadPairImm .de nn s
/-- R309 -/
def exec_ld_dem_a (s : State) : Res := storeAAt .de 0 s
/-- R302 -/
def exec_ld_d_n (n : Byte) (s : State) : Res := loadImm .d n s
/-- R307 -/
def exec_ld_a_dem (s : State) : Res := loadAAt .de 0 s
/-- R302 -/
def exec_ld_e_n (n : Byte) (s : State) : Res := loadImm .e n s
/-- R321 -/
def exec_ld_hl_nn (nn : Half) (s : State) : Res := loadPairImm .hl nn s
/-- R316 -/
def exec_ld_hli_a (s : State) : Res := storeAAt .hl 1 s
/-- R302 -/
def exec_ld_h_n (n : Byte) (s : State) : Res := loadImm .h n s
/-- R317 -/
def exec_ld_a_hli (s : State) : Res := loadAAt .hl 1 s
/-- R302 -/
def exec_ld_l_n (n : Byte) (s : State) : Res := loadImm .l n s
/-- R321 -/
def exec_ld_sp_nn (nn : Half) (s : State) : Res := loadPairImm .sp nn s
/-- R318 -/
def exec_ld_hld_a (s : State) : Res := storeAAt .hl (-1) s
/-- R305 -/
def exec_ld_hlm_n (n : Byte) (s : State) : Res := loadImm .hlm n s
/-- R319 -/
def exec_ld_a_hld (s : State) : Res := loadAAt .hl (-1) s
/-- R302 -/
def exec_ld_a_n (n : Byte) (s : State) : Res := loadImm .a n s
/-- R301 -/
def exec_ld_b_b (s : State) : Res := load8 .b .b s
/-- R301 -/
def exec_ld_b_c (s : State) : Res := load8 .b .c s
/-- R301 -/
def exec_ld_b_d (s : State) : Res := load8 .b .d s
/-- R301 -/
def exec_ld_b_e (s : State) : Res := load8 .b .e s
/-- R301 -/
def exec_ld_b_h (s : State) : Res := load8 .b .h s
/-- R301 -/
def exec_ld_b_l (s : State) : Res := load8 .b .l s
/-- R303 -/
def exec_ld_b_hlm (s : State) : Res := load8 .b .hlm s
/-- R301 -/
def exec_ld_b_a (s : State) : Res := load8 .b .a s
/-- R301 -/
def exec_ld_c_b (s : State) : Res := load8 .c .b s
/-- R301 -/
def exec_ld_c_c (s : State) : Res := load8 .c .c s
/-- R301 -/
def exec_ld_c_d (s : State) : Res := load8 .c .d s
/-- R301 -/
def exec_ld_c_e (s : State) : Res := load8 .c .e s
/-- R301 -/
def exec_ld_c_h (s : State) : Res := load8 .c .h s
/-- R301 -/
def exec_ld_c_l (s : State) : Res := load8 .c .l s
/-- R303 -/
def exec_ld_c_hlm (s : State) : Res := load8 .c .hlm s
/-- R301 -/
def exec_ld_c_a (s : State) : Res := load8 .c .a s
/-- R301 -/
def exec_ld_d_b (s : State) : Res := load8 .d .b s
/-- R301 -/
def exec_ld_d_c (s : State) : Res := load8 .d .c s
/-- R301 -/
def exec_ld_d_d (s : State) : Res := load8 .d .d s
/-- R301 -/
def exec_ld_d_e (s : State) : Res := load8 .d .e s
/-- R301 -/
def exec_ld_d_h (s : State) : Res := load8 .d .h s
/-- R301 -/
def exec_ld_d_l (s : State) : Res := load8 .d .l s
/-- R303 -/
def exec_ld_d_hlm (s : State) : Res := load8 .d .hlm s
/-- R301 -/
def exec_ld_d_a (s : State) : Res := load8 .d .a s
/-- R301 -/
def exec_ld_e_b (s : State) : Res := load8 .e .b s
/-- R301 -/
def exec_ld_e_c (s : State) : Res := load8 .e .c s
/-- R301 -/
def exec_ld_e_d (s : State) : Res := load8 .e .d s
/-- R301 -/
def exec_ld_e_e (s : State) : Res := load8 .e .e s
/-- R301 -/
def exec_ld_e_h (s : State) : Res := load8 .e .h s
/-- R301 -/
def exec_ld_e_l (s : State) : Res := load8 .e .l s
/-- R303 -/
def exec_ld_e_hlm (s : State) : Res := load8 .e .hlm s
/-- R301 -/
def exec_ld_e_a (s : State) : Res := load8 .e .a s
/-- R301 -/
def exec_ld_h_b (s : State) : Res := load8 .h .b s
/-- R301 -/
def exec_ld_h_c (s : State) : Res := load8 .h .c s
/-- R301 -/
def exec_ld_h_d (s : State) : Res := load8 .h .d s
/-- R301 -/
def exec_ld_h_e (s : State) : Res := load8 .h .e s
/-- R301 -/
def exec_ld_h_h (s : State) : Res := load8 .h .h s
/-- R301 -/
def exec_ld_h_l (s : State) : Res := load8 .h .l s
/-- R303 -/
def exec_ld_h_hlm (s : State) : Res := load8 .h .hlm s
/-- R301 -/
def exec_ld_h_a (s : State) : Res := load8 .h .a s
/-- R301 -/
def exec_ld_l_b (s : State) : Res := load8 .l .b s
/-- R301 -/
def exec_ld_l_c (s : State) : Res := load8 .l .c s
/-- R301 -/
def exec_ld_l_d (s : State) : Res := load8 .l .d s
/-- R301 -/
def exec_ld_l_e (s : State) : Res := load8 .l .e s
/-- R301 -/
def exec_ld_l_h (s : State) : Res := load8 .l .h s
/-- R301 -/
def exec_ld_l_l (s : State) : Res := load8 .l .l s
/-- R303 -/
def exec_ld_l_hlm (s : State) : Res := load8 .l .hlm s
/-- R301 -/
def exec_ld_l_a (s : State) : Res := load8 .l .a s
/-- R304 -/
def exec_ld_hlm_b (s : State) : Res := load8 .hlm .b s
/-- R304 -/
def exec_ld_hlm_c (s : State) : Res := load8 .hlm .c s
/-- R304 -/
def exec_ld_hlm_d (s : State) : Res := load8 .hlm .d s
/-- R304 -/
def exec_ld_hlm_e (s : State) : Res := load8 .hlm .e s
/-- R304 -/
def exec_ld_hlm_h (s : State) : Res := load8 .hlm .h s
/-- R304 -/
def exec_ld_hlm_l (s : State) : Res := load8 .hlm .l s
/-- R304 -/
def exec_ld_hlm_a (s : State) : Res := load8 .hlm .a s
/-- R301 -/
def exec_ld_a_b (s : State) : Res := load8 .a .b s
/-- R301 -/
def exec_ld_a_c (s : State) : Res := load8 .a .c s
/-- R301 -/
def exec_ld_a_d (s : State) : Res := load8 .a .d s
/-- R301 -/
def exec_ld_a_e (s : State) : Res := load8 .a .e s
/-- R301 -/
def exec_ld_a_h (s : State) : Res := load8 .a .h s
/-- R301 -/
def exec_ld_a_l (s : State) : Res := load8 .a .l s
/-- R303 -/
def exec_ld_a_hlm (s : State) : Res := load8 .a .hlm s
/-- R301 -/
def exec_ld_a_a (s : State) : Res := load8 .a .a s
/-- R326 -/
def exec_pop_bc (s : State) : Res := popPair .bc s
/-- R325 -/
def exec_push_bc (s : State) : Res := pushPair .bc s
/-- R326 -/
def exec_pop_de (s : State) : Res := popPair .de s
/-- R325 -/
def exec_push_de (s : State) : Res := pushPair .de s
/-- R313 -/
def exec_ldh_nm_a (n : Byte) (s : State) : Res := storeHigh n s
/-- R326 -/
def exec_pop_hl (s : State) : Res := popPair .hl s
/-- R315 -/
def exec_ld_cm_a (s : State) : Res := storeHighC s
/-- R325 -/
def exec_push_hl (s : State) : Res := pushPair .hl s
/-- R311 -/
def exec_ld_nnm_a (nn : Half) (s : State) : Res := storeAAbs nn s
/-- R312 -/
def exec_ldh_a_nm (n : Byte) (s : State) : Res := loadHigh n s
/-- R326 -/
def exec_pop_af (s : State) : Res := popPair .af s
/-- R314 -/
def exec_ld_a_cm (s : State) : Res := loadHighC s
/-- R325 -/
def exec_push_af (s : State) : Res := pushPair .af s
/-- R324 -/
def exec_ld_hl_sp_e (e : Byte) (s : State) : Res := loadHlSp e s
/-- R323 -/
def exec_ld_sp_hl (s : State) : Res := loadSpHl s
/-- R310 -/
def exec_ld_a_nnm (nn : Half) (s : State) : Res := loadAAbs nn s

end Sys2Proof.Machine
end

