-- ==== Sys2Proof/Machine/ThumbAlu.lean ====
section
/-! DEFINITION. THUMB formats 1 to 5, 12 and 13: moves, arithmetic and addresses (47_thumb.md). -/

namespace Sys2Proof.Machine

/-- Write a result to a low register, set the flags, and end (R630, R836). -/
def thumbResult (rd : LowReg) (r : Word × Bool × Bool) (extra : Nat) (s : State) : Res :=
  retire extra (setPsr (fun p => p.setFlags r.1 r.2.1 r.2.2) (writeReg (low rd) r.1 s))

/-- Set the flags only, and end (R639, R650, R652, R653, R659). -/
def thumbTest (r : Word × Bool × Bool) (s : State) : Res :=
  retire 0 (setPsr (fun p => p.setFlags r.1 r.2.1 r.2.2) s)

/-- Format 1 (R631 to R633). -/
def thumbShiftImm (kind : Shift) (rd rs : LowReg) (amount : BitVec 5) (s : State) : Res :=
  let p := s.cpu32.cpsr
  let x := shiftImm kind (readReg (low rs) s) amount.toNat p.c
  thumbResult rd (x.1, x.2, p.v) 0 s

/-- Format 2, register (R634, R635). -/
def thumbAddSubReg (op : DpOp) (rd rs rn : LowReg) (s : State) : Res :=
  let p := s.cpu32.cpsr
  thumbResult rd (dpResult op (readReg (low rs) s) (readReg (low rn) s) p.c p) 0 s

/-- Format 2, immediate (R636, R637). -/
def thumbAddSubImm (op : DpOp) (rd rs : LowReg) (imm : BitVec 3) (s : State) : Res :=
  let p := s.cpu32.cpsr
  thumbResult rd (dpResult op (readReg (low rs) s) (imm.setWidth 32) p.c p) 0 s

/-- Format 3 (R638 to R641). -/
def thumbImm8 (op : DpOp) (rd : LowReg) (imm : Byte) (s : State) : Res :=
  let p := s.cpu32.cpsr
  let r := dpResult op (readReg (low rd) s) (imm.setWidth 32) p.c p
  if isTestOp op then thumbTest r s else thumbResult rd r 0 s

/-- Format 4 but for the shifts, NEG and MUL (R642 to R657). -/
def thumbAlu (op : DpOp) (rd rs : LowReg) (s : State) : Res :=
  let p := s.cpu32.cpsr
  let r := dpResult op (readReg (low rd) s) (readReg (low rs) s) p.c p
  if isTestOp op then thumbTest r s else thumbResult rd r 0 s

/-- Format 4 shifts by a register (R644 to R646, R649): one I cycle more. -/
def thumbShiftReg (kind : Shift) (rd rs : LowReg) (s : State) : Res :=
  let p := s.cpu32.cpsr
  let x := shiftReg kind (readReg (low rd) s) ((readReg (low rs) s).toNat % 256) p.c
  thumbResult rd (x.1, x.2, p.v) 1 s

/-- NEG (R651). -/
def thumbNegate (rd rs : LowReg) (s : State) : Res :=
  thumbResult rd (addC 0 (~~~(readReg (low rs) s)) true) 0 s

/-- MUL (R655): the cost counts the original Rd. -/
def thumbMultiply (rd rs : LowReg) (s : State) : Res :=
  let d := readReg (low rd) s
  thumbResult rd (d * readReg (low rs) s, false, s.cpu32.cpsr.v) (multiplyCycles d) s

/-- Format 5 ADD, CMP and MOV need a high register (R222). -/
def highChecked (hd hs : RegNum) (body : State → Res) (s : State) : Res :=
  if hd.toNat < 8 ∧ hs.toNat < 8 then unpredictable .twoLowRegisters s else body s

/-- A high register write (R658, R660). -/
def writeHigh (hd : RegNum) (v : Word) (s : State) : Res :=
  if hd = 15#4 then writePcValue v s else retire 0 (writeReg hd v s)

/-- ADD Hd, Hs (R658). -/
def thumbAddHigh (hd hs : RegNum) (s : State) : Res :=
  highChecked hd hs (fun s => writeHigh hd (readReg hd s + readReg hs s) s) s

/-- CMP Hd, Hs (R659). -/
def thumbCompareHigh (hd hs : RegNum) (s : State) : Res :=
  highChecked hd hs (fun s => thumbTest (addC (readReg hd s) (~~~(readReg hs s)) true) s) s

/-- MOV Hd, Hs (R660). -/
def thumbMoveHigh (hd hs : RegNum) (s : State) : Res :=
  highChecked hd hs (fun s => writeHigh hd (readReg hs s) s) s

/-- The word-aligned PC of formats 6 and 12 (R52, R630). -/
def thumbPcBase (s : State) : Word := (s.cpu32.pc + 4) &&& ~~~3#32

/-- A byte immediate times four (R221). -/
def scaled4 (imm : Byte) : Word := imm.setWidth 32 <<< 2

/-- ADD Rd, PC, #imm (R679). -/
def thumbAddressPc (rd : LowReg) (imm : Byte) (s : State) : Res :=
  retire 0 (writeReg (low rd) (thumbPcBase s + scaled4 imm) s)

/-- ADD Rd, SP, #imm (R680). -/
def thumbAddressSp (rd : LowReg) (imm : Byte) (s : State) : Res :=
  retire 0 (writeReg (low rd) (readReg 13#4 s + scaled4 imm) s)

/-- ADD SP, #±imm (R681). -/
def thumbAdjust (down : Bool) (imm : BitVec 7) (s : State) : Res :=
  let k : Word := imm.setWidth 32 <<< 2
  retire 0 (writeReg 13#4 (if down then readReg 13#4 s - k else readReg 13#4 s + k) s)

/-! The meanings of the table's rows. -/

/-- R631 -/
def execThumbLslImm (rd : LowReg) (rs : LowReg) (amount : BitVec 5) (s : State) : Res := thumbShiftImm .lsl rd rs amount s
/-- R632 -/
def execThumbLsrImm (rd : LowReg) (rs : LowReg) (amount : BitVec 5) (s : State) : Res := thumbShiftImm .lsr rd rs amount s
/-- R633 -/
def execThumbAsrImm (rd : LowReg) (rs : LowReg) (amount : BitVec 5) (s : State) : Res := thumbShiftImm .asr rd rs amount s
/-- R634 -/
def execThumbAddReg (rd : LowReg) (rs : LowReg) (rn : LowReg) (s : State) : Res := thumbAddSubReg .add rd rs rn s
/-- R635 -/
def execThumbSubReg (rd : LowReg) (rs : LowReg) (rn : LowReg) (s : State) : Res := thumbAddSubReg .sub rd rs rn s
/-- R636 -/
def execThumbAddImm3 (rd : LowReg) (rs : LowReg) (imm : BitVec 3) (s : State) : Res := thumbAddSubImm .add rd rs imm s
/-- R637 -/
def execThumbSubImm3 (rd : LowReg) (rs : LowReg) (imm : BitVec 3) (s : State) : Res := thumbAddSubImm .sub rd rs imm s
/-- R638 -/
def execThumbMovImm (rd : LowReg) (imm : Byte) (s : State) : Res := thumbImm8 .mov rd imm s
/-- R639 -/
def execThumbCmpImm (rd : LowReg) (imm : Byte) (s : State) : Res := thumbImm8 .cmp rd imm s
/-- R640 -/
def execThumbAddImm8 (rd : LowReg) (imm : Byte) (s : State) : Res := thumbImm8 .add rd imm s
/-- R641 -/
def execThumbSubImm8 (rd : LowReg) (imm : Byte) (s : State) : Res := thumbImm8 .sub rd imm s
/-- R642 -/
def execThumbAnd (rd : LowReg) (rs : LowReg) (s : State) : Res := thumbAlu .and rd rs s
/-- R643 -/
def execThumbEor (rd : LowReg) (rs : LowReg) (s : State) : Res := thumbAlu .eor rd rs s
/-- R644 -/
def execThumbLsl (rd : LowReg) (rs : LowReg) (s : State) : Res := thumbShiftReg .lsl rd rs s
/-- R645 -/
def execThumbLsr (rd : LowReg) (rs : LowReg) (s : State) : Res := thumbShiftReg .lsr rd rs s
/-- R646 -/
def execThumbAsr (rd : LowReg) (rs : LowReg) (s : State) : Res := thumbShiftReg .asr rd rs s
/-- R647 -/
def execThumbAdc (rd : LowReg) (rs : LowReg) (s : State) : Res := thumbAlu .adc rd rs s
/-- R648 -/
def execThumbSbc (rd : LowReg) (rs : LowReg) (s : State) : Res := thumbAlu .sbc rd rs s
/-- R649 -/
def execThumbRor (rd : LowReg) (rs : LowReg) (s : State) : Res := thumbShiftReg .ror rd rs s
/-- R650 -/
def execThumbTst (rd : LowReg) (rs : LowReg) (s : State) : Res := thumbAlu .tst rd rs s
/-- R651 -/
def execThumbNeg (rd : LowReg) (rs : LowReg) (s : State) : Res := thumbNegate rd rs s
/-- R652 -/
def execThumbCmp (rd : LowReg) (rs : LowReg) (s : State) : Res := thumbAlu .cmp rd rs s
/-- R653 -/
def execThumbCmn (rd : LowReg) (rs : LowReg) (s : State) : Res := thumbAlu .cmn rd rs s
/-- R654 -/
def execThumbOrr (rd : LowReg) (rs : LowReg) (s : State) : Res := thumbAlu .orr rd rs s
/-- R655 -/
def execThumbMul (rd : LowReg) (rs : LowReg) (s : State) : Res := thumbMultiply rd rs s
/-- R656 -/
def execThumbBic (rd : LowReg) (rs : LowReg) (s : State) : Res := thumbAlu .bic rd rs s
/-- R657 -/
def execThumbMvn (rd : LowReg) (rs : LowReg) (s : State) : Res := thumbAlu .mvn rd rs s
/-- R658 -/
def execThumbAddHi (hd : RegNum) (hs : RegNum) (s : State) : Res := thumbAddHigh hd hs s
/-- R659 -/
def execThumbCmpHi (hd : RegNum) (hs : RegNum) (s : State) : Res := thumbCompareHigh hd hs s
/-- R660 -/
def execThumbMovHi (hd : RegNum) (hs : RegNum) (s : State) : Res := thumbMoveHigh hd hs s
/-- R679 -/
def execThumbAddPc (rd : LowReg) (imm : Byte) (s : State) : Res := thumbAddressPc rd imm s
/-- R680 -/
def execThumbAddSp (rd : LowReg) (imm : Byte) (s : State) : Res := thumbAddressSp rd imm s
/-- R681 -/
def execThumbAdjustSp (down : Bool) (imm : BitVec 7) (s : State) : Res := thumbAdjust down imm s

end Sys2Proof.Machine
end

