-- ==== Sys2Proof/Machine/ThumbControl.lean ====
section
/-! DEFINITION. THUMB branches, SWI and the undefined spaces (47_thumb.md section 10; 30_encoding.md R222). -/

namespace Sys2Proof.Machine

/-- BX Hs (R661). -/
def thumbBranchExchange (hs : RegNum) (s : State) : Res :=
  jumpTo ((readReg hs s).getLsbD 0) (readReg hs s) s

/-- B<cond> (R686). -/
def thumbBranchCond (cond : Cond) (offset : Byte) (s : State) : Res :=
  ifCond cond (fun s =>
    jumpTo s.cpu32.cpsr.t (s.cpu32.pc + 4 + (offset.signExtend 32 <<< 1)) s) s

/-- B (R688). -/
def thumbBranch (offset : BitVec 11) (s : State) : Res :=
  jumpTo s.cpu32.cpsr.t (s.cpu32.pc + 4 + (offset.signExtend 32 <<< 1)) s

/-- SWI (R687, R743). -/
def thumbSoftwareInterrupt (s : State) : Res := enterAt .svc 0x08#32 (s.cpu32.pc + 2) s

/-- BL first half (R689). -/
def thumbLongBranchFirst (offset : BitVec 11) (s : State) : Res :=
  retire 0 (writeReg 14#4 (s.cpu32.pc + 4 + (offset.signExtend 32 <<< 12)) s)

/-- BL second half (R690). -/
def thumbLongBranchSecond (offset : BitVec 11) (s : State) : Res :=
  let target := readReg 14#4 s + (offset.setWidth 32 <<< 1)
  jumpTo s.cpu32.cpsr.t target (writeReg 14#4 ((s.cpu32.pc + 2) ||| 1#32) s)

/-! The meanings of the table's rows. -/

/-- R661 -/
def execThumbBx (hs : RegNum) (s : State) : Res := thumbBranchExchange hs s
/-- R222 -/
def execThumbUndefBlx (w : Half) (s : State) : Res := undefinedAlways w.toNat s
/-- R222 -/
def execThumbUndefB1 (w : Half) (s : State) : Res := undefinedAlways w.toNat s
/-- R222 -/
def execThumbUndefB2 (w : Half) (s : State) : Res := undefinedAlways w.toNat s
/-- R222 -/
def execThumbUndefB6 (w : Half) (s : State) : Res := undefinedAlways w.toNat s
/-- R222 -/
def execThumbUndefB8 (w : Half) (s : State) : Res := undefinedAlways w.toNat s
/-- R222 -/
def execThumbUndefBE (w : Half) (s : State) : Res := undefinedAlways w.toNat s
/-- R222 -/
def execThumbUndefCond14 (w : Half) (s : State) : Res := undefinedAlways w.toNat s
/-- R687 -/
def execThumbSwi (_comment : Byte) (s : State) : Res := thumbSoftwareInterrupt s
/-- R686 -/
def execThumbBCond (cond : Cond) (offset : Byte) (s : State) : Res := thumbBranchCond cond offset s
/-- R688 -/
def execThumbB (offset : BitVec 11) (s : State) : Res := thumbBranch offset s
/-- R222 -/
def execThumbUndefE8 (w : Half) (s : State) : Res := undefinedAlways w.toNat s
/-- R689 -/
def execThumbBlHi (offset : BitVec 11) (s : State) : Res := thumbLongBranchFirst offset s
/-- R690 -/
def execThumbBlLo (offset : BitVec 11) (s : State) : Res := thumbLongBranchSecond offset s

end Sys2Proof.Machine
end

