-- ==== Sys2Proof/Machine/ThumbMemory.lean ====
section
/-! DEFINITION. THUMB loads, stores, push, pop and multiple transfers (47_thumb.md, formats 6 to 11, 14, 15). -/

namespace Sys2Proof.Machine

/-- A THUMB load (R662 to R678). -/
def thumbLoad (k : LoadKind) (rd : LowReg) (addr : Word) (s : State) : Res :=
  let r := loadValue k addr s
  finishLoad (low rd) r.1 r.2

/-- A THUMB store (R663 to R677). -/
def thumbStore (w : Width) (rd : LowReg) (addr : Word) (s : State) : Res :=
  thenRes (storeData false w addr (readReg (low rd) s) s) retireStore

/-- LDR Rd, [PC, #imm] (R662). -/
def thumbLoadPc (rd : LowReg) (imm : Byte) (s : State) : Res :=
  thumbLoad .word rd (thumbPcBase s + scaled4 imm) s

/-- Formats 7 and 8, loads (R665, R666, R668 to R670). -/
def thumbLoadReg (k : LoadKind) (rd rb ro : LowReg) (s : State) : Res :=
  thumbLoad k rd (readReg (low rb) s + readReg (low ro) s) s

/-- Formats 7 and 8, stores (R663, R664, R667). -/
def thumbStoreReg (w : Width) (rd rb ro : LowReg) (s : State) : Res :=
  thumbStore w rd (readReg (low rb) s + readReg (low ro) s) s

/-- A 5-bit offset scaled by the access width (R221, formats 9 and 10). -/
def scaled5 (w : Width) (imm : BitVec 5) : Word := BitVec.ofNat 32 (imm.toNat * w.bytes)

/-- The access width of a load. -/
def LoadKind.width : LoadKind → Width
  | .word => .word
  | .unsignedByte => .byte
  | .signedByte => .byte
  | .unsignedHalf => .half
  | .signedHalf => .half

/-- Formats 9 and 10, loads (R672, R674, R676). -/
def thumbLoadImm (k : LoadKind) (rd rb : LowReg) (imm : BitVec 5) (s : State) : Res :=
  thumbLoad k rd (readReg (low rb) s + scaled5 k.width imm) s

/-- Formats 9 and 10, stores (R671, R673, R675). -/
def thumbStoreImm (w : Width) (rd rb : LowReg) (imm : BitVec 5) (s : State) : Res :=
  thumbStore w rd (readReg (low rb) s + scaled5 w imm) s

/-- LDR Rd, [SP, #imm] (R678). -/
def thumbLoadSp (rd : LowReg) (imm : Byte) (s : State) : Res :=
  thumbLoad .word rd (readReg 13#4 s + scaled4 imm) s

/-- STR Rd, [SP, #imm] (R677). -/
def thumbStoreSp (rd : LowReg) (imm : Byte) (s : State) : Res :=
  thumbStore .word rd (readReg 13#4 s + scaled4 imm) s

/-- 4n for a register list. -/
def listBytes (regs : List RegNum) : Word := BitVec.ofNat 32 (4 * regs.length)

/-- The registers of PUSH: the list, then LR (R682). -/
def pushList (lr : Bool) (list : Byte) : List RegNum :=
  listedRegs list.toNat ++ (if lr then [14#4] else [])

/-- The registers of POP: the list, then PC (R683). -/
def popList (toPc : Bool) (list : Byte) : List RegNum :=
  listedRegs list.toNat ++ (if toPc then [15#4] else [])

/-- An empty list is unpredictable (R682 to R685, D53). -/
def listChecked (regs : List RegNum) (body : State → Res) (s : State) : Res :=
  if regs = [] then unpredictable .emptyThumbList s else body s

/-- PUSH (R682): SP is written after the transfers. -/
def thumbPushRegs (lr : Bool) (list : Byte) (s : State) : Res :=
  let regs := pushList lr list
  listChecked regs (fun s =>
    let a := readReg 13#4 s - listBytes regs
    thenRes (storeRegs readReg (fun s => s) true regs a s) fun s1 => retireStore (writeReg 13#4 a s1)) s

/-- POP (R683): SP is written after the transfers, and PC last. -/
def thumbPopRegs (toPc : Bool) (list : Byte) (s : State) : Res :=
  let regs := popList toPc list
  listChecked regs (fun s =>
    let a := readReg 13#4 s
    let r := loadRegs writeReg (fun s => s) true regs a s
    let s1 := charge 1 (writeReg 13#4 (a + listBytes regs) r.2)
    if toPc then writePcValue r.1 s1 else retire 0 s1) s

/-- STMIA Rb! (R684): Rb is written after the first transfer. -/
def thumbStoreMultiple (rb : LowReg) (list : Byte) (s : State) : Res :=
  let regs := listedRegs list.toNat
  listChecked regs (fun s =>
    let a := readReg (low rb) s
    thenRes (storeRegs readReg (writeReg (low rb) (a + listBytes regs)) true regs a s) retireStore) s

/-- LDMIA Rb! (R685): a base in the list keeps the loaded value. -/
def thumbLoadMultiple (rb : LowReg) (list : Byte) (s : State) : Res :=
  let regs := listedRegs list.toNat
  listChecked regs (fun s =>
    let a := readReg (low rb) s
    let r := loadRegs writeReg (fun s => s) true regs a s
    retire 1 (if low rb ∈ regs then r.2 else writeReg (low rb) (a + listBytes regs) r.2)) s

/-! The meanings of the table's rows. -/

/-- R662 -/
def execThumbLdrPc (rd : LowReg) (imm : Byte) (s : State) : Res := thumbLoadPc rd imm s
/-- R663 -/
def execThumbStrReg (rd : LowReg) (rb : LowReg) (ro : LowReg) (s : State) : Res := thumbStoreReg .word rd rb ro s
/-- R664 -/
def execThumbStrbReg (rd : LowReg) (rb : LowReg) (ro : LowReg) (s : State) : Res := thumbStoreReg .byte rd rb ro s
/-- R665 -/
def execThumbLdrReg (rd : LowReg) (rb : LowReg) (ro : LowReg) (s : State) : Res := thumbLoadReg .word rd rb ro s
/-- R666 -/
def execThumbLdrbReg (rd : LowReg) (rb : LowReg) (ro : LowReg) (s : State) : Res := thumbLoadReg .unsignedByte rd rb ro s
/-- R667 -/
def execThumbStrhReg (rd : LowReg) (rb : LowReg) (ro : LowReg) (s : State) : Res := thumbStoreReg .half rd rb ro s
/-- R668 -/
def execThumbLdsbReg (rd : LowReg) (rb : LowReg) (ro : LowReg) (s : State) : Res := thumbLoadReg .signedByte rd rb ro s
/-- R669 -/
def execThumbLdrhReg (rd : LowReg) (rb : LowReg) (ro : LowReg) (s : State) : Res := thumbLoadReg .unsignedHalf rd rb ro s
/-- R670 -/
def execThumbLdshReg (rd : LowReg) (rb : LowReg) (ro : LowReg) (s : State) : Res := thumbLoadReg .signedHalf rd rb ro s
/-- R671 -/
def execThumbStrImm (rd : LowReg) (rb : LowReg) (imm : BitVec 5) (s : State) : Res := thumbStoreImm .word rd rb imm s
/-- R672 -/
def execThumbLdrImm (rd : LowReg) (rb : LowReg) (imm : BitVec 5) (s : State) : Res := thumbLoadImm .word rd rb imm s
/-- R673 -/
def execThumbStrbImm (rd : LowReg) (rb : LowReg) (imm : BitVec 5) (s : State) : Res := thumbStoreImm .byte rd rb imm s
/-- R674 -/
def execThumbLdrbImm (rd : LowReg) (rb : LowReg) (imm : BitVec 5) (s : State) : Res := thumbLoadImm .unsignedByte rd rb imm s
/-- R675 -/
def execThumbStrhImm (rd : LowReg) (rb : LowReg) (imm : BitVec 5) (s : State) : Res := thumbStoreImm .half rd rb imm s
/-- R676 -/
def execThumbLdrhImm (rd : LowReg) (rb : LowReg) (imm : BitVec 5) (s : State) : Res := thumbLoadImm .unsignedHalf rd rb imm s
/-- R677 -/
def execThumbStrSp (rd : LowReg) (imm : Byte) (s : State) : Res := thumbStoreSp rd imm s
/-- R678 -/
def execThumbLdrSp (rd : LowReg) (imm : Byte) (s : State) : Res := thumbLoadSp rd imm s
/-- R682 -/
def execThumbPush (lr : Bool) (list : Byte) (s : State) : Res := thumbPushRegs lr list s
/-- R683 -/
def execThumbPop (toPc : Bool) (list : Byte) (s : State) : Res := thumbPopRegs toPc list s
/-- R684 -/
def execThumbStmia (rb : LowReg) (list : Byte) (s : State) : Res := thumbStoreMultiple rb list s
/-- R685 -/
def execThumbLdmia (rb : LowReg) (list : Byte) (s : State) : Res := thumbLoadMultiple rb list s

end Sys2Proof.Machine
end

