-- ==== Sys2Proof/Machine/Dispatch.lean ====
section
/-! DEFINITION. The dispatch: one arm per constructor of `Instr`, each one call of its meaning. -/

namespace Sys2Proof.Machine

def exec (i : Instr) (s : State) : Host.Outcome State Fault Refusal :=
  match i with
  | .nop => Sys2Proof.Machine.exec_nop s
  | .ld_bc_nn nn => Sys2Proof.Machine.exec_ld_bc_nn nn s
  | .ld_bcm_a => Sys2Proof.Machine.exec_ld_bcm_a s
  | .inc_bc => Sys2Proof.Machine.exec_inc_bc s
  | .inc_b => Sys2Proof.Machine.exec_inc_b s
  | .dec_b => Sys2Proof.Machine.exec_dec_b s
  | .ld_b_n n => Sys2Proof.Machine.exec_ld_b_n n s
  | .rlca => Sys2Proof.Machine.exec_rlca s
  | .ld_nnm_sp nn => Sys2Proof.Machine.exec_ld_nnm_sp nn s
  | .add_hl_bc => Sys2Proof.Machine.exec_add_hl_bc s
  | .ld_a_bcm => Sys2Proof.Machine.exec_ld_a_bcm s
  | .dec_bc => Sys2Proof.Machine.exec_dec_bc s
  | .inc_c => Sys2Proof.Machine.exec_inc_c s
  | .dec_c => Sys2Proof.Machine.exec_dec_c s
  | .ld_c_n n => Sys2Proof.Machine.exec_ld_c_n n s
  | .rrca => Sys2Proof.Machine.exec_rrca s
  | .stop ignored => Sys2Proof.Machine.exec_stop ignored s
  | .ld_de_nn nn => Sys2Proof.Machine.exec_ld_de_nn nn s
  | .ld_dem_a => Sys2Proof.Machine.exec_ld_dem_a s
  | .inc_de => Sys2Proof.Machine.exec_inc_de s
  | .inc_d => Sys2Proof.Machine.exec_inc_d s
  | .dec_d => Sys2Proof.Machine.exec_dec_d s
  | .ld_d_n n => Sys2Proof.Machine.exec_ld_d_n n s
  | .rla => Sys2Proof.Machine.exec_rla s
  | .jr_e e => Sys2Proof.Machine.exec_jr_e e s
  | .add_hl_de => Sys2Proof.Machine.exec_add_hl_de s
  | .ld_a_dem => Sys2Proof.Machine.exec_ld_a_dem s
  | .dec_de => Sys2Proof.Machine.exec_dec_de s
  | .inc_e => Sys2Proof.Machine.exec_inc_e s
  | .dec_e => Sys2Proof.Machine.exec_dec_e s
  | .ld_e_n n => Sys2Proof.Machine.exec_ld_e_n n s
  | .rra => Sys2Proof.Machine.exec_rra s
  | .jr_nz_e e => Sys2Proof.Machine.exec_jr_nz_e e s
  | .ld_hl_nn nn => Sys2Proof.Machine.exec_ld_hl_nn nn s
  | .ld_hli_a => Sys2Proof.Machine.exec_ld_hli_a s
  | .inc_hl => Sys2Proof.Machine.exec_inc_hl s
  | .inc_h => Sys2Proof.Machine.exec_inc_h s
  | .dec_h => Sys2Proof.Machine.exec_dec_h s
  | .ld_h_n n => Sys2Proof.Machine.exec_ld_h_n n s
  | .daa => Sys2Proof.Machine.exec_daa s
  | .jr_z_e e => Sys2Proof.Machine.exec_jr_z_e e s
  | .add_hl_hl => Sys2Proof.Machine.exec_add_hl_hl s
  | .ld_a_hli => Sys2Proof.Machine.exec_ld_a_hli s
  | .dec_hl => Sys2Proof.Machine.exec_dec_hl s
  | .inc_l => Sys2Proof.Machine.exec_inc_l s
  | .dec_l => Sys2Proof.Machine.exec_dec_l s
  | .ld_l_n n => Sys2Proof.Machine.exec_ld_l_n n s
  | .cpl => Sys2Proof.Machine.exec_cpl s
  | .jr_nc_e e => Sys2Proof.Machine.exec_jr_nc_e e s
  | .ld_sp_nn nn => Sys2Proof.Machine.exec_ld_sp_nn nn s
  | .ld_hld_a => Sys2Proof.Machine.exec_ld_hld_a s
  | .inc_sp => Sys2Proof.Machine.exec_inc_sp s
  | .inc_hlm => Sys2Proof.Machine.exec_inc_hlm s
  | .dec_hlm => Sys2Proof.Machine.exec_dec_hlm s
  | .ld_hlm_n n => Sys2Proof.Machine.exec_ld_hlm_n n s
  | .scf => Sys2Proof.Machine.exec_scf s
  | .jr_c_e e => Sys2Proof.Machine.exec_jr_c_e e s
  | .add_hl_sp => Sys2Proof.Machine.exec_add_hl_sp s
  | .ld_a_hld => Sys2Proof.Machine.exec_ld_a_hld s
  | .dec_sp => Sys2Proof.Machine.exec_dec_sp s
  | .inc_a => Sys2Proof.Machine.exec_inc_a s
  | .dec_a => Sys2Proof.Machine.exec_dec_a s
  | .ld_a_n n => Sys2Proof.Machine.exec_ld_a_n n s
  | .ccf => Sys2Proof.Machine.exec_ccf s
  | .ld_b_b => Sys2Proof.Machine.exec_ld_b_b s
  | .ld_b_c => Sys2Proof.Machine.exec_ld_b_c s
  | .ld_b_d => Sys2Proof.Machine.exec_ld_b_d s
  | .ld_b_e => Sys2Proof.Machine.exec_ld_b_e s
  | .ld_b_h => Sys2Proof.Machine.exec_ld_b_h s
  | .ld_b_l => Sys2Proof.Machine.exec_ld_b_l s
  | .ld_b_hlm => Sys2Proof.Machine.exec_ld_b_hlm s
  | .ld_b_a => Sys2Proof.Machine.exec_ld_b_a s
  | .ld_c_b => Sys2Proof.Machine.exec_ld_c_b s
  | .ld_c_c => Sys2Proof.Machine.exec_ld_c_c s
  | .ld_c_d => Sys2Proof.Machine.exec_ld_c_d s
  | .ld_c_e => Sys2Proof.Machine.exec_ld_c_e s
  | .ld_c_h => Sys2Proof.Machine.exec_ld_c_h s
  | .ld_c_l => Sys2Proof.Machine.exec_ld_c_l s
  | .ld_c_hlm => Sys2Proof.Machine.exec_ld_c_hlm s
  | .ld_c_a => Sys2Proof.Machine.exec_ld_c_a s
  | .ld_d_b => Sys2Proof.Machine.exec_ld_d_b s
  | .ld_d_c => Sys2Proof.Machine.exec_ld_d_c s
  | .ld_d_d => Sys2Proof.Machine.exec_ld_d_d s
  | .ld_d_e => Sys2Proof.Machine.exec_ld_d_e s
  | .ld_d_h => Sys2Proof.Machine.exec_ld_d_h s
  | .ld_d_l => Sys2Proof.Machine.exec_ld_d_l s
  | .ld_d_hlm => Sys2Proof.Machine.exec_ld_d_hlm s
  | .ld_d_a => Sys2Proof.Machine.exec_ld_d_a s
  | .ld_e_b => Sys2Proof.Machine.exec_ld_e_b s
  | .ld_e_c => Sys2Proof.Machine.exec_ld_e_c s
  | .ld_e_d => Sys2Proof.Machine.exec_ld_e_d s
  | .ld_e_e => Sys2Proof.Machine.exec_ld_e_e s
  | .ld_e_h => Sys2Proof.Machine.exec_ld_e_h s
  | .ld_e_l => Sys2Proof.Machine.exec_ld_e_l s
  | .ld_e_hlm => Sys2Proof.Machine.exec_ld_e_hlm s
  | .ld_e_a => Sys2Proof.Machine.exec_ld_e_a s
  | .ld_h_b => Sys2Proof.Machine.exec_ld_h_b s
  | .ld_h_c => Sys2Proof.Machine.exec_ld_h_c s
  | .ld_h_d => Sys2Proof.Machine.exec_ld_h_d s
  | .ld_h_e => Sys2Proof.Machine.exec_ld_h_e s
  | .ld_h_h => Sys2Proof.Machine.exec_ld_h_h s
  | .ld_h_l => Sys2Proof.Machine.exec_ld_h_l s
  | .ld_h_hlm => Sys2Proof.Machine.exec_ld_h_hlm s
  | .ld_h_a => Sys2Proof.Machine.exec_ld_h_a s
  | .ld_l_b => Sys2Proof.Machine.exec_ld_l_b s
  | .ld_l_c => Sys2Proof.Machine.exec_ld_l_c s
  | .ld_l_d => Sys2Proof.Machine.exec_ld_l_d s
  | .ld_l_e => Sys2Proof.Machine.exec_ld_l_e s
  | .ld_l_h => Sys2Proof.Machine.exec_ld_l_h s
  | .ld_l_l => Sys2Proof.Machine.exec_ld_l_l s
  | .ld_l_hlm => Sys2Proof.Machine.exec_ld_l_hlm s
  | .ld_l_a => Sys2Proof.Machine.exec_ld_l_a s
  | .ld_hlm_b => Sys2Proof.Machine.exec_ld_hlm_b s
  | .ld_hlm_c => Sys2Proof.Machine.exec_ld_hlm_c s
  | .ld_hlm_d => Sys2Proof.Machine.exec_ld_hlm_d s
  | .ld_hlm_e => Sys2Proof.Machine.exec_ld_hlm_e s
  | .ld_hlm_h => Sys2Proof.Machine.exec_ld_hlm_h s
  | .ld_hlm_l => Sys2Proof.Machine.exec_ld_hlm_l s
  | .halt => Sys2Proof.Machine.exec_halt s
  | .ld_hlm_a => Sys2Proof.Machine.exec_ld_hlm_a s
  | .ld_a_b => Sys2Proof.Machine.exec_ld_a_b s
  | .ld_a_c => Sys2Proof.Machine.exec_ld_a_c s
  | .ld_a_d => Sys2Proof.Machine.exec_ld_a_d s
  | .ld_a_e => Sys2Proof.Machine.exec_ld_a_e s
  | .ld_a_h => Sys2Proof.Machine.exec_ld_a_h s
  | .ld_a_l => Sys2Proof.Machine.exec_ld_a_l s
  | .ld_a_hlm => Sys2Proof.Machine.exec_ld_a_hlm s
  | .ld_a_a => Sys2Proof.Machine.exec_ld_a_a s
  | .add_a_b => Sys2Proof.Machine.exec_add_a_b s
  | .add_a_c => Sys2Proof.Machine.exec_add_a_c s
  | .add_a_d => Sys2Proof.Machine.exec_add_a_d s
  | .add_a_e => Sys2Proof.Machine.exec_add_a_e s
  | .add_a_h => Sys2Proof.Machine.exec_add_a_h s
  | .add_a_l => Sys2Proof.Machine.exec_add_a_l s
  | .add_a_hlm => Sys2Proof.Machine.exec_add_a_hlm s
  | .add_a_a => Sys2Proof.Machine.exec_add_a_a s
  | .adc_a_b => Sys2Proof.Machine.exec_adc_a_b s
  | .adc_a_c => Sys2Proof.Machine.exec_adc_a_c s
  | .adc_a_d => Sys2Proof.Machine.exec_adc_a_d s
  | .adc_a_e => Sys2Proof.Machine.exec_adc_a_e s
  | .adc_a_h => Sys2Proof.Machine.exec_adc_a_h s
  | .adc_a_l => Sys2Proof.Machine.exec_adc_a_l s
  | .adc_a_hlm => Sys2Proof.Machine.exec_adc_a_hlm s
  | .adc_a_a => Sys2Proof.Machine.exec_adc_a_a s
  | .sub_b => Sys2Proof.Machine.exec_sub_b s
  | .sub_c => Sys2Proof.Machine.exec_sub_c s
  | .sub_d => Sys2Proof.Machine.exec_sub_d s
  | .sub_e => Sys2Proof.Machine.exec_sub_e s
  | .sub_h => Sys2Proof.Machine.exec_sub_h s
  | .sub_l => Sys2Proof.Machine.exec_sub_l s
  | .sub_hlm => Sys2Proof.Machine.exec_sub_hlm s
  | .sub_a => Sys2Proof.Machine.exec_sub_a s
  | .sbc_a_b => Sys2Proof.Machine.exec_sbc_a_b s
  | .sbc_a_c => Sys2Proof.Machine.exec_sbc_a_c s
  | .sbc_a_d => Sys2Proof.Machine.exec_sbc_a_d s
  | .sbc_a_e => Sys2Proof.Machine.exec_sbc_a_e s
  | .sbc_a_h => Sys2Proof.Machine.exec_sbc_a_h s
  | .sbc_a_l => Sys2Proof.Machine.exec_sbc_a_l s
  | .sbc_a_hlm => Sys2Proof.Machine.exec_sbc_a_hlm s
  | .sbc_a_a => Sys2Proof.Machine.exec_sbc_a_a s
  | .and_b => Sys2Proof.Machine.exec_and_b s
  | .and_c => Sys2Proof.Machine.exec_and_c s
  | .and_d => Sys2Proof.Machine.exec_and_d s
  | .and_e => Sys2Proof.Machine.exec_and_e s
  | .and_h => Sys2Proof.Machine.exec_and_h s
  | .and_l => Sys2Proof.Machine.exec_and_l s
  | .and_hlm => Sys2Proof.Machine.exec_and_hlm s
  | .and_a => Sys2Proof.Machine.exec_and_a s
  | .xor_b => Sys2Proof.Machine.exec_xor_b s
  | .xor_c => Sys2Proof.Machine.exec_xor_c s
  | .xor_d => Sys2Proof.Machine.exec_xor_d s
  | .xor_e => Sys2Proof.Machine.exec_xor_e s
  | .xor_h => Sys2Proof.Machine.exec_xor_h s
  | .xor_l => Sys2Proof.Machine.exec_xor_l s
  | .xor_hlm => Sys2Proof.Machine.exec_xor_hlm s
  | .xor_a => Sys2Proof.Machine.exec_xor_a s
  | .or_b => Sys2Proof.Machine.exec_or_b s
  | .or_c => Sys2Proof.Machine.exec_or_c s
  | .or_d => Sys2Proof.Machine.exec_or_d s
  | .or_e => Sys2Proof.Machine.exec_or_e s
  | .or_h => Sys2Proof.Machine.exec_or_h s
  | .or_l => Sys2Proof.Machine.exec_or_l s
  | .or_hlm => Sys2Proof.Machine.exec_or_hlm s
  | .or_a => Sys2Proof.Machine.exec_or_a s
  | .cp_b => Sys2Proof.Machine.exec_cp_b s
  | .cp_c => Sys2Proof.Machine.exec_cp_c s
  | .cp_d => Sys2Proof.Machine.exec_cp_d s
  | .cp_e => Sys2Proof.Machine.exec_cp_e s
  | .cp_h => Sys2Proof.Machine.exec_cp_h s
  | .cp_l => Sys2Proof.Machine.exec_cp_l s
  | .cp_hlm => Sys2Proof.Machine.exec_cp_hlm s
  | .cp_a => Sys2Proof.Machine.exec_cp_a s
  | .ret_nz => Sys2Proof.Machine.exec_ret_nz s
  | .pop_bc => Sys2Proof.Machine.exec_pop_bc s
  | .jp_nz_nn nn => Sys2Proof.Machine.exec_jp_nz_nn nn s
  | .jp_nn nn => Sys2Proof.Machine.exec_jp_nn nn s
  | .call_nz_nn nn => Sys2Proof.Machine.exec_call_nz_nn nn s
  | .push_bc => Sys2Proof.Machine.exec_push_bc s
  | .add_a_n n => Sys2Proof.Machine.exec_add_a_n n s
  | .rst_00h => Sys2Proof.Machine.exec_rst_00h s
  | .ret_z => Sys2Proof.Machine.exec_ret_z s
  | .ret => Sys2Proof.Machine.exec_ret s
  | .jp_z_nn nn => Sys2Proof.Machine.exec_jp_z_nn nn s
  | .cbPrefix op2 => Sys2Proof.Machine.exec_cbPrefix op2 s
  | .call_z_nn nn => Sys2Proof.Machine.exec_call_z_nn nn s
  | .call_nn nn => Sys2Proof.Machine.exec_call_nn nn s
  | .adc_a_n n => Sys2Proof.Machine.exec_adc_a_n n s
  | .rst_08h => Sys2Proof.Machine.exec_rst_08h s
  | .ret_nc => Sys2Proof.Machine.exec_ret_nc s
  | .pop_de => Sys2Proof.Machine.exec_pop_de s
  | .jp_nc_nn nn => Sys2Proof.Machine.exec_jp_nc_nn nn s
  | .illegal_d3 => Sys2Proof.Machine.exec_illegal_d3 s
  | .call_nc_nn nn => Sys2Proof.Machine.exec_call_nc_nn nn s
  | .push_de => Sys2Proof.Machine.exec_push_de s
  | .sub_n n => Sys2Proof.Machine.exec_sub_n n s
  | .rst_10h => Sys2Proof.Machine.exec_rst_10h s
  | .ret_c => Sys2Proof.Machine.exec_ret_c s
  | .reti => Sys2Proof.Machine.exec_reti s
  | .jp_c_nn nn => Sys2Proof.Machine.exec_jp_c_nn nn s
  | .illegal_db => Sys2Proof.Machine.exec_illegal_db s
  | .call_c_nn nn => Sys2Proof.Machine.exec_call_c_nn nn s
  | .illegal_dd => Sys2Proof.Machine.exec_illegal_dd s
  | .sbc_a_n n => Sys2Proof.Machine.exec_sbc_a_n n s
  | .rst_18h => Sys2Proof.Machine.exec_rst_18h s
  | .ldh_nm_a n => Sys2Proof.Machine.exec_ldh_nm_a n s
  | .pop_hl => Sys2Proof.Machine.exec_pop_hl s
  | .ld_cm_a => Sys2Proof.Machine.exec_ld_cm_a s
  | .illegal_e3 => Sys2Proof.Machine.exec_illegal_e3 s
  | .illegal_e4 => Sys2Proof.Machine.exec_illegal_e4 s
  | .push_hl => Sys2Proof.Machine.exec_push_hl s
  | .and_n n => Sys2Proof.Machine.exec_and_n n s
  | .rst_20h => Sys2Proof.Machine.exec_rst_20h s
  | .add_sp_e e => Sys2Proof.Machine.exec_add_sp_e e s
  | .jp_hl => Sys2Proof.Machine.exec_jp_hl s
  | .ld_nnm_a nn => Sys2Proof.Machine.exec_ld_nnm_a nn s
  | .illegal_eb => Sys2Proof.Machine.exec_illegal_eb s
  | .illegal_ec => Sys2Proof.Machine.exec_illegal_ec s
  | .illegal_ed => Sys2Proof.Machine.exec_illegal_ed s
  | .xor_n n => Sys2Proof.Machine.exec_xor_n n s
  | .rst_28h => Sys2Proof.Machine.exec_rst_28h s
  | .ldh_a_nm n => Sys2Proof.Machine.exec_ldh_a_nm n s
  | .pop_af => Sys2Proof.Machine.exec_pop_af s
  | .ld_a_cm => Sys2Proof.Machine.exec_ld_a_cm s
  | .di => Sys2Proof.Machine.exec_di s
  | .illegal_f4 => Sys2Proof.Machine.exec_illegal_f4 s
  | .push_af => Sys2Proof.Machine.exec_push_af s
  | .or_n n => Sys2Proof.Machine.exec_or_n n s
  | .rst_30h => Sys2Proof.Machine.exec_rst_30h s
  | .ld_hl_sp_e e => Sys2Proof.Machine.exec_ld_hl_sp_e e s
  | .ld_sp_hl => Sys2Proof.Machine.exec_ld_sp_hl s
  | .ld_a_nnm nn => Sys2Proof.Machine.exec_ld_a_nnm nn s
  | .ei => Sys2Proof.Machine.exec_ei s
  | .illegal_fc => Sys2Proof.Machine.exec_illegal_fc s
  | .illegal_fd => Sys2Proof.Machine.exec_illegal_fd s
  | .cp_n n => Sys2Proof.Machine.exec_cp_n n s
  | .rst_38h => Sys2Proof.Machine.exec_rst_38h s
  | .rlc_b => Sys2Proof.Machine.exec_rlc_b s
  | .rlc_c => Sys2Proof.Machine.exec_rlc_c s
  | .rlc_d => Sys2Proof.Machine.exec_rlc_d s
  | .rlc_e => Sys2Proof.Machine.exec_rlc_e s
  | .rlc_h => Sys2Proof.Machine.exec_rlc_h s
  | .rlc_l => Sys2Proof.Machine.exec_rlc_l s
  | .rlc_hlm => Sys2Proof.Machine.exec_rlc_hlm s
  | .rlc_a => Sys2Proof.Machine.exec_rlc_a s
  | .rrc_b => Sys2Proof.Machine.exec_rrc_b s
  | .rrc_c => Sys2Proof.Machine.exec_rrc_c s
  | .rrc_d => Sys2Proof.Machine.exec_rrc_d s
  | .rrc_e => Sys2Proof.Machine.exec_rrc_e s
  | .rrc_h => Sys2Proof.Machine.exec_rrc_h s
  | .rrc_l => Sys2Proof.Machine.exec_rrc_l s
  | .rrc_hlm => Sys2Proof.Machine.exec_rrc_hlm s
  | .rrc_a => Sys2Proof.Machine.exec_rrc_a s
  | .rl_b => Sys2Proof.Machine.exec_rl_b s
  | .rl_c => Sys2Proof.Machine.exec_rl_c s
  | .rl_d => Sys2Proof.Machine.exec_rl_d s
  | .rl_e => Sys2Proof.Machine.exec_rl_e s
  | .rl_h => Sys2Proof.Machine.exec_rl_h s
  | .rl_l => Sys2Proof.Machine.exec_rl_l s
  | .rl_hlm => Sys2Proof.Machine.exec_rl_hlm s
  | .rl_a => Sys2Proof.Machine.exec_rl_a s
  | .rr_b => Sys2Proof.Machine.exec_rr_b s
  | .rr_c => Sys2Proof.Machine.exec_rr_c s
  | .rr_d => Sys2Proof.Machine.exec_rr_d s
  | .rr_e => Sys2Proof.Machine.exec_rr_e s
  | .rr_h => Sys2Proof.Machine.exec_rr_h s
  | .rr_l => Sys2Proof.Machine.exec_rr_l s
  | .rr_hlm => Sys2Proof.Machine.exec_rr_hlm s
  | .rr_a => Sys2Proof.Machine.exec_rr_a s
  | .sla_b => Sys2Proof.Machine.exec_sla_b s
  | .sla_c => Sys2Proof.Machine.exec_sla_c s
  | .sla_d => Sys2Proof.Machine.exec_sla_d s
  | .sla_e => Sys2Proof.Machine.exec_sla_e s
  | .sla_h => Sys2Proof.Machine.exec_sla_h s
  | .sla_l => Sys2Proof.Machine.exec_sla_l s
  | .sla_hlm => Sys2Proof.Machine.exec_sla_hlm s
  | .sla_a => Sys2Proof.Machine.exec_sla_a s
  | .sra_b => Sys2Proof.Machine.exec_sra_b s
  | .sra_c => Sys2Proof.Machine.exec_sra_c s
  | .sra_d => Sys2Proof.Machine.exec_sra_d s
  | .sra_e => Sys2Proof.Machine.exec_sra_e s
  | .sra_h => Sys2Proof.Machine.exec_sra_h s
  | .sra_l => Sys2Proof.Machine.exec_sra_l s
  | .sra_hlm => Sys2Proof.Machine.exec_sra_hlm s
  | .sra_a => Sys2Proof.Machine.exec_sra_a s
  | .swap_b => Sys2Proof.Machine.exec_swap_b s
  | .swap_c => Sys2Proof.Machine.exec_swap_c s
  | .swap_d => Sys2Proof.Machine.exec_swap_d s
  | .swap_e => Sys2Proof.Machine.exec_swap_e s
  | .swap_h => Sys2Proof.Machine.exec_swap_h s
  | .swap_l => Sys2Proof.Machine.exec_swap_l s
  | .swap_hlm => Sys2Proof.Machine.exec_swap_hlm s
  | .swap_a => Sys2Proof.Machine.exec_swap_a s
  | .srl_b => Sys2Proof.Machine.exec_srl_b s
  | .srl_c => Sys2Proof.Machine.exec_srl_c s
  | .srl_d => Sys2Proof.Machine.exec_srl_d s
  | .srl_e => Sys2Proof.Machine.exec_srl_e s
  | .srl_h => Sys2Proof.Machine.exec_srl_h s
  | .srl_l => Sys2Proof.Machine.exec_srl_l s
  | .srl_hlm => Sys2Proof.Machine.exec_srl_hlm s
  | .srl_a => Sys2Proof.Machine.exec_srl_a s
  | .bit_0_b => Sys2Proof.Machine.exec_bit_0_b s
  | .bit_0_c => Sys2Proof.Machine.exec_bit_0_c s
  | .bit_0_d => Sys2Proof.Machine.exec_bit_0_d s
  | .bit_0_e => Sys2Proof.Machine.exec_bit_0_e s
  | .bit_0_h => Sys2Proof.Machine.exec_bit_0_h s
  | .bit_0_l => Sys2Proof.Machine.exec_bit_0_l s
  | .bit_0_hlm => Sys2Proof.Machine.exec_bit_0_hlm s
  | .bit_0_a => Sys2Proof.Machine.exec_bit_0_a s
  | .bit_1_b => Sys2Proof.Machine.exec_bit_1_b s
  | .bit_1_c => Sys2Proof.Machine.exec_bit_1_c s
  | .bit_1_d => Sys2Proof.Machine.exec_bit_1_d s
  | .bit_1_e => Sys2Proof.Machine.exec_bit_1_e s
  | .bit_1_h => Sys2Proof.Machine.exec_bit_1_h s
  | .bit_1_l => Sys2Proof.Machine.exec_bit_1_l s
  | .bit_1_hlm => Sys2Proof.Machine.exec_bit_1_hlm s
  | .bit_1_a => Sys2Proof.Machine.exec_bit_1_a s
  | .bit_2_b => Sys2Proof.Machine.exec_bit_2_b s
  | .bit_2_c => Sys2Proof.Machine.exec_bit_2_c s
  | .bit_2_d => Sys2Proof.Machine.exec_bit_2_d s
  | .bit_2_e => Sys2Proof.Machine.exec_bit_2_e s
  | .bit_2_h => Sys2Proof.Machine.exec_bit_2_h s
  | .bit_2_l => Sys2Proof.Machine.exec_bit_2_l s
  | .bit_2_hlm => Sys2Proof.Machine.exec_bit_2_hlm s
  | .bit_2_a => Sys2Proof.Machine.exec_bit_2_a s
  | .bit_3_b => Sys2Proof.Machine.exec_bit_3_b s
  | .bit_3_c => Sys2Proof.Machine.exec_bit_3_c s
  | .bit_3_d => Sys2Proof.Machine.exec_bit_3_d s
  | .bit_3_e => Sys2Proof.Machine.exec_bit_3_e s
  | .bit_3_h => Sys2Proof.Machine.exec_bit_3_h s
  | .bit_3_l => Sys2Proof.Machine.exec_bit_3_l s
  | .bit_3_hlm => Sys2Proof.Machine.exec_bit_3_hlm s
  | .bit_3_a => Sys2Proof.Machine.exec_bit_3_a s
  | .bit_4_b => Sys2Proof.Machine.exec_bit_4_b s
  | .bit_4_c => Sys2Proof.Machine.exec_bit_4_c s
  | .bit_4_d => Sys2Proof.Machine.exec_bit_4_d s
  | .bit_4_e => Sys2Proof.Machine.exec_bit_4_e s
  | .bit_4_h => Sys2Proof.Machine.exec_bit_4_h s
  | .bit_4_l => Sys2Proof.Machine.exec_bit_4_l s
  | .bit_4_hlm => Sys2Proof.Machine.exec_bit_4_hlm s
  | .bit_4_a => Sys2Proof.Machine.exec_bit_4_a s
  | .bit_5_b => Sys2Proof.Machine.exec_bit_5_b s
  | .bit_5_c => Sys2Proof.Machine.exec_bit_5_c s
  | .bit_5_d => Sys2Proof.Machine.exec_bit_5_d s
  | .bit_5_e => Sys2Proof.Machine.exec_bit_5_e s
  | .bit_5_h => Sys2Proof.Machine.exec_bit_5_h s
  | .bit_5_l => Sys2Proof.Machine.exec_bit_5_l s
  | .bit_5_hlm => Sys2Proof.Machine.exec_bit_5_hlm s
  | .bit_5_a => Sys2Proof.Machine.exec_bit_5_a s
  | .bit_6_b => Sys2Proof.Machine.exec_bit_6_b s
  | .bit_6_c => Sys2Proof.Machine.exec_bit_6_c s
  | .bit_6_d => Sys2Proof.Machine.exec_bit_6_d s
  | .bit_6_e => Sys2Proof.Machine.exec_bit_6_e s
  | .bit_6_h => Sys2Proof.Machine.exec_bit_6_h s
  | .bit_6_l => Sys2Proof.Machine.exec_bit_6_l s
  | .bit_6_hlm => Sys2Proof.Machine.exec_bit_6_hlm s
  | .bit_6_a => Sys2Proof.Machine.exec_bit_6_a s
  | .bit_7_b => Sys2Proof.Machine.exec_bit_7_b s
  | .bit_7_c => Sys2Proof.Machine.exec_bit_7_c s
  | .bit_7_d => Sys2Proof.Machine.exec_bit_7_d s
  | .bit_7_e => Sys2Proof.Machine.exec_bit_7_e s
  | .bit_7_h => Sys2Proof.Machine.exec_bit_7_h s
  | .bit_7_l => Sys2Proof.Machine.exec_bit_7_l s
  | .bit_7_hlm => Sys2Proof.Machine.exec_bit_7_hlm s
  | .bit_7_a => Sys2Proof.Machine.exec_bit_7_a s
  | .res_0_b => Sys2Proof.Machine.exec_res_0_b s
  | .res_0_c => Sys2Proof.Machine.exec_res_0_c s
  | .res_0_d => Sys2Proof.Machine.exec_res_0_d s
  | .res_0_e => Sys2Proof.Machine.exec_res_0_e s
  | .res_0_h => Sys2Proof.Machine.exec_res_0_h s
  | .res_0_l => Sys2Proof.Machine.exec_res_0_l s
  | .res_0_hlm => Sys2Proof.Machine.exec_res_0_hlm s
  | .res_0_a => Sys2Proof.Machine.exec_res_0_a s
  | .res_1_b => Sys2Proof.Machine.exec_res_1_b s
  | .res_1_c => Sys2Proof.Machine.exec_res_1_c s
  | .res_1_d => Sys2Proof.Machine.exec_res_1_d s
  | .res_1_e => Sys2Proof.Machine.exec_res_1_e s
  | .res_1_h => Sys2Proof.Machine.exec_res_1_h s
  | .res_1_l => Sys2Proof.Machine.exec_res_1_l s
  | .res_1_hlm => Sys2Proof.Machine.exec_res_1_hlm s
  | .res_1_a => Sys2Proof.Machine.exec_res_1_a s
  | .res_2_b => Sys2Proof.Machine.exec_res_2_b s
  | .res_2_c => Sys2Proof.Machine.exec_res_2_c s
  | .res_2_d => Sys2Proof.Machine.exec_res_2_d s
  | .res_2_e => Sys2Proof.Machine.exec_res_2_e s
  | .res_2_h => Sys2Proof.Machine.exec_res_2_h s
  | .res_2_l => Sys2Proof.Machine.exec_res_2_l s
  | .res_2_hlm => Sys2Proof.Machine.exec_res_2_hlm s
  | .res_2_a => Sys2Proof.Machine.exec_res_2_a s
  | .res_3_b => Sys2Proof.Machine.exec_res_3_b s
  | .res_3_c => Sys2Proof.Machine.exec_res_3_c s
  | .res_3_d => Sys2Proof.Machine.exec_res_3_d s
  | .res_3_e => Sys2Proof.Machine.exec_res_3_e s
  | .res_3_h => Sys2Proof.Machine.exec_res_3_h s
  | .res_3_l => Sys2Proof.Machine.exec_res_3_l s
  | .res_3_hlm => Sys2Proof.Machine.exec_res_3_hlm s
  | .res_3_a => Sys2Proof.Machine.exec_res_3_a s
  | .res_4_b => Sys2Proof.Machine.exec_res_4_b s
  | .res_4_c => Sys2Proof.Machine.exec_res_4_c s
  | .res_4_d => Sys2Proof.Machine.exec_res_4_d s
  | .res_4_e => Sys2Proof.Machine.exec_res_4_e s
  | .res_4_h => Sys2Proof.Machine.exec_res_4_h s
  | .res_4_l => Sys2Proof.Machine.exec_res_4_l s
  | .res_4_hlm => Sys2Proof.Machine.exec_res_4_hlm s
  | .res_4_a => Sys2Proof.Machine.exec_res_4_a s
  | .res_5_b => Sys2Proof.Machine.exec_res_5_b s
  | .res_5_c => Sys2Proof.Machine.exec_res_5_c s
  | .res_5_d => Sys2Proof.Machine.exec_res_5_d s
  | .res_5_e => Sys2Proof.Machine.exec_res_5_e s
  | .res_5_h => Sys2Proof.Machine.exec_res_5_h s
  | .res_5_l => Sys2Proof.Machine.exec_res_5_l s
  | .res_5_hlm => Sys2Proof.Machine.exec_res_5_hlm s
  | .res_5_a => Sys2Proof.Machine.exec_res_5_a s
  | .res_6_b => Sys2Proof.Machine.exec_res_6_b s
  | .res_6_c => Sys2Proof.Machine.exec_res_6_c s
  | .res_6_d => Sys2Proof.Machine.exec_res_6_d s
  | .res_6_e => Sys2Proof.Machine.exec_res_6_e s
  | .res_6_h => Sys2Proof.Machine.exec_res_6_h s
  | .res_6_l => Sys2Proof.Machine.exec_res_6_l s
  | .res_6_hlm => Sys2Proof.Machine.exec_res_6_hlm s
  | .res_6_a => Sys2Proof.Machine.exec_res_6_a s
  | .res_7_b => Sys2Proof.Machine.exec_res_7_b s
  | .res_7_c => Sys2Proof.Machine.exec_res_7_c s
  | .res_7_d => Sys2Proof.Machine.exec_res_7_d s
  | .res_7_e => Sys2Proof.Machine.exec_res_7_e s
  | .res_7_h => Sys2Proof.Machine.exec_res_7_h s
  | .res_7_l => Sys2Proof.Machine.exec_res_7_l s
  | .res_7_hlm => Sys2Proof.Machine.exec_res_7_hlm s
  | .res_7_a => Sys2Proof.Machine.exec_res_7_a s
  | .set_0_b => Sys2Proof.Machine.exec_set_0_b s
  | .set_0_c => Sys2Proof.Machine.exec_set_0_c s
  | .set_0_d => Sys2Proof.Machine.exec_set_0_d s
  | .set_0_e => Sys2Proof.Machine.exec_set_0_e s
  | .set_0_h => Sys2Proof.Machine.exec_set_0_h s
  | .set_0_l => Sys2Proof.Machine.exec_set_0_l s
  | .set_0_hlm => Sys2Proof.Machine.exec_set_0_hlm s
  | .set_0_a => Sys2Proof.Machine.exec_set_0_a s
  | .set_1_b => Sys2Proof.Machine.exec_set_1_b s
  | .set_1_c => Sys2Proof.Machine.exec_set_1_c s
  | .set_1_d => Sys2Proof.Machine.exec_set_1_d s
  | .set_1_e => Sys2Proof.Machine.exec_set_1_e s
  | .set_1_h => Sys2Proof.Machine.exec_set_1_h s
  | .set_1_l => Sys2Proof.Machine.exec_set_1_l s
  | .set_1_hlm => Sys2Proof.Machine.exec_set_1_hlm s
  | .set_1_a => Sys2Proof.Machine.exec_set_1_a s
  | .set_2_b => Sys2Proof.Machine.exec_set_2_b s
  | .set_2_c => Sys2Proof.Machine.exec_set_2_c s
  | .set_2_d => Sys2Proof.Machine.exec_set_2_d s
  | .set_2_e => Sys2Proof.Machine.exec_set_2_e s
  | .set_2_h => Sys2Proof.Machine.exec_set_2_h s
  | .set_2_l => Sys2Proof.Machine.exec_set_2_l s
  | .set_2_hlm => Sys2Proof.Machine.exec_set_2_hlm s
  | .set_2_a => Sys2Proof.Machine.exec_set_2_a s
  | .set_3_b => Sys2Proof.Machine.exec_set_3_b s
  | .set_3_c => Sys2Proof.Machine.exec_set_3_c s
  | .set_3_d => Sys2Proof.Machine.exec_set_3_d s
  | .set_3_e => Sys2Proof.Machine.exec_set_3_e s
  | .set_3_h => Sys2Proof.Machine.exec_set_3_h s
  | .set_3_l => Sys2Proof.Machine.exec_set_3_l s
  | .set_3_hlm => Sys2Proof.Machine.exec_set_3_hlm s
  | .set_3_a => Sys2Proof.Machine.exec_set_3_a s
  | .set_4_b => Sys2Proof.Machine.exec_set_4_b s
  | .set_4_c => Sys2Proof.Machine.exec_set_4_c s
  | .set_4_d => Sys2Proof.Machine.exec_set_4_d s
  | .set_4_e => Sys2Proof.Machine.exec_set_4_e s
  | .set_4_h => Sys2Proof.Machine.exec_set_4_h s
  | .set_4_l => Sys2Proof.Machine.exec_set_4_l s
  | .set_4_hlm => Sys2Proof.Machine.exec_set_4_hlm s
  | .set_4_a => Sys2Proof.Machine.exec_set_4_a s
  | .set_5_b => Sys2Proof.Machine.exec_set_5_b s
  | .set_5_c => Sys2Proof.Machine.exec_set_5_c s
  | .set_5_d => Sys2Proof.Machine.exec_set_5_d s
  | .set_5_e => Sys2Proof.Machine.exec_set_5_e s
  | .set_5_h => Sys2Proof.Machine.exec_set_5_h s
  | .set_5_l => Sys2Proof.Machine.exec_set_5_l s
  | .set_5_hlm => Sys2Proof.Machine.exec_set_5_hlm s
  | .set_5_a => Sys2Proof.Machine.exec_set_5_a s
  | .set_6_b => Sys2Proof.Machine.exec_set_6_b s
  | .set_6_c => Sys2Proof.Machine.exec_set_6_c s
  | .set_6_d => Sys2Proof.Machine.exec_set_6_d s
  | .set_6_e => Sys2Proof.Machine.exec_set_6_e s
  | .set_6_h => Sys2Proof.Machine.exec_set_6_h s
  | .set_6_l => Sys2Proof.Machine.exec_set_6_l s
  | .set_6_hlm => Sys2Proof.Machine.exec_set_6_hlm s
  | .set_6_a => Sys2Proof.Machine.exec_set_6_a s
  | .set_7_b => Sys2Proof.Machine.exec_set_7_b s
  | .set_7_c => Sys2Proof.Machine.exec_set_7_c s
  | .set_7_d => Sys2Proof.Machine.exec_set_7_d s
  | .set_7_e => Sys2Proof.Machine.exec_set_7_e s
  | .set_7_h => Sys2Proof.Machine.exec_set_7_h s
  | .set_7_l => Sys2Proof.Machine.exec_set_7_l s
  | .set_7_hlm => Sys2Proof.Machine.exec_set_7_hlm s
  | .set_7_a => Sys2Proof.Machine.exec_set_7_a s
  | .armReservedCond w => Sys2Proof.Machine.execArmReservedCond w s
  | .armBx o => Sys2Proof.Machine.execArmBx o s
  | .armMul o => Sys2Proof.Machine.execArmMul o s
  | .armMla o => Sys2Proof.Machine.execArmMla o s
  | .armUmull o => Sys2Proof.Machine.execArmUmull o s
  | .armUmlal o => Sys2Proof.Machine.execArmUmlal o s
  | .armSmull o => Sys2Proof.Machine.execArmSmull o s
  | .armSmlal o => Sys2Proof.Machine.execArmSmlal o s
  | .armSwp o => Sys2Proof.Machine.execArmSwp o s
  | .armSwpb o => Sys2Proof.Machine.execArmSwpb o s
  | .armStrhReg o => Sys2Proof.Machine.execArmStrhReg o s
  | .armStrhImm o => Sys2Proof.Machine.execArmStrhImm o s
  | .armLdrhReg o => Sys2Proof.Machine.execArmLdrhReg o s
  | .armLdrhImm o => Sys2Proof.Machine.execArmLdrhImm o s
  | .armLdrsbReg o => Sys2Proof.Machine.execArmLdrsbReg o s
  | .armLdrsbImm o => Sys2Proof.Machine.execArmLdrsbImm o s
  | .armLdrshReg o => Sys2Proof.Machine.execArmLdrshReg o s
  | .armLdrshImm o => Sys2Proof.Machine.execArmLdrshImm o s
  | .armUndefStoreSignedReg w => Sys2Proof.Machine.execArmUndefStoreSignedReg w s
  | .armUndefStoreSignedImm w => Sys2Proof.Machine.execArmUndefStoreSignedImm w s
  | .armUndefMultiplySpace w => Sys2Proof.Machine.execArmUndefMultiplySpace w s
  | .armMrs o => Sys2Proof.Machine.execArmMrs o s
  | .armMsrReg o => Sys2Proof.Machine.execArmMsrReg o s
  | .armMsrImm o => Sys2Proof.Machine.execArmMsrImm o s
  | .armUndefCompareNoS w => Sys2Proof.Machine.execArmUndefCompareNoS w s
  | .armAndImm d op2 => Sys2Proof.Machine.execArmAndImm d op2 s
  | .armAndShift d op2 => Sys2Proof.Machine.execArmAndShift d op2 s
  | .armAndRegShift d op2 => Sys2Proof.Machine.execArmAndRegShift d op2 s
  | .armEorImm d op2 => Sys2Proof.Machine.execArmEorImm d op2 s
  | .armEorShift d op2 => Sys2Proof.Machine.execArmEorShift d op2 s
  | .armEorRegShift d op2 => Sys2Proof.Machine.execArmEorRegShift d op2 s
  | .armSubImm d op2 => Sys2Proof.Machine.execArmSubImm d op2 s
  | .armSubShift d op2 => Sys2Proof.Machine.execArmSubShift d op2 s
  | .armSubRegShift d op2 => Sys2Proof.Machine.execArmSubRegShift d op2 s
  | .armRsbImm d op2 => Sys2Proof.Machine.execArmRsbImm d op2 s
  | .armRsbShift d op2 => Sys2Proof.Machine.execArmRsbShift d op2 s
  | .armRsbRegShift d op2 => Sys2Proof.Machine.execArmRsbRegShift d op2 s
  | .armAddImm d op2 => Sys2Proof.Machine.execArmAddImm d op2 s
  | .armAddShift d op2 => Sys2Proof.Machine.execArmAddShift d op2 s
  | .armAddRegShift d op2 => Sys2Proof.Machine.execArmAddRegShift d op2 s
  | .armAdcImm d op2 => Sys2Proof.Machine.execArmAdcImm d op2 s
  | .armAdcShift d op2 => Sys2Proof.Machine.execArmAdcShift d op2 s
  | .armAdcRegShift d op2 => Sys2Proof.Machine.execArmAdcRegShift d op2 s
  | .armSbcImm d op2 => Sys2Proof.Machine.execArmSbcImm d op2 s
  | .armSbcShift d op2 => Sys2Proof.Machine.execArmSbcShift d op2 s
  | .armSbcRegShift d op2 => Sys2Proof.Machine.execArmSbcRegShift d op2 s
  | .armRscImm d op2 => Sys2Proof.Machine.execArmRscImm d op2 s
  | .armRscShift d op2 => Sys2Proof.Machine.execArmRscShift d op2 s
  | .armRscRegShift d op2 => Sys2Proof.Machine.execArmRscRegShift d op2 s
  | .armTstImm d op2 => Sys2Proof.Machine.execArmTstImm d op2 s
  | .armTstShift d op2 => Sys2Proof.Machine.execArmTstShift d op2 s
  | .armTstRegShift d op2 => Sys2Proof.Machine.execArmTstRegShift d op2 s
  | .armTeqImm d op2 => Sys2Proof.Machine.execArmTeqImm d op2 s
  | .armTeqShift d op2 => Sys2Proof.Machine.execArmTeqShift d op2 s
  | .armTeqRegShift d op2 => Sys2Proof.Machine.execArmTeqRegShift d op2 s
  | .armCmpImm d op2 => Sys2Proof.Machine.execArmCmpImm d op2 s
  | .armCmpShift d op2 => Sys2Proof.Machine.execArmCmpShift d op2 s
  | .armCmpRegShift d op2 => Sys2Proof.Machine.execArmCmpRegShift d op2 s
  | .armCmnImm d op2 => Sys2Proof.Machine.execArmCmnImm d op2 s
  | .armCmnShift d op2 => Sys2Proof.Machine.execArmCmnShift d op2 s
  | .armCmnRegShift d op2 => Sys2Proof.Machine.execArmCmnRegShift d op2 s
  | .armOrrImm d op2 => Sys2Proof.Machine.execArmOrrImm d op2 s
  | .armOrrShift d op2 => Sys2Proof.Machine.execArmOrrShift d op2 s
  | .armOrrRegShift d op2 => Sys2Proof.Machine.execArmOrrRegShift d op2 s
  | .armMovImm d op2 => Sys2Proof.Machine.execArmMovImm d op2 s
  | .armMovShift d op2 => Sys2Proof.Machine.execArmMovShift d op2 s
  | .armMovRegShift d op2 => Sys2Proof.Machine.execArmMovRegShift d op2 s
  | .armBicImm d op2 => Sys2Proof.Machine.execArmBicImm d op2 s
  | .armBicShift d op2 => Sys2Proof.Machine.execArmBicShift d op2 s
  | .armBicRegShift d op2 => Sys2Proof.Machine.execArmBicRegShift d op2 s
  | .armMvnImm d op2 => Sys2Proof.Machine.execArmMvnImm d op2 s
  | .armMvnShift d op2 => Sys2Proof.Machine.execArmMvnShift d op2 s
  | .armMvnRegShift d op2 => Sys2Proof.Machine.execArmMvnRegShift d op2 s
  | .armUndefSpace w => Sys2Proof.Machine.execArmUndefSpace w s
  | .armStrImm o => Sys2Proof.Machine.execArmStrImm o s
  | .armStrReg o => Sys2Proof.Machine.execArmStrReg o s
  | .armLdrImm o => Sys2Proof.Machine.execArmLdrImm o s
  | .armLdrReg o => Sys2Proof.Machine.execArmLdrReg o s
  | .armStrbImm o => Sys2Proof.Machine.execArmStrbImm o s
  | .armStrbReg o => Sys2Proof.Machine.execArmStrbReg o s
  | .armLdrbImm o => Sys2Proof.Machine.execArmLdrbImm o s
  | .armLdrbReg o => Sys2Proof.Machine.execArmLdrbReg o s
  | .armStm o => Sys2Proof.Machine.execArmStm o s
  | .armLdm o => Sys2Proof.Machine.execArmLdm o s
  | .armB o => Sys2Proof.Machine.execArmB o s
  | .armBl o => Sys2Proof.Machine.execArmBl o s
  | .armLdcStc w => Sys2Proof.Machine.execArmLdcStc w s
  | .armCdpMrcMcr w => Sys2Proof.Machine.execArmCdpMrcMcr w s
  | .armSwi o => Sys2Proof.Machine.execArmSwi o s
  | .thumbLslImm rd rs amount => Sys2Proof.Machine.execThumbLslImm rd rs amount s
  | .thumbLsrImm rd rs amount => Sys2Proof.Machine.execThumbLsrImm rd rs amount s
  | .thumbAsrImm rd rs amount => Sys2Proof.Machine.execThumbAsrImm rd rs amount s
  | .thumbAddReg rd rs rn => Sys2Proof.Machine.execThumbAddReg rd rs rn s
  | .thumbSubReg rd rs rn => Sys2Proof.Machine.execThumbSubReg rd rs rn s
  | .thumbAddImm3 rd rs imm => Sys2Proof.Machine.execThumbAddImm3 rd rs imm s
  | .thumbSubImm3 rd rs imm => Sys2Proof.Machine.execThumbSubImm3 rd rs imm s
  | .thumbMovImm rd imm => Sys2Proof.Machine.execThumbMovImm rd imm s
  | .thumbCmpImm rd imm => Sys2Proof.Machine.execThumbCmpImm rd imm s
  | .thumbAddImm8 rd imm => Sys2Proof.Machine.execThumbAddImm8 rd imm s
  | .thumbSubImm8 rd imm => Sys2Proof.Machine.execThumbSubImm8 rd imm s
  | .thumbAnd rd rs => Sys2Proof.Machine.execThumbAnd rd rs s
  | .thumbEor rd rs => Sys2Proof.Machine.execThumbEor rd rs s
  | .thumbLsl rd rs => Sys2Proof.Machine.execThumbLsl rd rs s
  | .thumbLsr rd rs => Sys2Proof.Machine.execThumbLsr rd rs s
  | .thumbAsr rd rs => Sys2Proof.Machine.execThumbAsr rd rs s
  | .thumbAdc rd rs => Sys2Proof.Machine.execThumbAdc rd rs s
  | .thumbSbc rd rs => Sys2Proof.Machine.execThumbSbc rd rs s
  | .thumbRor rd rs => Sys2Proof.Machine.execThumbRor rd rs s
  | .thumbTst rd rs => Sys2Proof.Machine.execThumbTst rd rs s
  | .thumbNeg rd rs => Sys2Proof.Machine.execThumbNeg rd rs s
  | .thumbCmp rd rs => Sys2Proof.Machine.execThumbCmp rd rs s
  | .thumbCmn rd rs => Sys2Proof.Machine.execThumbCmn rd rs s
  | .thumbOrr rd rs => Sys2Proof.Machine.execThumbOrr rd rs s
  | .thumbMul rd rs => Sys2Proof.Machine.execThumbMul rd rs s
  | .thumbBic rd rs => Sys2Proof.Machine.execThumbBic rd rs s
  | .thumbMvn rd rs => Sys2Proof.Machine.execThumbMvn rd rs s
  | .thumbAddHi hd hs => Sys2Proof.Machine.execThumbAddHi hd hs s
  | .thumbCmpHi hd hs => Sys2Proof.Machine.execThumbCmpHi hd hs s
  | .thumbMovHi hd hs => Sys2Proof.Machine.execThumbMovHi hd hs s
  | .thumbBx hs => Sys2Proof.Machine.execThumbBx hs s
  | .thumbUndefBlx w => Sys2Proof.Machine.execThumbUndefBlx w s
  | .thumbLdrPc rd imm => Sys2Proof.Machine.execThumbLdrPc rd imm s
  | .thumbStrReg rd rb ro => Sys2Proof.Machine.execThumbStrReg rd rb ro s
  | .thumbStrbReg rd rb ro => Sys2Proof.Machine.execThumbStrbReg rd rb ro s
  | .thumbLdrReg rd rb ro => Sys2Proof.Machine.execThumbLdrReg rd rb ro s
  | .thumbLdrbReg rd rb ro => Sys2Proof.Machine.execThumbLdrbReg rd rb ro s
  | .thumbStrhReg rd rb ro => Sys2Proof.Machine.execThumbStrhReg rd rb ro s
  | .thumbLdsbReg rd rb ro => Sys2Proof.Machine.execThumbLdsbReg rd rb ro s
  | .thumbLdrhReg rd rb ro => Sys2Proof.Machine.execThumbLdrhReg rd rb ro s
  | .thumbLdshReg rd rb ro => Sys2Proof.Machine.execThumbLdshReg rd rb ro s
  | .thumbStrImm rd rb imm => Sys2Proof.Machine.execThumbStrImm rd rb imm s
  | .thumbLdrImm rd rb imm => Sys2Proof.Machine.execThumbLdrImm rd rb imm s
  | .thumbStrbImm rd rb imm => Sys2Proof.Machine.execThumbStrbImm rd rb imm s
  | .thumbLdrbImm rd rb imm => Sys2Proof.Machine.execThumbLdrbImm rd rb imm s
  | .thumbStrhImm rd rb imm => Sys2Proof.Machine.execThumbStrhImm rd rb imm s
  | .thumbLdrhImm rd rb imm => Sys2Proof.Machine.execThumbLdrhImm rd rb imm s
  | .thumbStrSp rd imm => Sys2Proof.Machine.execThumbStrSp rd imm s
  | .thumbLdrSp rd imm => Sys2Proof.Machine.execThumbLdrSp rd imm s
  | .thumbAddPc rd imm => Sys2Proof.Machine.execThumbAddPc rd imm s
  | .thumbAddSp rd imm => Sys2Proof.Machine.execThumbAddSp rd imm s
  | .thumbAdjustSp down imm => Sys2Proof.Machine.execThumbAdjustSp down imm s
  | .thumbPush lr list => Sys2Proof.Machine.execThumbPush lr list s
  | .thumbPop toPc list => Sys2Proof.Machine.execThumbPop toPc list s
  | .thumbUndefB1 w => Sys2Proof.Machine.execThumbUndefB1 w s
  | .thumbUndefB2 w => Sys2Proof.Machine.execThumbUndefB2 w s
  | .thumbUndefB6 w => Sys2Proof.Machine.execThumbUndefB6 w s
  | .thumbUndefB8 w => Sys2Proof.Machine.execThumbUndefB8 w s
  | .thumbUndefBE w => Sys2Proof.Machine.execThumbUndefBE w s
  | .thumbStmia rb list => Sys2Proof.Machine.execThumbStmia rb list s
  | .thumbLdmia rb list => Sys2Proof.Machine.execThumbLdmia rb list s
  | .thumbUndefCond14 w => Sys2Proof.Machine.execThumbUndefCond14 w s
  | .thumbSwi comment => Sys2Proof.Machine.execThumbSwi comment s
  | .thumbBCond cond offset => Sys2Proof.Machine.execThumbBCond cond offset s
  | .thumbB offset => Sys2Proof.Machine.execThumbB offset s
  | .thumbUndefE8 w => Sys2Proof.Machine.execThumbUndefE8 w s
  | .thumbBlHi offset => Sys2Proof.Machine.execThumbBlHi offset s
  | .thumbBlLo offset => Sys2Proof.Machine.execThumbBlLo offset s

end Sys2Proof.Machine
end

