-- ==== Sys2Proof/Machine/Run.lean ====
section
/-! DEFINITION. The step of each variant (70_reset_and_hazards.md R810, R811), and how an instruction is put where
the next step fetches. -/

namespace Sys2Proof.Machine

/-- Fetch and execute one CPU-8 instruction (R810). -/
def runInstruction8 (s : State) : Res :=
  let pend := s.cpu8.eiPending
  let f := fetch8 s
  thenRes (exec f.1 f.2) fun s1 => finishStep8 (completeEi pend s1)

/-- From the interrupt check of `step8` on (R810). -/
def boundary8 (s : State) : Res :=
  if s.cpu8.dispatches then thenRes (dispatch8 s) finishStep8 else runInstruction8 s

/-- `step8` (R810), without a fault. -/
def step8 (s : State) : Res :=
  let s := beginStep s
  if s.cpu8.stopped then .next s
  else if s.cpu8.halted then
    if s.cpu8.serviceable = 0#5 then finishStep8 (charge 4 s)
    else boundary8 (on8 (fun c => { c with halted := false }) s)
  else boundary8 s

/-- Fetch and execute one CPU-32 instruction (R811). -/
def runInstruction32 (s : State) : Res :=
  let f := fetch32 s
  thenRes (exec f.1 f.2) fun s1 => .next (passInstruction s.cycles s1)

/-- From the IRQ check of `step32` on (R811). -/
def boundary32 (s : State) : Res :=
  if s.cpu32.takesIrq then enterIrq s else runInstruction32 s

/-- From the halt check of `step32` on (R811, R745); with DMA still pending the step ends (log entry 20). -/
def afterDma (s : State) : Res :=
  if s.cpu32.lowestPending ≠ none then .next s
  else if s.cpu32.halted then
    if s.cpu32.serviceable = 0#14 then .next (passCycles 1 s)
    else boundary32 (on32 (fun c => { c with halted := false }) s)
  else boundary32 s

/-- `step32` (R811), without a fault. -/
def step32 (s : State) : Res := thenRes (dmaPhase Config.dmaRunsPerStep (beginStep s)) afterDma

/-! Placing an instruction (log entry 26). -/

/-- Whether a program byte can stand at a CPU-8 address. -/
def placeable8 (s : State) (a : Half) : Bool :=
  match place8 s.params.colorMode s.cpu8 a with
  | .cart => true
  | .cell _ => true
  | .absent => false
  | .io _ => false
  | .ie => false

/-- Put bytes at a CPU-8 address, into core memory or into the mapper's answers. -/
def placeBytes8 : List Byte → Half → State → State
  | [], _, s => s
  | b :: rest, a, s =>
    placeBytes8 rest (a + 1)
      (match place8 s.params.colorMode s.cpu8 a with
      | .cart => { s with cart8 := Image.put s.cart8 a.toNat b }
      | .cell key => setCell8 key b s
      | .absent => s
      | .io _ => s
      | .ie => s)

/-- Make the next CPU-8 step run the bytes: not stopped, halted or interrupted, PC where bytes can stand. -/
def prepare8 (bytes : List Byte) (s : State) : State :=
  let s0 := { s with params := { s.params with variant := .cpu8 }, fault := none }
  let ok := placeable8 s0 s0.cpu8.pc && placeable8 s0 (s0.cpu8.pc + 1) && placeable8 s0 (s0.cpu8.pc + 2)
  let s1 := on8 (fun c => { c with stopped := false, halted := false
                                   ime := c.ime && c.serviceable == 0#5
                                   pc := if ok then c.pc else 0xC000#16 }) s0
  placeBytes8 (bytes.take 3) s1.cpu8.pc s1

/-- Whether a program word can stand at a CPU-32 address. -/
def placeable32 (s : State) (a : Word) : Bool :=
  match region a with
  | .bios => true
  | .ewram => true
  | .iwram => true
  | .palette => true
  | .vram => true
  | .oam => true
  | .rom _ => decide (a.toNat % 0x2000000 + 4 ≤ s.params.rom32Size) && !isEepromAddr a s
  | .io => false
  | .save => false
  | .unmapped => false

/-- Put bytes at a CPU-32 address, into core memory or into an image. -/
def placeBytes32 : List Byte → Word → State → State
  | [], _, s => s
  | b :: rest, a, s =>
    placeBytes32 rest (a + 1)
      (match region a with
      | .bios => { s with params := { s.params with bios32 := Image.put s.params.bios32 a.toNat b } }
      | .rom _ => { s with params := { s.params with rom32 := Image.put s.params.rom32 (a.toNat % 0x2000000) b } }
      | .ewram => on32 (fun c => { c with mem := Memory.write c.mem (memKey .ewram a.toNat) b }) s
      | .iwram => on32 (fun c => { c with mem := Memory.write c.mem (memKey .iwram a.toNat) b }) s
      | .palette => on32 (fun c => { c with mem := Memory.write c.mem (memKey .palette a.toNat) b }) s
      | .vram => on32 (fun c => { c with mem := Memory.write c.mem (memKey .vram a.toNat) b }) s
      | .oam => on32 (fun c => { c with mem := Memory.write c.mem (memKey .oam a.toNat) b }) s
      | .io => s
      | .save => s
      | .unmapped => s)

/-- Make the next CPU-32 step run the bytes in ARM or THUMB state: no DMA, halt or IRQ before it. -/
def prepare32 (thumb : Bool) (bytes : List Byte) (s : State) : State :=
  let s0 := { s with params := { s.params with variant := .cpu32 }, fault := none }
  let pc := alignPc thumb s0.cpu32.pc
  let pc := if placeable32 s0 pc then pc else 0x03000000#32
  let s1 := on32 (fun c =>
    { c.mapDma (fun d => { d with pending := false }) with
      halted := false, ime := c.ime && !(c.takesIrq), pc := pc, cpsr := { c.cpsr with t := thumb } }) s0
  placeBytes32 (bytes.take (if thumb then 2 else 4)) pc s1

end Sys2Proof.Machine
end

