-- ==== Sys2Proof/Machine/Step.lean ====
section
/-! DEFINITION. One step of the machine: the next state, a fault or a refusal. -/

namespace Sys2Proof.Machine

/-- One step of the variant the machine runs (R2, R810, R811); a machine that has faulted stays so (R13). -/
def step (s : State) : Host.Outcome State Fault Refusal :=
  match s.fault with
  | some r => .fault r
  | none =>
    match s.params.variant with
    | .cpu8 => step8 s
    | .cpu32 => step32 s

/-- The state with an instruction of spec/opcode_table.json where the next step fetches it (log entry 26). -/
def State.withFetchWord (s : State) (nbits w : Nat) : State :=
  match tableIsa nbits w with
  | .cpu8 => prepare8 (tableBytes nbits w) s
  | .arm => prepare32 false (tableBytes nbits w) s
  | .thumb => prepare32 true (tableBytes nbits w) s

end Sys2Proof.Machine
end

