-- ==== Sys2Proof/Machine/HostCalls.lean ====
section
/-! DEFINITION. The host interface (60_exceptions.md R790 to R795) and the loading of save data (20_memory.md R150).
Every call happens between steps; the cycle callback stands between two steps of a run (R795, R821). -/

namespace Sys2Proof.Machine

/-- `reset()` (R800 to R802): a function of the parameters; the mapper collaborator is not reset (R800), the host's
callback stays registered, and no free value is given twice (log entry 25). -/
def hostReset (s : State) : State :=
  { State.resetWith s.params with cart8 := s.cart8, draws := s.draws, outbox := s.outbox, callback := s.callback }

/-- The mapper collaborator changes what it answers at an address (R111, R113). -/
def answerRom8 (a : Half) (b : Byte) (s : State) : State := { s with cart8 := Image.put s.cart8 a.toNat b }

/-- `setInputs(mask)` (R792); on CPU-8 a pressed key wakes STOP (R705), and every mask is accepted (log entry 36). -/
def setInputs (mask : Nat) (s : State) : Res :=
  match s.params.variant with
  | .cpu8 =>
    let s1 := deliver (.keys8 mask) s
    .next (if mask ≠ 0 then on8 (fun c => { c with stopped := false }) s1 else s1)
  | .cpu32 =>
    if mask < 0x400 then .next (on32 (fun c => { c with keyinput := BitVec.ofNat 10 mask }) s)
    else .refused .hostMisuse

/-- `flagInterrupt(bit)` (R791). -/
def flagInterrupt (bit : Nat) (s : State) : Res :=
  match s.params.variant with
  | .cpu8 =>
    if bit < 5 then .next (on8 (fun c => { c with iflag := c.iflag ||| (1#5 <<< bit) }) s)
    else .refused .hostMisuse
  | .cpu32 => if bit < 14 then .next (on32 (fun c => c.raise bit) s) else .refused .hostMisuse

/-- The start timing an event serves (R66, R772). -/
def DmaEvent.timing : DmaEvent → Nat
  | .vblank => 1
  | .hblank => 2
  | .other => 3

/-- `triggerDMA(event)` (R772, R793). -/
def triggerDma (e : DmaEvent) (s : State) : Res :=
  match s.params.variant, e with
  | .cpu8, _ => .refused .hostMisuse
  | .cpu32, .other => .refused .triggerOther
  | .cpu32, e =>
    .next (on32 (fun c => c.mapDma fun d =>
      if d.enabled = true ∧ d.timing = e.timing then { d with pending := true } else d) s)

/-- `setCycleCallback(fn)` (R790, R795), CPU-8 only (log entry 33). -/
def setCycleCallback (fn : Option Callback) (s : State) : Res :=
  match s.params.variant with
  | .cpu8 => .next { s with callback := fn }
  | .cpu32 => .refused .hostMisuse

/-- One call of the host interface. -/
def hostCall (call : HostCall) (s : State) : Res :=
  match call with
  | .reset => .next (hostReset s)
  | .setInputs mask => setInputs mask s
  | .flagInterrupt bit => flagInterrupt bit s
  | .triggerDma event => triggerDma event s
  | .answerRom8 a v => .next (answerRom8 a v s)

/-- Calls of the host interface, one after the other. -/
def hostCalls : List HostCall → State → Res
  | [], s => .next s
  | call :: rest, s => thenRes (hostCall call s) (hostCalls rest)

/-- Call the cycle callback after a CPU-8 step (R795, R821): it is told the step's cycles, and makes its calls before the
next step. -/
def cycleCallback (s : State) : Res :=
  match s.params.variant, s.callback with
  | .cpu8, some plan =>
    hostCalls (plan.headD []) (deliver (.retired8 s.cycles) { s with callback := some plan.tail })
  | _, _ => .next s

/-- CLOCK in Hz (R794). -/
def clockHz (s : State) : Nat :=
  match s.params.variant with
  | .cpu8 => if s.cpu8.doubleSpeed then 2 * 4194304 else 4194304
  | .cpu32 => 16777216

/-- `floor(ms × CLOCK / 1000)` (R794). -/
def budget (ms : Nat) (s : State) : Nat := ms * clockHz s / 1000

/-- Whether `run` returns at once (R705, R794). -/
def runReturns (s : State) : Bool :=
  s.fault.isSome || (s.params.variant == .cpu8 && s.cpu8.stopped)

/-- Run steps while the budget lasts, the cycle callback after each (R794, R795). A fault ends the run and is latched
(R13, R36; log entry 27). -/
def runBudget : Nat → Nat → State → Res
  | 0, _, s => .next s
  | fuel + 1, b, s =>
    if b = 0 ∨ runReturns s = true then .next s
    else
      match step s with
      | .next s1 => thenRes (cycleCallback s1) (runBudget fuel (b - s1.cycles))
      | .fault r => .next { s with fault := some r }
      | .refused q => .refused q

/-- `run(ms)` (R794), refused before any reset: every step costs at least one cycle, so the budget also bounds the steps;
`ms` is a whole number of milliseconds (log entry 34). -/
def run (ms : Nat) (s : State) : Res :=
  if s.wasReset then runBudget (budget ms s) (budget ms s) s else .refused .hostMisuse

/-- The save type of a blob's size (R150); an empty blob is taken as none loaded (log entry 18). -/
def saveTypeOfSize (n : Nat) : Option SaveType :=
  match n with
  | 0 => some .unknown
  | 512 => some .eeprom512
  | 8192 => some .eeprom8k
  | 32768 => some .sram
  | 65536 => some .flash64
  | 131072 => some .flash128
  | _ => none

/-- A blob as a table of addresses. -/
def blobImage : List Byte → Nat → Image
  | [], _ => []
  | b :: rest, a => (a, b) :: blobImage rest (a + 1)

/-- Take a save blob as SAVE_INIT for the next reset (R150, D46). -/
def loadSave (blob : List Byte) (s : State) : Res :=
  match saveTypeOfSize blob.length with
  | some k => .next { s with params := { s.params with saveType := k, saveBytes := blobImage blob saveBase } }
  | none => .refused .saveSize

end Sys2Proof.Machine
end

