-- ==== Sys2Proof/Safety.lean ====
section
/-! DEFINITION. What counts as a safe state and a safe run: the shape every step keeps (10_state.md R32, R39, R53,
R54; 70_reset_and_hazards.md), and runs without a fault or a refusal. -/

namespace Sys2Proof.Machine

/-- The CPU-8 half's shape: F's low nibble is zero (R32) and memory is canonical. -/
def Cpu8.wf (c : Cpu8) : Prop := c.f &&& 0x0F#8 = 0#8 ∧ Memory.wf c.mem = true

/-- The PC is aligned to the state (R53). -/
def Cpu32.pcAligned (c : Cpu32) : Prop :=
  if c.cpsr.t then c.pc &&& 1#32 = 0#32 else c.pc &&& 3#32 = 0#32

/-- The SPSRs' reserved bits 27..8 are zero (R56). -/
def Cpu32.spsrsMasked (c : Cpu32) : Prop :=
  c.spsrFiq &&& ~~~psrMask = 0#32 ∧ c.spsrIrq &&& ~~~psrMask = 0#32 ∧ c.spsrSvc &&& ~~~psrMask = 0#32 ∧
    c.spsrAbt &&& ~~~psrMask = 0#32 ∧ c.spsrUnd &&& ~~~psrMask = 0#32

/-- The EEPROM buffers are within their bounds (R156). -/
def Save.buffersBounded (v : Save) : Prop := v.ein.length ≤ 0x80 ∧ v.eout.length ≤ 0x84

/-- The CPU-32 half's shape. -/
def Cpu32.wf (c : Cpu32) : Prop :=
  c.pcAligned ∧ c.spsrsMasked ∧ c.save.buffersBounded ∧ Memory.wf c.mem = true

/-- The shape of a state. -/
def State.wf (s : State) : Prop := s.cpu8.wf ∧ s.cpu32.wf

/-- A run of k steps without a fault or a refusal. -/
def SafeRun (k : Nat) (s : State) : Prop := ∃ s', Sys2Proof.core.run k s = .next s'

end Sys2Proof.Machine
end

