-- ==== Sys2Proof/Certificates/Slice0/Obligations.lean ====
section
/-! DEFINITION. The statements for the provers, from the numbered rules of spec/. Each is about every state, those
that no run reaches among them. `Sys2Proof.Claims` holds the words the statements share: the rules' own
arithmetic, on numbers and bits, beside which the model's definitions are held. -/

namespace Sys2Proof.Claims

open Sys2Proof.Machine

/-! CPU-8: the words of the rules. -/

/-- F holds these four flags and nothing else (R32). -/
def Flags8 (f : Byte) (z n h c : Prop) : Prop :=
  (f.getLsbD 7 = true ↔ z) ∧ (f.getLsbD 6 = true ↔ n) ∧ (f.getLsbD 5 = true ↔ h) ∧ (f.getLsbD 4 = true ↔ c) ∧
    f &&& 0x0F#8 = 0#8

/-- The C flag as a number. -/
def carry8 (f : Byte) : Nat := if f.getLsbD 4 then 1 else 0

/-- R351 to R358 on numbers: what A and F become. -/
def AluRule (op : Alu8) (a b f r f' : Byte) : Prop :=
  match op with
  | .add => r.toNat = (a.toNat + b.toNat) % 256 ∧
      Flags8 f' (r.toNat = 0) False (a.toNat % 16 + b.toNat % 16 > 0xF) (a.toNat + b.toNat > 0xFF)
  | .adc => r.toNat = (a.toNat + b.toNat + carry8 f) % 256 ∧
      Flags8 f' (r.toNat = 0) False (a.toNat % 16 + b.toNat % 16 + carry8 f > 0xF)
        (a.toNat + b.toNat + carry8 f > 0xFF)
  | .sub => r.toNat = (a.toNat + 256 - b.toNat) % 256 ∧
      Flags8 f' (r.toNat = 0) True (a.toNat % 16 < b.toNat % 16) (a.toNat < b.toNat)
  | .sbc => r.toNat = (a.toNat + 512 - b.toNat - carry8 f) % 256 ∧
      Flags8 f' (r.toNat = 0) True (a.toNat % 16 < b.toNat % 16 + carry8 f) (a.toNat < b.toNat + carry8 f)
  | .and => r = a &&& b ∧ Flags8 f' (r = 0#8) False True False
  | .xor => r = a ^^^ b ∧ Flags8 f' (r = 0#8) False False False
  | .or => r = a ||| b ∧ Flags8 f' (r = 0#8) False False False
  | .cp => r = a ∧ Flags8 f' (a = b) True (a.toNat % 16 < b.toNat % 16) (a.toNat < b.toNat)

/-- R401 to R408, bit by bit: what the operand becomes, and the bit that goes to C. -/
def RotRule (op : Rot8) (v : Byte) (c : Bool) (r : Byte) (out : Bool) : Prop :=
  match op with
  | .rlc => (∀ i : Fin 8, r.getLsbD i = v.getLsbD ((i + 7) % 8)) ∧ out = v.getLsbD 7
  | .rrc => (∀ i : Fin 8, r.getLsbD i = v.getLsbD ((i + 1) % 8)) ∧ out = v.getLsbD 0
  | .rl => (∀ i : Fin 7, r.getLsbD (i + 1) = v.getLsbD i) ∧ r.getLsbD 0 = c ∧ out = v.getLsbD 7
  | .rr => (∀ i : Fin 7, r.getLsbD i = v.getLsbD (i + 1)) ∧ r.getLsbD 7 = c ∧ out = v.getLsbD 0
  | .sla => (∀ i : Fin 7, r.getLsbD (i + 1) = v.getLsbD i) ∧ r.getLsbD 0 = false ∧ out = v.getLsbD 7
  | .sra => (∀ i : Fin 7, r.getLsbD i = v.getLsbD (i + 1)) ∧ r.getLsbD 7 = v.getLsbD 7 ∧ out = v.getLsbD 0
  | .swap => (∀ i : Fin 8, r.getLsbD i = v.getLsbD ((i + 4) % 8)) ∧ out = false
  | .srl => (∀ i : Fin 7, r.getLsbD i = v.getLsbD (i + 1)) ∧ r.getLsbD 7 = false ∧ out = v.getLsbD 0

/-- The 16-bit value of a signed byte added to a 16-bit value (R324, R366, R434). -/
def offset16 (a : Half) (e : Byte) : Nat := (a.toNat + (if e.toNat < 128 then e.toNat else e.toNat + 0xFF00)) % 0x10000

/-- The one CPU-8 write that is refused (R763): colour mode, HDMA5, bit 7 set. -/
def Refused8 (s : State) (a : Half) (v : Byte) : Prop :=
  s.params.colorMode = true ∧ a = 0xFF55#16 ∧ v.getLsbD 7 = true

/-- `Push16(v)` is not refused (R300, R763). -/
def Pushes8 (s : State) (v : Half) : Prop :=
  ¬ Refused8 s (s.cpu8.sp - 1) (hiByte v) ∧ ¬ Refused8 s (s.cpu8.sp - 2) (loByte v)

/-- The test of a condition (R430). -/
def Cond8 (cc : Cc) (f : Byte) : Prop :=
  match cc with
  | .nz => f.getLsbD 7 = false
  | .z => f.getLsbD 7 = true
  | .nc => f.getLsbD 4 = false
  | .c => f.getLsbD 4 = true

/-- Two-digit BCD. -/
def bcd (n : Nat) : Byte := BitVec.ofNat 8 (n / 10 % 10 * 16 + n % 10)

end Sys2Proof.Claims

open Sys2Proof Sys2Proof.Machine Sys2Proof.Claims

/-! CPU-8 loads, stores and stack. -/

/-- R30, R31, R301, R302, R321, R323, R324: loads between registers and of immediates. The rows: LD r,r' (ldInstr, 49),
LD r,n (ldImmInstr, 7), LD rr,nn (ldPairInstr, 4), LD SP,HL, LD HL,SP+e. The equation of states is the frame. And the
register file: a register or pair reads back what was written, and no other register changes. -/
def Obligations.Cpu8RegisterLoads : Prop :=
  (∀ (dst src : R8) (s : State), dst ≠ .hlm → src ≠ .hlm →
    exec (ldInstr dst src) s =
      .next { s with cpu8 := s.cpu8.setReg dst (s.cpu8.reg src), cycles := s.cycles + 4 }) ∧
  (∀ (dst : R8) (n : Byte) (s : State), dst ≠ .hlm →
    exec (ldImmInstr dst n) s = .next { s with cpu8 := s.cpu8.setReg dst n, cycles := s.cycles + 8 }) ∧
  (∀ (p : RP) (nn : Half) (s : State),
    exec (ldPairInstr p nn) s = .next { s with cpu8 := s.cpu8.setPair p nn, cycles := s.cycles + 12 }) ∧
  (∀ s : State, exec .ld_sp_hl s =
    .next { s with cpu8 := { s.cpu8 with sp := s.cpu8.pairOf .hl }, cycles := s.cycles + 8 }) ∧
  (∀ (e : Byte) (s : State), ∃ t, exec (.ld_hl_sp_e e) s = .next t ∧
    (t.cpu8.pairOf .hl).toNat = offset16 s.cpu8.sp e ∧
    Flags8 t.cpu8.f False False (s.cpu8.sp.toNat % 16 + e.toNat % 16 > 0xF)
      (s.cpu8.sp.toNat % 256 + e.toNat > 0xFF) ∧
    t = { s with cpu8 := { s.cpu8.setPair .hl (t.cpu8.pairOf .hl) with f := t.cpu8.f }, cycles := s.cycles + 12 }) ∧
  (∀ (c : Cpu8) (k : R8) (v : Byte), k ≠ .hlm → (c.setReg k v).reg k = v ∧ (c.setReg k v).f = c.f ∧
    (c.setReg k v).sp = c.sp ∧ ∀ j, j ≠ k → (c.setReg k v).reg j = c.reg j) ∧
  (∀ (c : Cpu8) (p : RP) (v : Half), (c.setPair p v).pairOf p = v ∧ (c.setPair p v).a = c.a ∧
    (c.setPair p v).f = c.f ∧ ∀ q, q ≠ p → (c.setPair p v).pairOf q = c.pairOf q) ∧
  (∀ c : Cpu8, (c.pairOf .bc).toNat = c.b.toNat * 256 + c.c.toNat ∧
    (c.pairOf .de).toNat = c.d.toNat * 256 + c.e.toNat ∧ (c.pairOf .hl).toNat = c.h.toNat * 256 + c.l.toNat ∧
    (c.stackPair .af).toNat = c.a.toNat * 256 + c.f.toNat)

/-- R303, R306, R307, R310, R312, R314, R317, R319: loads from memory. The rows: LD r,(HL) (7), LD A,(BC), LD A,(DE),
LD A,(nn), LDH A,(n), LD A,(C), LD A,(HL+), LD A,(HL-). The byte is `read8` of the address, and nothing but the
destination and a moved HL changes beside what the read itself does. -/
def Obligations.Cpu8MemoryLoads : Prop :=
  (∀ (dst : R8) (s : State), dst ≠ .hlm → exec (ldInstr dst .hlm) s =
    .next { (read8 (s.cpu8.pairOf .hl) s).2 with
      cpu8 := s.cpu8.setReg dst (read8 (s.cpu8.pairOf .hl) s).1, cycles := s.cycles + 8 }) ∧
  (∀ (i : Instr) (a : Half) (delta : Half) (clocks : Nat) (s : State),
    (i, a, delta, clocks) ∈
      [(.ld_a_bcm, s.cpu8.pairOf .bc, 0#16, 8), (.ld_a_dem, s.cpu8.pairOf .de, 0#16, 8),
       (.ld_a_cm, BitVec.ofNat 16 (0xFF00 + s.cpu8.c.toNat), 0#16, 8),
       (.ld_a_hli, s.cpu8.pairOf .hl, 1#16, 8), (.ld_a_hld, s.cpu8.pairOf .hl, 0xFFFF#16, 8)] →
    exec i s = .next { (read8 a s).2 with
      cpu8 := { s.cpu8 with a := (read8 a s).1 }.setPair .hl (s.cpu8.pairOf .hl + delta),
      cycles := s.cycles + clocks }) ∧
  (∀ (nn : Half) (s : State), exec (.ld_a_nnm nn) s =
    .next { (read8 nn s).2 with cpu8 := { s.cpu8 with a := (read8 nn s).1 }, cycles := s.cycles + 16 }) ∧
  (∀ (n : Byte) (s : State), exec (.ldh_a_nm n) s =
    .next { (read8 (BitVec.ofNat 16 (0xFF00 + n.toNat)) s).2 with
      cpu8 := { s.cpu8 with a := (read8 (BitVec.ofNat 16 (0xFF00 + n.toNat)) s).1 }, cycles := s.cycles + 12 })

/-- R304, R305, R308, R309, R311, R313, R315, R316, R318, R322: stores. The rows: LD (HL),r (7), LD (HL),n, LD (BC),A,
LD (DE),A, LD (nn),A, LDH (n),A, LD (C),A, LD (HL+),A, LD (HL-),A, LD (nn),SP. Each is the write of `write8` at its
address and its clocks, and completes where R763 does not refuse the write. -/
def Obligations.Cpu8MemoryStores : Prop :=
  (∀ (src : R8) (s : State), src ≠ .hlm → ¬ Refused8 s (s.cpu8.pairOf .hl) (s.cpu8.reg src) →
    ∃ t, write8 (s.cpu8.pairOf .hl) (s.cpu8.reg src) s = .next t ∧
      exec (ldInstr .hlm src) s = .next { t with cycles := t.cycles + 8 }) ∧
  (∀ (n : Byte) (s : State), ¬ Refused8 s (s.cpu8.pairOf .hl) n →
    ∃ t, write8 (s.cpu8.pairOf .hl) n s = .next t ∧
      exec (.ld_hlm_n n) s = .next { t with cycles := t.cycles + 12 }) ∧
  (∀ (i : Instr) (a : Half) (delta : Half) (s : State),
    (i, a, delta) ∈
      [(.ld_bcm_a, s.cpu8.pairOf .bc, 0#16), (.ld_dem_a, s.cpu8.pairOf .de, 0#16),
       (.ld_cm_a, BitVec.ofNat 16 (0xFF00 + s.cpu8.c.toNat), 0#16),
       (.ld_hli_a, s.cpu8.pairOf .hl, 1#16), (.ld_hld_a, s.cpu8.pairOf .hl, 0xFFFF#16)] →
    ¬ Refused8 s a s.cpu8.a →
    ∃ t, write8 a s.cpu8.a s = .next t ∧
      exec i s = .next { t with cpu8 := t.cpu8.setPair .hl (t.cpu8.pairOf .hl + delta), cycles := t.cycles + 8 }) ∧
  (∀ (nn : Half) (s : State), ¬ Refused8 s nn s.cpu8.a →
    ∃ t, write8 nn s.cpu8.a s = .next t ∧ exec (.ld_nnm_a nn) s = .next { t with cycles := t.cycles + 16 }) ∧
  (∀ (n : Byte) (s : State), ¬ Refused8 s (BitVec.ofNat 16 (0xFF00 + n.toNat)) s.cpu8.a →
    ∃ t, write8 (BitVec.ofNat 16 (0xFF00 + n.toNat)) s.cpu8.a s = .next t ∧
      exec (.ldh_nm_a n) s = .next { t with cycles := t.cycles + 12 }) ∧
  (∀ (nn : Half) (s : State), ¬ Refused8 s nn (loByte s.cpu8.sp) → ¬ Refused8 s (nn + 1) (hiByte s.cpu8.sp) →
    ∃ t u, write8 nn (loByte s.cpu8.sp) s = .next t ∧ write8 (nn + 1) (hiByte s.cpu8.sp) t = .next u ∧
      exec (.ld_nnm_sp nn) s = .next { u with cycles := u.cycles + 20 })

/-- R300, R320, R325, R326: PUSH qq and POP qq, four rows each; POP AF masks the low nibble of F. A value pushed into core
memory stands little-endian at the new SP, no other byte changes, and `Pop16` reads it back and restores SP. -/
def Obligations.Cpu8Stack : Prop :=
  (∀ (q : QQ) (s : State), Pushes8 s (s.cpu8.stackPair q) →
    ∃ t, push16 (s.cpu8.stackPair q) s = .next t ∧
      exec (pushInstr q) s = .next { t with cycles := t.cycles + 16 }) ∧
  (∀ (q : QQ) (s : State), ∃ t, exec (popInstr q) s = .next t ∧
    t.cpu8.sp = s.cpu8.sp + 2 ∧ t.cycles = s.cycles + 12 ∧
    t.cpu8.stackPair q = (if q = .af then (pop16 s).1 &&& 0xFFF0#16 else (pop16 s).1) ∧
    t = { (pop16 s).2 with
      cpu8 := { s.cpu8.setStackPair q (pop16 s).1 with sp := s.cpu8.sp + 2 }, cycles := s.cycles + 12 }) ∧
  (∀ (v : Half) (s : State) (k1 k2 : Nat), Memory.wf s.cpu8.mem = true →
     place8 s.params.colorMode s.cpu8 (s.cpu8.sp - 1) = .cell k1 →
     place8 s.params.colorMode s.cpu8 (s.cpu8.sp - 2) = .cell k2 →
     ∃ t, push16 v s = .next t ∧
       t = { s with cpu8 := { s.cpu8 with sp := s.cpu8.sp - 2, mem := t.cpu8.mem } } ∧
       Memory.read t.cpu8.mem k1 = hiByte v ∧ Memory.read t.cpu8.mem k2 = loByte v ∧
       (∀ k, k ≠ k1 → k ≠ k2 → Memory.read t.cpu8.mem k = Memory.read s.cpu8.mem k) ∧
       pop16 t = (v, { t with cpu8 := { t.cpu8 with sp := s.cpu8.sp } }))

/-! CPU-8 arithmetic. -/

/-- R350 to R358: the eight operations on A with operand r or (HL) (aluInstr, 64 rows) and with an immediate
(aluImmInstr, 8 rows), and their encodings `10 ooo sss` and `11 ooo 110`. -/
def Obligations.Cpu8AluOnA : Prop :=
  (∀ (op : Alu8) (k : R8) (s : State), ∃ t, exec (aluInstr op k) s = .next t ∧
    AluRule op s.cpu8.a (readOperand8 k s).1 s.cpu8.f t.cpu8.a t.cpu8.f ∧
    t = { (readOperand8 k s).2 with
      cpu8 := { s.cpu8 with a := t.cpu8.a, f := t.cpu8.f }
      cycles := s.cycles + (if k = .hlm then 8 else 4) }) ∧
  (∀ (op : Alu8) (n : Byte) (s : State), ∃ t, exec (aluImmInstr op n) s = .next t ∧
    AluRule op s.cpu8.a n s.cpu8.f t.cpu8.a t.cpu8.f ∧
    t = { s with cpu8 := { s.cpu8 with a := t.cpu8.a, f := t.cpu8.f }, cycles := s.cycles + 8 }) ∧
  (∀ (op : Alu8) (k : R8) (rest : List Byte),
    decode8 (BitVec.ofNat 8 (0x80 + 8 * op.code + k.code) :: rest) = .ok (aluInstr op k, rest)) ∧
  (∀ (op : Alu8) (n : Byte) (rest : List Byte),
    decode8 (BitVec.ofNat 8 (0xC6 + 8 * op.code) :: n :: rest) = .ok (aluImmInstr op n, rest))

/-- R359 to R362: INC r, INC (HL), DEC r and DEC (HL), eight rows each; C is kept. -/
def Obligations.Cpu8IncDec : Prop :=
  (∀ (k : R8) (s : State), k ≠ .hlm → ∃ t, exec (incInstr k) s = .next t ∧
    (t.cpu8.reg k).toNat = ((s.cpu8.reg k).toNat + 1) % 256 ∧
    Flags8 t.cpu8.f (t.cpu8.reg k = 0#8) False ((s.cpu8.reg k).toNat % 16 = 15) (s.cpu8.f.getLsbD 4 = true) ∧
    t = { s with cpu8 := { s.cpu8.setReg k (t.cpu8.reg k) with f := t.cpu8.f }, cycles := s.cycles + 4 }) ∧
  (∀ (k : R8) (s : State), k ≠ .hlm → ∃ t, exec (decInstr k) s = .next t ∧
    (t.cpu8.reg k).toNat = ((s.cpu8.reg k).toNat + 255) % 256 ∧
    Flags8 t.cpu8.f (t.cpu8.reg k = 0#8) True ((s.cpu8.reg k).toNat % 16 = 0) (s.cpu8.f.getLsbD 4 = true) ∧
    t = { s with cpu8 := { s.cpu8.setReg k (t.cpu8.reg k) with f := t.cpu8.f }, cycles := s.cycles + 4 }) ∧
  (∀ (s : State) (v : Byte) (s1 : State), read8 (s.cpu8.pairOf .hl) s = (v, s1) →
    ¬ Refused8 s (s.cpu8.pairOf .hl) (v + 1) →
    ∃ s2 f', write8 (s.cpu8.pairOf .hl) (v + 1) s1 = .next s2 ∧
      Flags8 f' (v = 0xFF#8) False (v.toNat % 16 = 15) (s.cpu8.f.getLsbD 4 = true) ∧
      exec .inc_hlm s = .next { s2 with cpu8 := { s2.cpu8 with f := f' }, cycles := s2.cycles + 12 }) ∧
  (∀ (s : State) (v : Byte) (s1 : State), read8 (s.cpu8.pairOf .hl) s = (v, s1) →
    ¬ Refused8 s (s.cpu8.pairOf .hl) (v - 1) →
    ∃ s2 f', write8 (s.cpu8.pairOf .hl) (v - 1) s1 = .next s2 ∧
      Flags8 f' (v = 1#8) True (v.toNat % 16 = 0) (s.cpu8.f.getLsbD 4 = true) ∧
      exec .dec_hlm s = .next { s2 with cpu8 := { s2.cpu8 with f := f' }, cycles := s2.cycles + 12 })

/-- R363 to R366: ADD HL,rr, INC rr and DEC rr, four rows each, and ADD SP,e. -/
def Obligations.Cpu8WordArithmetic : Prop :=
  (∀ (p : RP) (s : State), ∃ t, exec (addHlInstr p) s = .next t ∧
    (t.cpu8.pairOf .hl).toNat = ((s.cpu8.pairOf .hl).toNat + (s.cpu8.pairOf p).toNat) % 0x10000 ∧
    Flags8 t.cpu8.f (s.cpu8.f.getLsbD 7 = true) False
      ((s.cpu8.pairOf .hl).toNat % 0x1000 + (s.cpu8.pairOf p).toNat % 0x1000 > 0xFFF)
      ((s.cpu8.pairOf .hl).toNat + (s.cpu8.pairOf p).toNat > 0xFFFF) ∧
    t = { s with cpu8 := { s.cpu8.setPair .hl (t.cpu8.pairOf .hl) with f := t.cpu8.f }, cycles := s.cycles + 8 }) ∧
  (∀ (p : RP) (s : State), exec (incPairInstr p) s =
    .next { s with cpu8 := s.cpu8.setPair p (s.cpu8.pairOf p + 1), cycles := s.cycles + 8 }) ∧
  (∀ (p : RP) (s : State), exec (decPairInstr p) s =
    .next { s with cpu8 := s.cpu8.setPair p (s.cpu8.pairOf p - 1), cycles := s.cycles + 8 }) ∧
  (∀ (e : Byte) (s : State), ∃ t, exec (.add_sp_e e) s = .next t ∧
    t.cpu8.sp.toNat = offset16 s.cpu8.sp e ∧
    Flags8 t.cpu8.f False False (s.cpu8.sp.toNat % 16 + e.toNat % 16 > 0xF)
      (s.cpu8.sp.toNat % 256 + e.toNat > 0xFF) ∧
    t = { s with cpu8 := { s.cpu8 with sp := t.cpu8.sp, f := t.cpu8.f }, cycles := s.cycles + 16 })

/-- R367 to R374: DAA, CPL, SCF, CCF, RLCA, RRCA, RLA and RRA. And, derived with R351 and R353: DAA makes a binary sum or
difference of two BCD numbers the BCD number of the sum or difference modulo 100, with C the decimal carry or borrow. -/
def Obligations.Cpu8AccumulatorFlags : Prop :=
  (∀ s : State, ∃ t corr, exec .daa s = .next t ∧
    corr = (if s.cpu8.f.getLsbD 4 = true ∨ (s.cpu8.f.getLsbD 6 = false ∧ s.cpu8.a.toNat > 0x99) then 0x60 else 0) +
      (if s.cpu8.f.getLsbD 5 = true ∨ (s.cpu8.f.getLsbD 6 = false ∧ s.cpu8.a.toNat % 16 > 9) then 6 else 0) ∧
    t.cpu8.a.toNat = (if s.cpu8.f.getLsbD 6 then s.cpu8.a.toNat + 256 - corr else s.cpu8.a.toNat + corr) % 256 ∧
    Flags8 t.cpu8.f (t.cpu8.a = 0#8) (s.cpu8.f.getLsbD 6 = true) False (corr ≥ 0x60) ∧
    t = { s with cpu8 := { s.cpu8 with a := t.cpu8.a, f := t.cpu8.f }, cycles := s.cycles + 4 }) ∧
  (∀ s : State, ∃ t, exec .cpl s = .next t ∧ t.cpu8.a = ~~~s.cpu8.a ∧
    Flags8 t.cpu8.f (s.cpu8.f.getLsbD 7 = true) True True (s.cpu8.f.getLsbD 4 = true) ∧
    t = { s with cpu8 := { s.cpu8 with a := t.cpu8.a, f := t.cpu8.f }, cycles := s.cycles + 4 }) ∧
  (∀ s : State, ∃ t, exec .scf s = .next t ∧
    Flags8 t.cpu8.f (s.cpu8.f.getLsbD 7 = true) False False True ∧
    t = { s with cpu8 := { s.cpu8 with f := t.cpu8.f }, cycles := s.cycles + 4 }) ∧
  (∀ s : State, ∃ t, exec .ccf s = .next t ∧
    Flags8 t.cpu8.f (s.cpu8.f.getLsbD 7 = true) False False (s.cpu8.f.getLsbD 4 = false) ∧
    t = { s with cpu8 := { s.cpu8 with f := t.cpu8.f }, cycles := s.cycles + 4 }) ∧
  (∀ (i : Instr) (op : Rot8) (s : State), (i, op) ∈
      [(Instr.rlca, Rot8.rlc), (.rrca, .rrc), (.rla, .rl), (.rra, .rr)] →
    ∃ t out, exec i s = .next t ∧ RotRule op s.cpu8.a (s.cpu8.f.getLsbD 4) t.cpu8.a out ∧
      Flags8 t.cpu8.f False False False (out = true) ∧
      t = { s with cpu8 := { s.cpu8 with a := t.cpu8.a, f := t.cpu8.f }, cycles := s.cycles + 4 }) ∧
  (∀ (x y : Nat) (s : State), x < 100 → y < 100 → s.cpu8.a = bcd x →
    ∃ t u, exec (.add_a_n (bcd y)) s = .next t ∧ exec .daa t = .next u ∧
      u.cpu8.a = bcd ((x + y) % 100) ∧ (u.cpu8.f.getLsbD 4 = true ↔ 100 ≤ x + y)) ∧
  (∀ (x y : Nat) (s : State), x < 100 → y < 100 → s.cpu8.a = bcd x →
    ∃ t u, exec (.sub_n (bcd y)) s = .next t ∧ exec .daa t = .next u ∧
      u.cpu8.a = bcd ((x + 100 - y) % 100) ∧ (u.cpu8.f.getLsbD 4 = true ↔ x < y))

/-- R400 to R408: the CB rotates and shifts (rotInstr, 64 rows), on a register and on (HL), and their encodings; the
prefix's own row runs the CB table's instruction (R205), and completes where R763 refuses no write to (HL). -/
def Obligations.Cpu8Rotates : Prop :=
  (∀ (op : Rot8) (k : R8) (s : State), k ≠ .hlm → ∃ t out, exec (rotInstr op k) s = .next t ∧
    RotRule op (s.cpu8.reg k) (s.cpu8.f.getLsbD 4) (t.cpu8.reg k) out ∧
    Flags8 t.cpu8.f (t.cpu8.reg k = 0#8) False False (out = true) ∧
    t = { s with cpu8 := { s.cpu8.setReg k (t.cpu8.reg k) with f := t.cpu8.f }, cycles := s.cycles + 8 }) ∧
  (∀ (op : Rot8) (s : State) (v : Byte) (s1 : State), read8 (s.cpu8.pairOf .hl) s = (v, s1) →
    ∃ r out f', RotRule op v (s.cpu8.f.getLsbD 4) r out ∧ Flags8 f' (r = 0#8) False False (out = true) ∧
      (¬ Refused8 s (s.cpu8.pairOf .hl) r → ∃ s2, write8 (s.cpu8.pairOf .hl) r s1 = .next s2 ∧
        exec (rotInstr op .hlm) s = .next { s2 with cpu8 := { s2.cpu8 with f := f' }, cycles := s2.cycles + 16 })) ∧
  (∀ (op : Rot8) (k : R8) (rest : List Byte),
    decode8 (0xCB#8 :: BitVec.ofNat 8 (8 * op.code + k.code) :: rest) = .ok (rotInstr op k, rest)) ∧
  (∀ (op2 : Byte) (s : State), exec (.cbPrefix op2) s = exec (decodeCb op2.toNat) s ∧
    ((∀ r, ¬ Refused8 s (s.cpu8.pairOf .hl) r) → ∃ t, exec (.cbPrefix op2) s = .next t))

/-- R409 to R411: BIT, RES and SET (64 rows each), and their encodings. -/
def Obligations.Cpu8Bits : Prop :=
  (∀ (b : BitVec 3) (k : R8) (s : State), ∃ t, exec (bitInstr b k) s = .next t ∧
    Flags8 t.cpu8.f ((readOperand8 k s).1.getLsbD b.toNat = false) False True (s.cpu8.f.getLsbD 4 = true) ∧
    t = { (readOperand8 k s).2 with cpu8 := { s.cpu8 with f := t.cpu8.f }
                                    cycles := s.cycles + (if k = .hlm then 12 else 8) }) ∧
  (∀ (set : Bool) (b : BitVec 3) (k : R8) (s : State), k ≠ .hlm →
    ∃ t, exec (if set then setInstr b k else resInstr b k) s = .next t ∧
    (∀ i : Fin 8, (t.cpu8.reg k).getLsbD i = if i.val = b.toNat then set else (s.cpu8.reg k).getLsbD i) ∧
    t = { s with cpu8 := s.cpu8.setReg k (t.cpu8.reg k), cycles := s.cycles + 8 }) ∧
  (∀ (set : Bool) (b : BitVec 3) (s : State) (v : Byte) (s1 : State), read8 (s.cpu8.pairOf .hl) s = (v, s1) →
    ∃ r : Byte, (∀ i : Fin 8, r.getLsbD i = if i.val = b.toNat then set else v.getLsbD i) ∧
      (¬ Refused8 s (s.cpu8.pairOf .hl) r → ∃ s2, write8 (s.cpu8.pairOf .hl) r s1 = .next s2 ∧
        exec (if set then setInstr b .hlm else resInstr b .hlm) s = .next { s2 with cycles := s2.cycles + 16 })) ∧
  (∀ (b : BitVec 3) (k : R8) (rest : List Byte),
    decode8 (0xCB#8 :: BitVec.ofNat 8 (0x40 + 8 * b.toNat + k.code) :: rest) = .ok (bitInstr b k, rest) ∧
    decode8 (0xCB#8 :: BitVec.ofNat 8 (0x80 + 8 * b.toNat + k.code) :: rest) = .ok (resInstr b k, rest) ∧
    decode8 (0xCB#8 :: BitVec.ofNat 8 (0xC0 + 8 * b.toNat + k.code) :: rest) = .ok (setInstr b k, rest))

/-! CPU-8 control. -/

/-- R430 to R441: JP nn, JP cc,nn (4), JP (HL), JR e, JR cc,e (4), CALL nn, CALL cc,nn (4), RET, RET cc (4), RETI and
RST (8). PC stands after the instruction's bytes. -/
def Obligations.Cpu8ControlFlow : Prop :=
  (∀ (nn : Half) (s : State), exec (.jp_nn nn) s =
    .next { s with cpu8 := { s.cpu8 with pc := nn }, cycles := s.cycles + 16 }) ∧
  (∀ (cc : Cc) (nn : Half) (s : State),
    (Cond8 cc s.cpu8.f → exec (jpInstr cc nn) s =
      .next { s with cpu8 := { s.cpu8 with pc := nn }, cycles := s.cycles + 16 }) ∧
    (¬ Cond8 cc s.cpu8.f → exec (jpInstr cc nn) s = .next { s with cycles := s.cycles + 12 })) ∧
  (∀ s : State, exec .jp_hl s =
    .next { s with cpu8 := { s.cpu8 with pc := s.cpu8.pairOf .hl }, cycles := s.cycles + 4 }) ∧
  (∀ (e : Byte) (s : State), exec (.jr_e e) s =
    .next { s with cpu8 := { s.cpu8 with pc := BitVec.ofNat 16 (offset16 s.cpu8.pc e) }
                   cycles := s.cycles + 12 }) ∧
  (∀ (cc : Cc) (e : Byte) (s : State),
    (Cond8 cc s.cpu8.f → exec (jrInstr cc e) s =
      .next { s with cpu8 := { s.cpu8 with pc := BitVec.ofNat 16 (offset16 s.cpu8.pc e) }
                     cycles := s.cycles + 12 }) ∧
    (¬ Cond8 cc s.cpu8.f → exec (jrInstr cc e) s = .next { s with cycles := s.cycles + 8 })) ∧
  (∀ (nn : Half) (s : State), Pushes8 s s.cpu8.pc → ∃ t, push16 s.cpu8.pc s = .next t ∧
    exec (.call_nn nn) s = .next { t with cpu8 := { t.cpu8 with pc := nn }, cycles := t.cycles + 24 }) ∧
  (∀ (cc : Cc) (nn : Half) (s : State),
    (Cond8 cc s.cpu8.f → Pushes8 s s.cpu8.pc → ∃ t, push16 s.cpu8.pc s = .next t ∧
      exec (callInstr cc nn) s = .next { t with cpu8 := { t.cpu8 with pc := nn }, cycles := t.cycles + 24 }) ∧
    (¬ Cond8 cc s.cpu8.f → exec (callInstr cc nn) s = .next { s with cycles := s.cycles + 12 })) ∧
  (∀ (k : BitVec 3) (s : State), Pushes8 s s.cpu8.pc → ∃ t, push16 s.cpu8.pc s = .next t ∧
    exec (rstInstr k) s =
      .next { t with cpu8 := { t.cpu8 with pc := BitVec.ofNat 16 (k.toNat * 8) }, cycles := t.cycles + 16 }) ∧
  (∀ (v : Half) (s s1 : State), pop16 s = (v, s1) →
    exec .ret s = .next { s1 with cpu8 := { s1.cpu8 with pc := v }, cycles := s.cycles + 16 } ∧
    exec .reti s = .next { s1 with cpu8 := { s1.cpu8 with pc := v, ime := true, eiPending := false }
                                   cycles := s.cycles + 16 } ∧
    ∀ cc, (Cond8 cc s.cpu8.f → exec (retInstr cc) s =
        .next { s1 with cpu8 := { s1.cpu8 with pc := v }, cycles := s.cycles + 20 }) ∧
      (¬ Cond8 cc s.cpu8.f → exec (retInstr cc) s = .next { s with cycles := s.cycles + 8 }))

/-- R442 to R447: NOP, HALT, STOP (the speed switch, and the stop with and without STOP_RESETS_DIV), DI and EI (with and
without EI_DELAY); and the eleven illegal opcodes, which stop the machine with the opcode and its address (PC is one past
it). That STOP with STOP_RESETS_DIV clears DIV16 and leaves the timer clock and TIMA as they are is the reading of log entry
31, the model's. -/
def Obligations.Cpu8MachineControl : Prop :=
  (∀ s : State,
     exec .nop s = .next { s with cycles := s.cycles + 4 } ∧
     exec .halt s = .next { s with cpu8 := { s.cpu8 with halted := true }, cycles := s.cycles + 4 } ∧
     exec .di s = .next { s with cpu8 := { s.cpu8 with ime := false, eiPending := false }, cycles := s.cycles + 4 } ∧
     (s.params.eiDelay = false → exec .ei s =
       .next { s with cpu8 := { s.cpu8 with ime := true }, cycles := s.cycles + 4 }) ∧
     (s.params.eiDelay = true → exec .ei s =
       .next { s with cpu8 := { s.cpu8 with eiPending := true }, cycles := s.cycles + 4 }) ∧
     ∀ b : Byte,
       (s.params.colorMode = true ∧ s.cpu8.speedArmed = true → exec (.stop b) s =
         .next { s with cpu8 := { s.cpu8 with doubleSpeed := !s.cpu8.doubleSpeed, speedArmed := false }
                        cycles := s.cycles + 4 }) ∧
       (¬ (s.params.colorMode = true ∧ s.cpu8.speedArmed = true) → exec (.stop b) s =
         .next { s with cpu8 := { s.cpu8 with stopped := true
                                              div16 := if s.params.stopResetsDiv then 0 else s.cpu8.div16 }
                        cycles := s.cycles + 4 })) ∧
  (∀ (i : Instr) (op : Nat) (s : State), (i, op) ∈
      [(Instr.illegal_d3, 0xD3), (.illegal_db, 0xDB), (.illegal_dd, 0xDD), (.illegal_e3, 0xE3), (.illegal_e4, 0xE4),
       (.illegal_eb, 0xEB), (.illegal_ec, 0xEC), (.illegal_ed, 0xED), (.illegal_f4, 0xF4), (.illegal_fc, 0xFC),
       (.illegal_fd, 0xFD)] →
    exec i s = .fault (.undefinedOpcode op (s.cpu8.pc - 1).toNat) ∧
    ∀ rest, decode8 (BitVec.ofNat 8 op :: rest) = .ok (i, rest)) ∧
  (∀ s : State, s.fault = none → s.params.variant = .cpu8 → s.cpu8.stopped = false → s.cpu8.halted = false →
    s.cpu8.dispatches = false → (read8 s.cpu8.pc (beginStep s)).1 = 0xD3#8 →
    step s = .fault (.undefinedOpcode 0xD3 s.cpu8.pc.toNat))

/-! The CPU-8 bus, registers and step. -/

namespace Sys2Proof.Claims

open Sys2Proof.Machine

/-- The core memory a CPU-8 address names, by its key in `Cpu8.mem` (R110, R112, R114, R115). -/
def cellOf (s : State) (a : Nat) : Option Nat :=
  let vram := if s.params.colorMode then s.cpu8.vbk.toNat else 0
  let wram := if s.params.colorMode ∧ s.cpu8.svbk.toNat ≠ 0 then s.cpu8.svbk.toNat else 1
  if 0x8000 ≤ a ∧ a < 0xA000 then some (vram * 0x10000 + a)
  else if 0xC000 ≤ a ∧ a < 0xD000 then some a
  else if 0xD000 ≤ a ∧ a < 0xE000 then some (wram * 0x10000 + a)
  else if 0xE000 ≤ a ∧ a < 0xF000 then some (a - 0x2000)
  else if 0xF000 ≤ a ∧ a < 0xFE00 then some (wram * 0x10000 + (a - 0x2000))
  else if 0xFE00 ≤ a ∧ a < 0xFEA0 then some a
  else if 0xFF80 ≤ a ∧ a < 0xFFFF then some a
  else none

/-- The addresses of core IO registers; 0xFFFF is IE (R117, R37). -/
def isIo8 (s : State) (a : Nat) : Prop :=
  a ∈ [0xFF04, 0xFF05, 0xFF06, 0xFF07, 0xFF0F, 0xFF46, 0xFFFF] ∨
    s.params.colorMode = true ∧ a ∈ [0xFF4D, 0xFF4F, 0xFF51, 0xFF52, 0xFF53, 0xFF54, 0xFF55, 0xFF70]

/-- The keys a write to an address may store to: the byte itself; OAM, by the DMA register (R760); the VRAM bank, by
HDMA5 (R762). -/
def StoresTo8 (s : State) (a : Half) (k : Nat) : Prop :=
  cellOf s a.toNat = some k ∨ (a = 0xFF46#16 ∧ 0xFE00 ≤ k ∧ k < 0xFEA0) ∨
    (s.params.colorMode = true ∧ a = 0xFF55#16 ∧ s.cpu8.vbk.toNat * 0x10000 + 0x8000 ≤ k ∧
      k < s.cpu8.vbk.toNat * 0x10000 + 0xA000)

/-- The registers and hidden state no bus write changes. -/
def SameCpu8 (c d : Cpu8) : Prop :=
  d.a = c.a ∧ d.f = c.f ∧ d.b = c.b ∧ d.c = c.c ∧ d.d = c.d ∧ d.e = c.e ∧ d.h = c.h ∧ d.l = c.l ∧ d.sp = c.sp ∧
    d.pc = c.pc ∧ d.ime = c.ime ∧ d.halted = c.halted ∧ d.stopped = c.stopped ∧ d.eiPending = c.eiPending ∧
    d.doubleSpeed = c.doubleSpeed

/-- The bytes at an address are these: reading each answers it and draws no free value. -/
def CodeAt8 (s : State) (a : Half) (bytes : List Byte) : Prop :=
  ∀ (j : Nat) (b : Byte), bytes[j]? = some b → read8 (a + BitVec.ofNat 16 j) s = (b, s)

/-- Ready to fetch at a CPU-8 boundary (R810): not faulted, stopped or halted, and no interrupt to dispatch. -/
def Fetches8 (s : State) : Prop :=
  s.fault = none ∧ s.params.variant = .cpu8 ∧ s.cpu8.stopped = false ∧ s.cpu8.halted = false ∧
    ¬ (s.cpu8.ime = true ∧ s.cpu8.ie.setWidth 5 &&& s.cpu8.iflag ≠ 0#5)

/-- A register byte with its unused bits drawn (R13, D11). -/
def drawn8 (used v : Byte) (s : State) : Byte × State :=
  ((v &&& used) ||| (Config.draw 8 s.draws &&& ~~~used), { s with draws := s.draws + 1 })

/-- How often the timer clock falls (R721): once in this many clocks. -/
def timerPeriod (tac : BitVec 3) : Nat :=
  if tac.toNat % 4 = 0 then 1024 else if tac.toNat % 4 = 1 then 16 else if tac.toNat % 4 = 2 then 64 else 256

end Sys2Proof.Claims

/-- R110 to R118, R37, R38, R40 to R44: what an access at each address does. Core memory reads and writes its byte, by bank
and with the echo; ROM8 space answers the mapper's byte, or a draw where the model's table lists none (log entry 6, the
model's choice), and hands a write on through the outbox (log entry 10, the model's choice); 0xFEA0 to 0xFEFF reads a draw
and ignores a write; the other IO addresses read a draw and hand a write on. And the core's IO registers: a write stores
the register's used bits, a read answers them with the unused bits drawn; the colour-mode registers exist in colour mode
only. -/
def Obligations.Cpu8AddressMap : Prop :=
  (∀ (a : Half) (v : Byte) (s : State),
     (∀ k, cellOf s a.toNat = some k →
       read8 a s = (Memory.read s.cpu8.mem k, s) ∧
       write8 a v s = .next { s with cpu8 := { s.cpu8 with mem := Memory.write s.cpu8.mem k v } }) ∧
     (a.toNat < 0x8000 ∨ (0xA000 ≤ a.toNat ∧ a.toNat < 0xC000) →
       write8 a v s = .next { s with outbox := s.outbox ++ [.rom8 a v] } ∧
       ∀ b, (Image.find? s.cart8 a.toNat = some b → read8 a s = (b, s)) ∧
         (Image.find? s.cart8 a.toNat = none → read8 a s = draw 8 s)) ∧
     (0xFEA0 ≤ a.toNat ∧ a.toNat < 0xFF00 → read8 a s = draw 8 s ∧ write8 a v s = .next s) ∧
     (0xFF00 ≤ a.toNat ∧ a.toNat < 0xFF80 → ¬ isIo8 s a.toNat →
       read8 a s = draw 8 s ∧ write8 a v s = .next { s with outbox := s.outbox ++ [.io8 a v] })) ∧
  (∀ (v : Byte) (s : State),
     read8 0xFF04#16 s = (BitVec.ofNat 8 (s.cpu8.div16.toNat / 256), s) ∧
     read8 0xFF05#16 s = (s.cpu8.tima, s) ∧ read8 0xFF06#16 s = (s.cpu8.tma, s) ∧
     read8 0xFF07#16 s = drawn8 0x07#8 (s.cpu8.tac.setWidth 8) s ∧
     read8 0xFF0F#16 s = drawn8 0x1F#8 (s.cpu8.iflag.setWidth 8) s ∧
     read8 0xFF46#16 s = (s.cpu8.oamDma, s) ∧ read8 0xFFFF#16 s = (s.cpu8.ie, s) ∧
     write8 0xFF05#16 v s = .next { s with cpu8 := { s.cpu8 with tima := v } } ∧
     write8 0xFF06#16 v s = .next { s with cpu8 := { s.cpu8 with tma := v } } ∧
     write8 0xFF0F#16 v s = .next { s with cpu8 := { s.cpu8 with iflag := v.setWidth 5 } } ∧
     write8 0xFFFF#16 v s = .next { s with cpu8 := { s.cpu8 with ie := v } } ∧
     (s.params.colorMode = true →
       read8 0xFF4D#16 s = drawn8 0x81#8
         ((if s.cpu8.doubleSpeed then 0x80#8 else 0#8) ||| (if s.cpu8.speedArmed then 1#8 else 0#8)) s ∧
       read8 0xFF4F#16 s = drawn8 0x01#8 (s.cpu8.vbk.setWidth 8) s ∧
       read8 0xFF70#16 s = drawn8 0x07#8 (s.cpu8.svbk.setWidth 8) s ∧
       read8 0xFF55#16 s = (0xFF#8, s) ∧
       (∀ a ∈ [0xFF51#16, 0xFF52#16, 0xFF53#16, 0xFF54#16], read8 a s = draw 8 s) ∧
       write8 0xFF4D#16 v s = .next { s with cpu8 := { s.cpu8 with speedArmed := v.getLsbD 0 } } ∧
       write8 0xFF4F#16 v s = .next { s with cpu8 := { s.cpu8 with vbk := v.setWidth 1 } } ∧
       write8 0xFF70#16 v s = .next { s with cpu8 := { s.cpu8 with svbk := v.setWidth 3 } } ∧
       write8 0xFF51#16 v s = .next { s with cpu8 := { s.cpu8 with hdma1 := v } } ∧
       write8 0xFF52#16 v s = .next { s with cpu8 := { s.cpu8 with hdma2 := (v >>> 4).setWidth 4 } } ∧
       write8 0xFF53#16 v s = .next { s with cpu8 := { s.cpu8 with hdma3 := v.setWidth 5 } } ∧
       write8 0xFF54#16 v s = .next { s with cpu8 := { s.cpu8 with hdma4 := (v >>> 4).setWidth 4 } }))

/-- The frame of every CPU-8 access (R110 to R119, R760, R762, R763): a read changes nothing but the index of the next free
value; a write that is not refused completes, and changes no byte but those it stores to and no register of the CPU; it is
refused exactly for HDMA5 with bit 7 set in colour mode. And of the stores LD (HL),r, LD (HL),n, LD (BC),A, LD (DE),A,
LD (nn),A, LDH (n),A, LD (C),A, LD (HL+),A, LD (HL-),A, INC (HL), DEC (HL) and the CB forms on (HL) that write: every byte
outside those that a write at the address computed here, from the state before, stores to reads as before. -/
def Obligations.Cpu8AccessFrame : Prop :=
  (∀ (a : Half) (v : Byte) (s : State),
     (read8 a s).2 = { s with draws := (read8 a s).2.draws } ∧
     (Refused8 s a v → write8 a v s = .refused .hblankHdma) ∧
     (¬ Refused8 s a v → ∃ t, write8 a v s = .next t ∧ SameCpu8 s.cpu8 t.cpu8 ∧ t.params = s.params ∧
       t.cpu32 = s.cpu32 ∧ t.cart8 = s.cart8 ∧ t.fault = s.fault ∧
       (Memory.wf s.cpu8.mem = true → ∀ k, ¬ StoresTo8 s a k → Memory.read t.cpu8.mem k = Memory.read s.cpu8.mem k))) ∧
  (∀ (i : Instr) (a : Half) (s t : State), Memory.wf s.cpu8.mem = true →
     (a = s.cpu8.pairOf .hl ∧ ((∃ src, src ≠ R8.hlm ∧ i = ldInstr .hlm src) ∨ (∃ n, i = .ld_hlm_n n) ∨
         i = .inc_hlm ∨ i = .dec_hlm ∨ i = .ld_hli_a ∨ i = .ld_hld_a ∨ (∃ op, i = rotInstr op .hlm) ∨
         (∃ b, i = resInstr b .hlm) ∨ (∃ b, i = setInstr b .hlm))) ∨
       (a = s.cpu8.pairOf .bc ∧ i = .ld_bcm_a) ∨ (a = s.cpu8.pairOf .de ∧ i = .ld_dem_a) ∨ i = .ld_nnm_a a ∨
       (∃ n : Byte, a = BitVec.ofNat 16 (0xFF00 + n.toNat) ∧ i = .ldh_nm_a n) ∨
       (a = BitVec.ofNat 16 (0xFF00 + s.cpu8.c.toNat) ∧ i = .ld_cm_a) →
     exec i s = .next t →
     (∀ k, ¬ StoresTo8 s a k → Memory.read t.cpu8.mem k = Memory.read s.cpu8.mem k) ∧
       t.cpu8.pc = s.cpu8.pc ∧ t.cpu8.sp = s.cpu8.sp ∧ t.cpu8.a = s.cpu8.a ∧ t.cpu8.ime = s.cpu8.ime ∧
       t.cpu32 = s.cpu32 ∧ t.params = s.params)

/-- R702 to R705, R810: the CPU-8 boundary. With IME set and a serviceable interrupt, halted or not, the step clears
IF[k] for the lowest serviceable k, clears IME and a pending EI, pushes PC, goes to 0x40 + 8k and costs 20 cycles beside
those of a copy the push starts, which is the reading of log entry 31, the model's; the timer runs over them all. Halted
with nothing serviceable, a step is four cycles of the timer; halted with a serviceable interrupt, it is the step of the
machine that is not halted; stopped, nothing happens, until `setInputs` with a key pressed. -/
def Obligations.Cpu8Boundary : Prop :=
  (∀ (s : State) (k : Nat), s.fault = none → s.params.variant = .cpu8 → s.cpu8.stopped = false → s.cpu8.ime = true →
     k < 5 → s.cpu8.ie.getLsbD k = true ∧ s.cpu8.iflag.getLsbD k = true →
     (∀ j, j < k → ¬ (s.cpu8.ie.getLsbD j = true ∧ s.cpu8.iflag.getLsbD j = true)) →
     Pushes8 s s.cpu8.pc →
     ∃ (t : State) (f : BitVec 5),
       (∀ j : Fin 5, f.getLsbD j = (s.cpu8.iflag.getLsbD j && decide (j.val ≠ k))) ∧
       push16 s.cpu8.pc { s with
         cpu8 := { s.cpu8 with halted := false, ime := false, eiPending := false, iflag := f }
         cycles := 0
         outbox := [] } = .next t ∧
       step s = .next { t with
         cpu8 := Cpu8.advance (t.cycles + 20) { t.cpu8 with pc := BitVec.ofNat 16 (0x40 + 8 * k) }
         cycles := t.cycles + 20 }) ∧
  (∀ s : State, s.fault = none → s.params.variant = .cpu8 →
     (s.cpu8.stopped = true → step s = .next { s with cycles := 0, outbox := [] }) ∧
     (∀ mask, mask ≠ 0 → ∃ t, setInputs mask s = .next t ∧ t.cpu8 = { s.cpu8 with stopped := false }) ∧
     (s.cpu8.stopped = false → s.cpu8.halted = true →
       (s.cpu8.ie.setWidth 5 &&& s.cpu8.iflag = 0#5 →
         step s = .next { s with cpu8 := Cpu8.advance 4 s.cpu8, cycles := 4, outbox := [] }) ∧
       (s.cpu8.ie.setWidth 5 &&& s.cpu8.iflag ≠ 0#5 →
         step s = step { s with cpu8 := { s.cpu8 with halted := false } })))

/-- R720 to R722: DIV16 counts clocks, and with the timer enabled TIMA moves once in each period of the selected divider
bit, reloading from TMA and flagging the Timer interrupt when it stood at 0xFF; with TAC = 5 the period is 16. A write to
DIV clears DIV16 and a write to TAC stores its three bits; either moves TIMA exactly when the timer clock falls by it. -/
def Obligations.Cpu8Timer : Prop :=
  (∀ (n : Nat) (c : Cpu8), c.stopped = false → (Cpu8.advance n c).div16 = c.div16 + BitVec.ofNat 16 n) ∧
  (∀ (n : Nat) (c : Cpu8), c.stopped = true → Cpu8.advance n c = c) ∧
  (∀ c : Cpu8, c.stopped = false → c.tac.getLsbD 2 = true →
    c.timerIn = c.div16.getLsbD (if c.tac.toNat % 4 = 0 then 9 else if c.tac.toNat % 4 = 1 then 3
      else if c.tac.toNat % 4 = 2 then 5 else 7) →
    (Cpu8.advance (timerPeriod c.tac) c).tima = (if c.tima = 0xFF#8 then c.tma else c.tima + 1) ∧
    (Cpu8.advance (timerPeriod c.tac) c).iflag = (if c.tima = 0xFF#8 then c.iflag ||| 0b00100#5 else c.iflag) ∧
    Cpu8.advance (timerPeriod c.tac) c =
      { c with tima := (Cpu8.advance (timerPeriod c.tac) c).tima
               iflag := (Cpu8.advance (timerPeriod c.tac) c).iflag
               div16 := c.div16 + BitVec.ofNat 16 (timerPeriod c.tac) }) ∧
  (∀ (n : Nat) (c : Cpu8), c.tac.getLsbD 2 = false → c.timerIn = false →
    (Cpu8.advance n c).tima = c.tima ∧ (Cpu8.advance n c).iflag = c.iflag) ∧
  (∀ (v : Byte) (s : State),
     (∃ t, write8 0xFF04#16 v s = .next t ∧ t.cpu8.div16 = 0#16 ∧ t.cpu8.tac = s.cpu8.tac ∧ t.cpu8.timerIn = false ∧
       (s.cpu8.timerIn = false → t.cpu8.tima = s.cpu8.tima ∧ t.cpu8.iflag = s.cpu8.iflag) ∧
       (s.cpu8.timerIn = true →
         t.cpu8.tima = (if s.cpu8.tima = 0xFF#8 then s.cpu8.tma else s.cpu8.tima + 1) ∧
         t.cpu8.iflag = (if s.cpu8.tima = 0xFF#8 then s.cpu8.iflag ||| 0b00100#5 else s.cpu8.iflag))) ∧
     (∃ t, write8 0xFF07#16 v s = .next t ∧ t.cpu8.tac = v.setWidth 3 ∧ t.cpu8.div16 = s.cpu8.div16 ∧
       t.cpu8.timerIn = (v.getLsbD 2 && s.cpu8.div16.getLsbD (if v.toNat % 4 = 0 then 9 else if v.toNat % 4 = 1 then 3
         else if v.toNat % 4 = 2 then 5 else 7)) ∧
       (s.cpu8.timerIn = false ∨ t.cpu8.timerIn = true → t.cpu8.tima = s.cpu8.tima ∧ t.cpu8.iflag = s.cpu8.iflag) ∧
       (s.cpu8.timerIn = true ∧ t.cpu8.timerIn = false →
         t.cpu8.tima = (if s.cpu8.tima = 0xFF#8 then s.cpu8.tma else s.cpu8.tima + 1) ∧
         t.cpu8.iflag = (if s.cpu8.tima = 0xFF#8 then s.cpu8.iflag ||| 0b00100#5 else s.cpu8.iflag))))

/-- R760, R762: the copies. A write of v to 0xFF46 copies the 160 bytes at v × 256 to OAM; a write to HDMA5 with bit 7
clear copies (v + 1) × 16 bytes to VRAM, for 32 or 64 cycles a block. Stated for source bytes in core memory outside the
bytes copied to; no other byte changes. -/
def Obligations.Cpu8Dma : Prop :=
  (∀ (v : Byte) (s : State), Memory.wf s.cpu8.mem = true →
    (∀ i, i < 160 → ∃ k, cellOf s (v.toNat * 256 + i) = some k ∧ ¬ (0xFE00 ≤ k ∧ k < 0xFEA0)) →
    ∃ t, write8 0xFF46#16 v s = .next t ∧
      (∀ i k, i < 160 → cellOf s (v.toNat * 256 + i) = some k →
        Memory.read t.cpu8.mem (0xFE00 + i) = Memory.read s.cpu8.mem k) ∧
      (∀ k, ¬ (0xFE00 ≤ k ∧ k < 0xFEA0) → Memory.read t.cpu8.mem k = Memory.read s.cpu8.mem k) ∧
      t = { s with cpu8 := { s.cpu8 with oamDma := v, mem := t.cpu8.mem } }) ∧
  (∀ (v : Byte) (s : State) (src dst len base : Nat), Memory.wf s.cpu8.mem = true → s.params.colorMode = true →
    v.getLsbD 7 = false →
    src = s.cpu8.hdma1.toNat * 256 + s.cpu8.hdma2.toNat * 16 →
    dst = s.cpu8.hdma3.toNat * 256 + s.cpu8.hdma4.toNat * 16 →
    len = (v.toNat % 128 + 1) * 16 → base = s.cpu8.vbk.toNat * 0x10000 + 0x8000 →
    (∀ i, i < len → ∃ k, cellOf s ((src + i) % 0x10000) = some k ∧ ¬ (base ≤ k ∧ k < base + 0x2000)) →
    ∃ t, write8 0xFF55#16 v s = .next t ∧
      (∀ i k, i < len → cellOf s ((src + i) % 0x10000) = some k →
        Memory.read t.cpu8.mem (base + (dst + i) % 0x2000) = Memory.read s.cpu8.mem k) ∧
      (∀ k, (∀ i, i < len → k ≠ base + (dst + i) % 0x2000) →
        Memory.read t.cpu8.mem k = Memory.read s.cpu8.mem k) ∧
      t = { s with cpu8 := { s.cpu8 with mem := t.cpu8.mem }
                   cycles := s.cycles + len / 16 * (if s.cpu8.doubleSpeed then 64 else 32) })

/-- R810: a step runs the decoded instruction. When the bytes at PC decode to a CPU-8 instruction, the step is its `exec`
with PC past its bytes, then the end of an EI delay that was pending before it, then the timer over the instruction's
cycles. -/
def Obligations.Cpu8StepRunsDecoded : Prop :=
  ∀ (i : Instr) (bytes : List Byte) (s : State), Fetches8 s → decode .cpu8 bytes = .ok (i, []) →
    CodeAt8 { s with cycles := 0, outbox := [] } s.cpu8.pc bytes →
    step s = thenRes
      (exec i { s with cpu8 := { s.cpu8 with pc := s.cpu8.pc + BitVec.ofNat 16 bytes.length }
                       cycles := 0
                       outbox := [] })
      fun t =>
        let c := if s.cpu8.eiPending = true ∧ t.cpu8.eiPending = true then
            { t.cpu8 with ime := true, eiPending := false }
          else t.cpu8
        .next { t with cpu8 := Cpu8.advance t.cycles c }

/-- Decode and encode agree on CPU-8: for every well-formed instruction and whatever follows its bytes. -/
def Obligations.Cpu8RoundTrip : Prop :=
  ∀ (i : Instr) (rest : List Byte), i.isa = .cpu8 → WellFormed i = true →
    decode .cpu8 (encode i ++ rest) = .ok (i, rest)

/-! CPU-32: registers, flags, shifter and arithmetic. -/

namespace Sys2Proof.Claims

open Sys2Proof.Machine

/-- The tests of R500. -/
def CondHolds (cond : Cond) (p : Psr) : Prop :=
  match cond with
  | .eq => p.z = true
  | .ne => p.z = false
  | .cs => p.c = true
  | .cc => p.c = false
  | .mi => p.n = true
  | .pl => p.n = false
  | .vs => p.v = true
  | .vc => p.v = false
  | .hi => p.c = true ∧ p.z = false
  | .ls => p.c = false ∨ p.z = true
  | .ge => p.n = p.v
  | .lt => p.n ≠ p.v
  | .gt => p.z = false ∧ p.n = p.v
  | .le => p.z = true ∨ p.n ≠ p.v
  | .al => True

/-- An instruction's length in bytes (R224). -/
def len32 (s : State) : Word := if s.cpu32.cpsr.t then 2 else 4

/-- The width of its fetch. -/
def fetch32Width (s : State) : Width := if s.cpu32.cpsr.t then .half else .word

/-- Sc, the fetch of the next instruction after no data access (R830). -/
def sCost (s : State) : Nat := accessCost true (fetch32Width s) (s.cpu32.pc + len32 s) s

/-- Nc, the same after a data access by a store (R830). -/
def nCost (s : State) : Nat := accessCost false (fetch32Width s) (s.cpu32.pc + len32 s) s

/-- An instruction that leaves the CPU-32 half `c` but for PC, which moves past it, at this cost over `s` (R53). -/
def past (s : State) (c : Cpu32) (cost : Nat) : State :=
  { s with cpu32 := { c with pc := s.cpu32.pc + len32 s }, cycles := s.cycles + cost }

/-- R53, R58: the PC a value gives in a state. -/
def aligned (t : Bool) (v : Word) : Word := if t then v &&& 0xFFFFFFFE#32 else v &&& 0xFFFFFFFC#32

/-- Nt + St, the refill at the PC of the state after the instruction (R830). -/
def refill (t : State) : Nat := accessCost false (fetch32Width t) t.cpu32.pc t + sCost t

/-- An instruction that leaves the CPU-32 half `c` but for T and PC, which it writes, at `Sc + Nt + St` and `extra`
over `s` (R835): the refill is at the new PC. -/
def jumped (s : State) (c : Cpu32) (t : Bool) (v : Word) (extra : Nat) : State :=
  let u := { s with cpu32 := { c with pc := aligned t v, cpsr := { c.cpsr with t := t } } }
  { u with cycles := s.cycles + extra + sCost s + refill u }

/-- N, Z, C and V from a result (R505). -/
def withFlags (p : Psr) (r : Word) (c v : Bool) : Psr :=
  { p with n := r.getLsbD 31, z := decide (r = 0#32), c := c, v := v }

/-- `x[i] <- v` for i < 15 in the current mode (R50). -/
def setX (s : State) (i : RegNum) (v : Word) : Cpu32 := s.cpu32.setRegIn s.cpu32.cpsr.mode i v

/-- The signed value of a word. -/
def signed (a : Word) : Int := if a.toNat < 0x80000000 then a.toNat else (a.toNat : Int) - 0x100000000

/-- The value lies outside the signed 32-bit range. -/
def overflows (x : Int) : Prop := x < -0x80000000 ∨ 0x7FFFFFFF < x

/-- One. -/
def one (b : Bool) : Nat := if b then 1 else 0

/-- R506 to R521: the result, and C and V of an arithmetic operation, on numbers. A logical operation takes the
shifter's carry and keeps V. -/
def DpRule (op : DpOp) (a b : Word) (shc : Bool) (p : Psr) (r : Word) (c v : Bool) : Prop :=
  let logical := fun (x : Word) => r = x ∧ c = shc ∧ v = p.v
  let sum := fun (x y : Word) (k : Nat) => r.toNat = (x.toNat + y.toNat + k) % 2 ^ 32 ∧
    (c = true ↔ 2 ^ 32 ≤ x.toNat + y.toNat + k) ∧ (v = true ↔ overflows (signed x + signed y + k))
  let difference := fun (x y : Word) (borrow : Nat) =>
    r.toNat = (x.toNat + 2 ^ 33 - y.toNat - borrow) % 2 ^ 32 ∧ (c = true ↔ y.toNat + borrow ≤ x.toNat) ∧
      (v = true ↔ overflows (signed x - signed y - borrow))
  match op with
  | .and => logical (a &&& b)
  | .eor => logical (a ^^^ b)
  | .sub => difference a b 0
  | .rsb => difference b a 0
  | .add => sum a b 0
  | .adc => sum a b (one p.c)
  | .sbc => difference a b (1 - one p.c)
  | .rsc => difference b a (1 - one p.c)
  | .tst => logical (a &&& b)
  | .teq => logical (a ^^^ b)
  | .cmp => difference a b 0
  | .cmn => sum a b 0
  | .orr => logical (a ||| b)
  | .mov => logical b
  | .bic => logical (a &&& ~~~b)
  | .mvn => logical (~~~b)

/-- R502, R503: the shift tables bit by bit, for a shift by k places, 1 ≤ k ≤ 31. -/
def ShiftRule (kind : Shift) (m : Word) (k : Nat) (r : Word) (c : Bool) : Prop :=
  match kind with
  | .lsl => (∀ i, i < 32 → r.getLsbD i = (decide (k ≤ i) && m.getLsbD (i - k))) ∧ c = m.getLsbD (32 - k)
  | .lsr => (∀ i, i < 32 → r.getLsbD i = m.getLsbD (i + k)) ∧ c = m.getLsbD (k - 1)
  | .asr => (∀ i, i < 32 → r.getLsbD i = m.getLsbD (if i + k < 32 then i + k else 31)) ∧ c = m.getLsbD (k - 1)
  | .ror => (∀ i, i < 32 → r.getLsbD i = m.getLsbD ((i + k) % 32)) ∧ c = m.getLsbD (k - 1)

/-- A row of a data-processing operation, with the operands it reads (R501 to R503, R505): Rn's value, operand 2, the
shifter's carry, and the I cycle of a register-specified shift. -/
def DpForm (op : DpOp) (d : Dp) (s : State) (i : Instr) (a b : Word) (shc : Bool) (extra : Nat) : Prop :=
  (∃ x : Op2Imm, i = dpImmInstr op d x ∧ a = readReg d.rn s ∧ (b, shc) = rotatedImm x s.cpu32.cpsr.c ∧ extra = 0) ∨
  (∃ x : Op2Shift, i = dpShiftInstr op d x ∧ a = readReg d.rn s ∧
    (b, shc) = shiftImm x.kind (readReg x.rm s) x.amount.toNat s.cpu32.cpsr.c ∧ extra = 0) ∨
  (∃ x : Op2RegShift, i = dpRegShiftInstr op d x ∧ x.rs ≠ 15#4 ∧ a = readRegLate d.rn s ∧
    (b, shc) = shiftReg x.kind (readRegLate x.rm s) ((readReg x.rs s).toNat % 256) s.cpu32.cpsr.c ∧ extra = 1)

/-- The operations that write no register. -/
def isTest (op : DpOp) : Prop := op = .tst ∨ op = .teq ∨ op = .cmp ∨ op = .cmn

/-- MOV and MVN, which do not read Rn. -/
def isMove (op : DpOp) : Prop := op = .mov ∨ op = .mvn

/-- iCycles of R536, without the accumulate term, by the size of Rs. -/
def ICycles (rs : Word) (n : Nat) : Prop :=
  let small := fun k => rs.toNat < 2 ^ k ∨ 2 ^ 32 - 2 ^ k ≤ rs.toNat
  (small 8 → n = 1) ∧ (¬ small 8 → small 16 → n = 2) ∧ (¬ small 16 → small 24 → n = 3) ∧ (¬ small 24 → n = 4)

end Sys2Proof.Claims

/-- R50 to R52: the register banks. In every mode a register reads back what was written and no other changes; the map
shares R0 to R7, gives FIQ its own R8 to R12, and each of the six banks its own R13 and R14, user and system sharing one.
And what R15 reads as in each use. -/
def Obligations.Cpu32Registers : Prop :=
  (∀ (c : Cpu32) (m : Mode) (i : RegNum) (v : Word), i ≠ 15#4 →
    (c.setRegIn m i v).regIn m i = v ∧ c.setRegIn m i v = { c with slots := (c.setRegIn m i v).slots } ∧
    ∀ j, j ≠ 15#4 → j ≠ i → (c.setRegIn m i v).regIn m j = c.regIn m j) ∧
  (∀ (c : Cpu32) (m m' : Mode) (i j : RegNum) (v : Word), i ≠ 15#4 → j ≠ 15#4 →
    let bank := fun (n : Mode) => if n = .sys then Mode.usr else n
    (i = j ∧ (i.toNat < 8 ∨ (i.toNat < 13 ∧ (m = .fiq ↔ m' = .fiq)) ∨ bank m = bank m') →
      (c.setRegIn m i v).regIn m' j = v) ∧
    (¬ (i = j ∧ (i.toNat < 8 ∨ (i.toNat < 13 ∧ (m = .fiq ↔ m' = .fiq)) ∨ bank m = bank m')) →
      (c.setRegIn m i v).regIn m' j = c.regIn m' j)) ∧
  (∀ (i : RegNum) (s : State),
     (i ≠ 15#4 → readReg i s = s.cpu32.regIn s.cpu32.cpsr.mode i ∧ readRegLate i s = s.cpu32.regIn s.cpu32.cpsr.mode i ∧
       readUserLate i s = s.cpu32.regIn .usr i) ∧
     readReg 15#4 s = s.cpu32.pc + (if s.cpu32.cpsr.t then 4 else 8) ∧ readRegLate 15#4 s = s.cpu32.pc + 12 ∧
     readUserLate 15#4 s = s.cpu32.pc + 12 ∧ thumbPcBase s = (s.cpu32.pc + 4) &&& 0xFFFFFFFC#32)

/-- R504, R506 to R521: `AddC`, with the two invariants on subtraction: C is no borrow, and V the bit of the rule's formula,
which is that the exact signed result does not fit; and the sixteen operations on numbers. -/
def Obligations.Cpu32DataOperations : Prop :=
  (∀ (a b r : Word) (cin c v : Bool), addC a b cin = (r, c, v) →
    r.toNat = (a.toNat + b.toNat + one cin) % 2 ^ 32 ∧ (c = true ↔ a.toNat + b.toNat + one cin > 0xFFFFFFFF) ∧
    v = ((a ^^^ r) &&& (b ^^^ r)).getLsbD 31 ∧ (v = true ↔ overflows (signed a + signed b + one cin))) ∧
  (∀ (a b r : Word) (c v : Bool), addC a (~~~b) true = (r, c, v) →
    r = a - b ∧ (c = true ↔ b.toNat ≤ a.toNat) ∧ v = ((a ^^^ b) &&& (a ^^^ r)).getLsbD 31 ∧
    (v = true ↔ overflows (signed a - signed b))) ∧
  (∀ (a b r : Word) (cin c v : Bool), addC a (~~~b) cin = (r, c, v) → r = a - b - BitVec.ofNat 32 (1 - one cin)) ∧
  (∀ (op : DpOp) (a b r : Word) (shc c v : Bool) (p : Psr), dpResult op a b shc p = (r, c, v) →
     DpRule op a b shc p r c v)

/-- R501 to R503: operand 2. The rotated immediate bit by bit; the immediate shifts with the special amounts of 0; the
register shifts with amounts of 0, 32 and more. -/
def Obligations.Cpu32Shifter : Prop :=
  (∀ (x : Op2Imm) (c : Bool),
    (∀ i, i < 32 → (rotatedImm x c).1.getLsbD i =
      (decide ((i + 2 * x.rot.toNat) % 32 < 8) && x.imm.getLsbD ((i + 2 * x.rot.toNat) % 32))) ∧
    (rotatedImm x c).2 = (if x.rot = 0#4 then c else (rotatedImm x c).1.getLsbD 31)) ∧
  (∀ (kind : Shift) (m : Word) (k : Nat) (c : Bool), 1 ≤ k → k ≤ 31 →
    ShiftRule kind m k (shiftImm kind m k c).1 (shiftImm kind m k c).2 ∧ shiftReg kind m k c = shiftImm kind m k c) ∧
  (∀ (m : Word) (c : Bool),
    shiftImm .lsl m 0 c = (m, c) ∧ shiftImm .lsr m 0 c = (0#32, m.getLsbD 31) ∧
    shiftImm .asr m 0 c = ((if m.getLsbD 31 then 0xFFFFFFFF#32 else 0#32), m.getLsbD 31) ∧
    (shiftImm .ror m 0 c).2 = m.getLsbD 0 ∧ (shiftImm .ror m 0 c).1.getLsbD 31 = c ∧
    ∀ i, i < 31 → (shiftImm .ror m 0 c).1.getLsbD i = m.getLsbD (i + 1)) ∧
  (∀ (kind : Shift) (m : Word) (c : Bool), shiftReg kind m 0 c = (m, c)) ∧
  (∀ (m : Word) (c : Bool) (k : Nat), 32 ≤ k → k < 256 →
    shiftReg .lsl m k c = (0#32, decide (k = 32) && m.getLsbD 0) ∧
    shiftReg .lsr m k c = (0#32, decide (k = 32) && m.getLsbD 31) ∧
    shiftReg .asr m k c = ((if m.getLsbD 31 then 0xFFFFFFFF#32 else 0#32), m.getLsbD 31) ∧
    (k % 32 = 0 → shiftReg .ror m k c = (m, m.getLsbD 31)) ∧
    (k % 32 ≠ 0 → shiftReg .ror m k c = shiftReg .ror m (k % 32) c))

/-! ARM instructions. -/

/-- R500, R614 to R616: the condition. Every ARM word whose condition is one of the fifteen and fails changes nothing
but PC, at one code S-cycle, the undefined and unpredictable words among them (and so does each constructor of those
words). With the condition passed the undefined and the coprocessor words, and for condition 0xF every word, stop with
the word and its address. -/
def Obligations.ArmConditions : Prop :=
  (∀ (w : Nat) (s : State), w < 2 ^ 32 → w / 2 ^ 28 ≠ 15 → ¬ CondHolds (Cond.ofCode (w / 2 ^ 28)) s.cpu32.cpsr →
     exec (decodeArmWord w) s = .next (past s s.cpu32 (sCost s))) ∧
  (∀ (w : Word) (i : Instr) (s : State), w.toNat / 2 ^ 28 ≠ 15 →
    CondHolds (Cond.ofCode (w.toNat / 2 ^ 28)) s.cpu32.cpsr →
    i ∈ [.armUndefStoreSignedReg w, .armUndefStoreSignedImm w, .armUndefMultiplySpace w, .armUndefCompareNoS w,
      .armUndefSpace w, .armLdcStc w, .armCdpMrcMcr w] →
    exec i s = .fault (.undefinedOpcode w.toNat s.cpu32.pc.toNat)) ∧
  (∀ (w : Word) (i : Instr) (s : State), w.toNat / 2 ^ 28 ≠ 15 →
    ¬ CondHolds (Cond.ofCode (w.toNat / 2 ^ 28)) s.cpu32.cpsr →
    i ∈ [.armUndefStoreSignedReg w, .armUndefStoreSignedImm w, .armUndefMultiplySpace w, .armUndefCompareNoS w,
      .armUndefSpace w, .armLdcStc w, .armCdpMrcMcr w] →
    exec i s = .next (past s s.cpu32 (sCost s))) ∧
  (∀ (w : Word) (s : State), exec (.armReservedCond w) s = .fault (.undefinedOpcode w.toNat s.cpu32.pc.toNat)) ∧
  (∀ w, w < 2 ^ 32 → w / 2 ^ 28 = 15 → decodeArmWord w = .armReservedCond (BitVec.ofNat 32 w))

/-- R505, R831, R215, R503: data processing into Rd other than R15: AND, EOR, SUB, RSB, ADD, ADC, SBC, RSC, ORR, MOV, BIC
and MVN in their three forms. Rd takes the result, the flags change only with S, and nothing else changes but PC. TST, TEQ,
CMP and CMN write the flags only. A test operation with Rd not 0, MOV or MVN with Rn not 0, and a register-specified shift
with Rs = R15 stop, with the reason and the address; of several restrictions Rs = R15 is reported first, the order of log
entry 35, which is the model's choice. -/
def Obligations.ArmDataProcessing : Prop :=
  (∀ (op : DpOp) (d : Dp) (s : State) (i : Instr) (a b r : Word) (shc c v : Bool) (extra : Nat),
     DpForm op d s i a b shc extra → CondHolds d.cond s.cpu32.cpsr → ¬ isTest op → (isMove op → d.rn = 0#4) →
     d.rd ≠ 15#4 → dpResult op a b shc s.cpu32.cpsr = (r, c, v) →
     exec i s = .next (past s
       { setX s d.rd r with cpsr := if d.s then withFlags s.cpu32.cpsr r c v else s.cpu32.cpsr } (sCost s + extra))) ∧
  (∀ (op : DpOp) (d : Dp) (s : State) (i : Instr) (a b r : Word) (shc c v : Bool) (extra : Nat),
     DpForm op d s i a b shc extra → CondHolds d.cond s.cpu32.cpsr → isTest op → d.rd = 0#4 →
     dpResult op a b shc s.cpu32.cpsr = (r, c, v) →
     exec i s = .next (past s { s.cpu32 with cpsr := withFlags s.cpu32.cpsr r c v } (sCost s + extra))) ∧
  (∀ (op : DpOp) (d : Dp) (s : State) (i : Instr) (a b : Word) (shc : Bool) (extra : Nat),
    DpForm op d s i a b shc extra → CondHolds d.cond s.cpu32.cpsr →
    (isTest op ∧ d.rd ≠ 0#4) ∨ (isMove op ∧ d.rn ≠ 0#4) →
    exec i s = .fault (.unpredictable .sbz s.cpu32.pc.toNat)) ∧
  (∀ (op : DpOp) (d : Dp) (x : Op2RegShift) (s : State), CondHolds d.cond s.cpu32.cpsr → x.rs = 15#4 →
    exec (dpRegShiftInstr op d x) s = .fault (.unpredictable .rsIsR15 s.cpu32.pc.toNat))

/-- R53, R58, R747: data processing into R15. Without S the PC takes the result, aligned, and the state stays (under
INTERWORK_ALL_PC_WRITES bit 0 is the state). With S it is an exception return: CPSR is the mode's SPSR, and the PC is
aligned to the restored state; without an SPSR, or with no mode in it, it stops. That the parameter (R7, C5, D23) reaches
these writes is the reading of log entry 14, the model's. -/
def Obligations.ArmDataToPc : Prop :=
  ∀ (op : DpOp) (d : Dp) (s : State) (i : Instr) (a b r : Word) (shc c v : Bool) (extra : Nat),
    DpForm op d s i a b shc extra → CondHolds d.cond s.cpu32.cpsr → ¬ isTest op → (isMove op → d.rn = 0#4) →
    d.rd = 15#4 → dpResult op a b shc s.cpu32.cpsr = (r, c, v) →
    (d.s = false → exec i s = .next (jumped s s.cpu32
      (if s.params.interwork then r.getLsbD 0 else s.cpu32.cpsr.t) r extra)) ∧
    (d.s = true → ∀ w, s.cpu32.spsr? s.cpu32.cpsr.mode = some w →
      (∀ p, Psr.ofWord? w = some p → ∃ u, exec i s = .next u ∧
        u = { s with cpu32 := { s.cpu32 with cpsr := p, pc := aligned p.t r }, cycles := u.cycles }) ∧
      (Psr.ofWord? w = none → exec i s = .fault (.unpredictable .invalidMode s.cpu32.pc.toNat))) ∧
    (d.s = true → s.cpu32.spsr? s.cpu32.cpsr.mode = none →
      exec i s = .fault (.unpredictable .noSpsr s.cpu32.pc.toNat))

/-- R530 to R536: MUL, MLA, UMULL, UMLAL, SMULL and SMLAL. The product, with the addend, on numbers; the flags with S;
the cost by the size of Rs; the restrictions, those on the operands reported before SBZ, the order of log entry 35, which
is the model's choice. -/
def Obligations.ArmMultiply : Prop :=
  (∀ (acc : Bool) (o : MulOps) (s : State) (r : Word) (n : Nat), CondHolds o.cond s.cpu32.cpsr →
    o.rd ≠ 15#4 → o.rs ≠ 15#4 → o.rm ≠ 15#4 → o.rd ≠ o.rm → (if acc then o.rn ≠ 15#4 else o.rn = 0#4) →
    r.toNat = ((readReg o.rm s).toNat * (readReg o.rs s).toNat + (if acc then (readReg o.rn s).toNat else 0)) % 2 ^ 32 →
    ICycles (readReg o.rs s) n →
    exec (if acc then .armMla o else .armMul o) s = .next (past s
      { setX s o.rd r with cpsr := if o.s then withFlags s.cpu32.cpsr r false s.cpu32.cpsr.v else s.cpu32.cpsr }
      (sCost s + n + one acc))) ∧
  (∀ (sgn acc : Bool) (o : LongMulOps) (s : State) (hi lo : Word) (n : Nat), CondHolds o.cond s.cpu32.cpsr →
    o.rdHi ≠ 15#4 → o.rdLo ≠ 15#4 → o.rs ≠ 15#4 → o.rm ≠ 15#4 → o.rdHi ≠ o.rdLo → o.rdHi ≠ o.rm → o.rdLo ≠ o.rm →
    ((hi.toNat * 2 ^ 32 + lo.toNat : Nat) : Int) =
      ((if sgn then signed (readReg o.rm s) * signed (readReg o.rs s)
          else ((readReg o.rm s).toNat * (readReg o.rs s).toNat : Nat)) +
        (if acc then ((readReg o.rdHi s).toNat * 2 ^ 32 + (readReg o.rdLo s).toNat : Nat) else 0)) % 2 ^ 64 →
    ICycles (readReg o.rs s) n →
    exec (match sgn, acc with
        | false, false => .armUmull o | false, true => .armUmlal o
        | true, false => .armSmull o | true, true => .armSmlal o) s =
      .next (past s
        { (setX s o.rdLo lo).setRegIn s.cpu32.cpsr.mode o.rdHi hi with
          cpsr := if o.s then
              { s.cpu32.cpsr with n := hi.getLsbD 31, z := decide (hi = 0#32 ∧ lo = 0#32), c := false }
            else s.cpu32.cpsr }
        (sCost s + n + 1 + one acc))) ∧
  (∀ (o : MulOps) (s : State), CondHolds o.cond s.cpu32.cpsr →
    (o.rd = 15#4 ∨ o.rs = 15#4 ∨ o.rm = 15#4 ∨ o.rd = o.rm →
      exec (.armMul o) s = .fault (.unpredictable .multiplyOperands s.cpu32.pc.toNat)) ∧
    (¬ (o.rd = 15#4 ∨ o.rs = 15#4 ∨ o.rm = 15#4 ∨ o.rd = o.rm) → o.rn ≠ 0#4 →
      exec (.armMul o) s = .fault (.unpredictable .sbz s.cpu32.pc.toNat)) ∧
    (o.rd = 15#4 ∨ o.rn = 15#4 ∨ o.rs = 15#4 ∨ o.rm = 15#4 ∨ o.rd = o.rm →
      exec (.armMla o) s = .fault (.unpredictable .multiplyOperands s.cpu32.pc.toNat))) ∧
  (∀ (o : LongMulOps) (s : State), CondHolds o.cond s.cpu32.cpsr →
    o.rdHi = 15#4 ∨ o.rdLo = 15#4 ∨ o.rs = 15#4 ∨ o.rm = 15#4 ∨ o.rdHi = o.rdLo ∨ o.rdHi = o.rm ∨ o.rdLo = o.rm →
    ∀ i ∈ [Instr.armUmull o, .armUmlal o, .armSmull o, .armSmlal o],
      exec i s = .fault (.unpredictable .multiplyOperands s.cpu32.pc.toNat))

/-- R540 to R543: MRS and MSR. MRS reads CPSR or the mode's SPSR. MSR replaces the selected bytes: in CPSR never T, never
the reserved bits, and in user mode the flags only; in the SPSR never the reserved bits. Without an SPSR, or with no mode
in the new CPSR, they stop. Of several restrictions R15 is reported first, then SBZ, then the missing SPSR, the order of
log entry 35, which is the model's choice. And the SPSR bank: each of the five exception modes has its own SPSR, user and
system mode none; a written SPSR reads back with its reserved bits clear, and a write changes no other SPSR and nothing
else. -/
def Obligations.ArmPsrTransfer : Prop :=
  (∀ (o : MrsOps) (s : State), CondHolds o.cond s.cpu32.cpsr → o.rd ≠ 15#4 → o.sbz = 0#12 →
    (o.spsr = false → exec (.armMrs o) s = .next (past s (setX s o.rd s.cpu32.cpsr.toWord) (sCost s))) ∧
    (o.spsr = true → ∀ v, s.cpu32.spsr? s.cpu32.cpsr.mode = some v →
      exec (.armMrs o) s = .next (past s (setX s o.rd v) (sCost s))) ∧
    (o.spsr = true → s.cpu32.spsr? s.cpu32.cpsr.mode = none →
      exec (.armMrs o) s = .fault (.unpredictable .noSpsr s.cpu32.pc.toNat))) ∧
  (∀ (i : Instr) (cond : Cond) (spsr : Bool) (fields : BitVec 4) (v mask : Word) (s : State),
    (∃ o : MsrRegOps, i = .armMsrReg o ∧ cond = o.cond ∧ spsr = o.spsr ∧ fields = o.fields ∧ o.sbz = 0#8 ∧
        o.rm ≠ 15#4 ∧ v = readReg o.rm s) ∨
      (∃ o : MsrImmOps, i = .armMsrImm o ∧ cond = o.cond ∧ spsr = o.spsr ∧ fields = o.fields ∧
        v = (rotatedImm o.op2 s.cpu32.cpsr.c).1) →
    CondHolds cond s.cpu32.cpsr →
    (∀ k, k < 32 → mask.getLsbD k = (fields.getLsbD (k / 8) &&
      (spsr || decide (s.cpu32.cpsr.mode ≠ .usr) || decide (24 ≤ k)))) →
    (spsr = false → ∀ w : Word,
      (∀ k, k < 32 → w.getLsbD k = if mask.getLsbD k ∧ k ≠ 5 then v.getLsbD k else s.cpu32.cpsr.toWord.getLsbD k) →
      (∀ p, Psr.ofWord? w = some p → exec i s = .next (past s { s.cpu32 with cpsr := p } (sCost s))) ∧
      (Psr.ofWord? w = none → exec i s = .fault (.unpredictable .invalidMode s.cpu32.pc.toNat))) ∧
    (spsr = true → ∀ old, s.cpu32.spsr? s.cpu32.cpsr.mode = some old → ∃ u, exec i s = .next u ∧
      u = past s (s.cpu32.setSpsr s.cpu32.cpsr.mode ((old &&& ~~~mask) ||| (v &&& mask))) (sCost s) ∧
      ∀ w, u.cpu32.spsr? s.cpu32.cpsr.mode = some w → w &&& 0x0FFFFF00#32 = 0#32) ∧
    (spsr = true → s.cpu32.spsr? s.cpu32.cpsr.mode = none →
      exec i s = .fault (.unpredictable .noSpsr s.cpu32.pc.toNat))) ∧
  (∀ (o : MrsOps) (s : State), CondHolds o.cond s.cpu32.cpsr →
    (o.rd = 15#4 → exec (.armMrs o) s = .fault (.unpredictable .mrsToPc s.cpu32.pc.toNat)) ∧
    (o.rd ≠ 15#4 → o.sbz ≠ 0#12 → exec (.armMrs o) s = .fault (.unpredictable .sbz s.cpu32.pc.toNat))) ∧
  (∀ (o : MsrRegOps) (s : State), CondHolds o.cond s.cpu32.cpsr →
    (o.rm = 15#4 → exec (.armMsrReg o) s = .fault (.unpredictable .msrFromPc s.cpu32.pc.toNat)) ∧
    (o.rm ≠ 15#4 → o.sbz ≠ 0#8 → exec (.armMsrReg o) s = .fault (.unpredictable .sbz s.cpu32.pc.toNat))) ∧
  (∀ (w : Word), (∃ p, Psr.ofWord? w = some p) ↔ w.toNat % 32 ∈ [0x10, 0x11, 0x12, 0x13, 0x17, 0x1B, 0x1F]) ∧
  (∀ (w : Word) (p : Psr), Psr.ofWord? w = some p →
    p.toWord = w &&& 0xF00000FF#32 ∧ p.n = w.getLsbD 31 ∧ p.z = w.getLsbD 30 ∧ p.c = w.getLsbD 29 ∧
    p.v = w.getLsbD 28 ∧ p.i = w.getLsbD 7 ∧ p.f = w.getLsbD 6 ∧ p.t = w.getLsbD 5) ∧
  (∀ p : Psr, Psr.ofWord? p.toWord = some p) ∧
  (∀ (c : Cpu32) (m : Mode) (v : Word),
    c.spsr? m = (match m with
      | .fiq => some c.spsrFiq | .irq => some c.spsrIrq | .svc => some c.spsrSvc | .abt => some c.spsrAbt
      | .und => some c.spsrUnd | .usr => none | .sys => none) ∧
    (m = .usr ∨ m = .sys → c.setSpsr m v = c) ∧
    (m ≠ .usr → m ≠ .sys → (c.setSpsr m v).spsr? m = some (v &&& 0xF00000FF#32)) ∧
    (∀ m', m' ≠ m → (c.setSpsr m v).spsr? m' = c.spsr? m') ∧
    ∃ d, c.setSpsr m v = d ∧ d = { c with
      spsrFiq := d.spsrFiq, spsrIrq := d.spsrIrq, spsrSvc := d.spsrSvc, spsrAbt := d.spsrAbt, spsrUnd := d.spsrUnd })

/-- R610 to R612: B, BL and BX. -/
def Obligations.ArmBranches : Prop :=
  (∀ (link : Bool) (o : BranchOps) (s : State), CondHolds o.cond s.cpu32.cpsr →
    exec (if link then .armBl o else .armB o) s = .next (jumped s
      (if link then setX s 14#4 (s.cpu32.pc + 4) else s.cpu32) s.cpu32.cpsr.t
      (s.cpu32.pc + 8 + BitVec.ofNat 32
        (if o.offset.toNat < 0x800000 then o.offset.toNat * 4 else 0x100000000 - (0x1000000 - o.offset.toNat) * 4)) 0)) ∧
  (∀ (o : BranchExchange) (s : State), CondHolds o.cond s.cpu32.cpsr →
    exec (.armBx o) s = .next (jumped s s.cpu32 ((readReg o.rm s).getLsbD 0) (readReg o.rm s) 0))

/-- R613, R742, R743: SWI, ARM and THUMB. SPSR_svc takes CPSR, LR_svc the address after the SWI, and the machine stands
in supervisor mode and ARM state at 0x08 with IRQ disabled, F and the flags unchanged. -/
def Obligations.SoftwareInterrupt : Prop :=
  ∀ (i : Instr) (ret : Word) (s : State),
    (∃ o : SwiOps, i = .armSwi o ∧ CondHolds o.cond s.cpu32.cpsr ∧ ret = s.cpu32.pc + 4) ∨
      (∃ n : Byte, i = .thumbSwi n ∧ ret = s.cpu32.pc + 2) →
    ∃ u, exec i s = .next u ∧
      u.cpu32.spsrSvc = s.cpu32.cpsr.toWord ∧ u.cpu32.regIn .svc 14#4 = ret ∧ u.cpu32.pc = 0x08#32 ∧
      u = { s with
        cpu32 := { s.cpu32.setRegIn .svc 14#4 ret with
          pc := 0x08#32, cpsr := { s.cpu32.cpsr with mode := .svc, t := false, i := true }
          spsrSvc := s.cpu32.cpsr.toWord }
        cycles := s.cycles + sCost s + accessCost false .word 0x08#32 s + accessCost true .word 0x0C#32 s }

/-- Derived from R742, R743, R747 and R58: a handler that ends with MOVS PC, LR undoes the entry. After an SWI taken in
any state and mode, MOVS PC, R14 restores CPSR and goes on after the SWI; every other register is as before but for
LR_svc and SPSR_svc. -/
def Obligations.ExceptionReturnUndoesEntry : Prop :=
  ∀ (i : Instr) (ret : Word) (s : State),
    (∃ o : SwiOps, i = .armSwi o ∧ CondHolds o.cond s.cpu32.cpsr ∧ s.cpu32.cpsr.t = false ∧ ret = s.cpu32.pc + 4) ∨
      (∃ n : Byte, i = .thumbSwi n ∧ s.cpu32.cpsr.t = true ∧ ret = s.cpu32.pc + 2) →
    s.cpu32.pcAligned →
    ∃ t u, exec i s = .next t ∧
      exec (.armMovShift { cond := .al, s := true, rn := 0#4, rd := 15#4 }
        { amount := 0#5, kind := .lsl, rm := 14#4 }) t = .next u ∧
      u = { s with
        cpu32 := { s.cpu32.setRegIn .svc 14#4 ret with pc := ret, spsrSvc := s.cpu32.cpsr.toWord }
        cycles := u.cycles }

/-! CPU-32: memory. -/

namespace Sys2Proof.Claims

open Sys2Proof.Machine

/-- The regions of core memory (R124 to R127). -/
def isRam (r : Region) : Prop := r = .ewram ∨ r = .iwram ∨ r = .palette ∨ r = .vram ∨ r = .oam

/-- The byte of core memory at an address of a region, through its mirroring (R124 to R127). -/
def ramByte (s : State) (r : Region) (a : Nat) : Byte := Memory.read s.cpu32.mem (memKey r a)

/-- The word of core memory at an address, with the low two bits ignored (R103). -/
def ramWord (s : State) (a : Word) : Word :=
  let k := memKey (region a) (a.toNat / 4 * 4)
  Memory.read s.cpu32.mem (k + 3) ++ Memory.read s.cpu32.mem (k + 2) ++ Memory.read s.cpu32.mem (k + 1) ++
    Memory.read s.cpu32.mem k

/-- The width a single load reads with: LDRSH at an odd address reads a byte (R104). -/
def loadWidth (k : LoadKind) (a : Word) : Width :=
  match k with
  | .word => .word
  | .unsignedByte => .byte
  | .signedByte => .byte
  | .unsignedHalf => .half
  | .signedHalf => if a.toNat % 2 = 1 then .byte else .half

/-- The access that is recorded as the last one (R59). -/
def accessOf (w : Width) (a : Word) : Access := { addr := a, width := 8 * w.bytes, code := false }

/-- A CPU store of this width at this address writes a byte of the two instruction slots after the current one
(R842); `storeSpan` gives the bytes it stores. -/
def Hazard (s : State) (w : Width) (a : Word) : Prop :=
  ∃ j, j < (storeSpan w a s).2 ∧
    ((storeSpan w a s).1 + BitVec.ofNat 32 j - (s.cpu32.pc + len32 s)).toNat < 2 * (len32 s).toNat

/-- A read answers a draw of its width (R13). -/
def DrawnRead (w : Width) (s : State) (r : Word × State) : Prop :=
  r = (BitVec.ofNat 32 ((Config.draw 32 s.draws).toNat % 256 ^ w.bytes), { s with draws := s.draws + 1 })

/-- A read answers these bytes, little-endian, from a unit's start, and changes nothing (R102). -/
def ReadsBytes (w : Width) (f : Nat → Byte) (start : Nat) (s : State) (r : Word × State) : Prop :=
  r.2 = s ∧ r.1.toNat < 256 ^ w.bytes ∧ ∀ j, j < w.bytes → (r.1 >>> (8 * j)).setWidth 8 = f (start + j)

/-- Open bus: the low bits of the halfword's address as a pattern, or a draw (R129). -/
def OpenBus (w : Width) (a : Word) (s : State) (r : Word × State) : Prop :=
  let n := a.toNat
  (s.params.openBusDraw = true → DrawnRead w s r) ∧
  (s.params.openBusDraw = false → r.2 = s ∧ r.1.toNat =
    match w with
    | .byte => n / 2 * 2 % 0x10000 / 256 ^ (n % 2) % 256
    | .half => n / 2 * 2 % 0x10000
    | .word => n / 4 * 4 % 0x10000 + (n / 4 * 4 + 2) % 0x10000 * 0x10000)

/-- R560, R565: what indexing computes from the base, and whether it writes back. -/
def offsetAddr (ix : Index) (offset : Word) (s : State) : Word :=
  if ix.up then readReg ix.rn s + offset else readReg ix.rn s - offset

/-- The address of the access (R560). -/
def transferAddr (ix : Index) (offset : Word) (s : State) : Word :=
  if ix.pre then offsetAddr ix offset s else readReg ix.rn s

/-- Post-indexing always writes back (R560). -/
def writesBack (ix : Index) : Prop := ix.pre = false ∨ ix.wb = true

/-- The offset forms of a word or byte transfer (R560). -/
def WordOffset (s : State) (ix : Index) (offset : Word) (imm : XferImm → Instr) (reg : XferReg → Instr) (i : Instr) :
    Prop :=
  (∃ o : XferImm, i = imm o ∧ ix = o.ix ∧ offset = o.offset.setWidth 32) ∨
  (∃ o : XferReg, i = reg o ∧ ix = o.ix ∧ o.op2.rm ≠ 15#4 ∧
    offset = (shiftImm o.op2.kind (readReg o.op2.rm s) o.op2.amount.toNat s.cpu32.cpsr.c).1)

/-- The offset forms of a halfword or signed transfer, with its restrictions (R565). -/
def HalfOffset (s : State) (ix : Index) (offset : Word) (imm : HalfImm → Instr) (reg : HalfReg → Instr) (i : Instr) :
    Prop :=
  ¬ (ix.pre = false ∧ ix.wb = true) ∧ ix.rd ≠ 15#4 ∧
  ((∃ o : HalfImm, i = imm o ∧ ix = o.ix ∧ offset = BitVec.ofNat 32 (o.hi.toNat * 16 + o.lo.toNat)) ∨
    (∃ o : HalfReg, i = reg o ∧ ix = o.ix ∧ o.rm ≠ 15#4 ∧ offset = readReg o.rm s))

/-- The ARM single loads (R561, R562, R566, R568, R569). -/
def LoadForm (k : LoadKind) (s : State) (ix : Index) (offset : Word) (i : Instr) : Prop :=
  match k with
  | .word => WordOffset s ix offset .armLdrImm .armLdrReg i
  | .unsignedByte => WordOffset s ix offset .armLdrbImm .armLdrbReg i ∧ ix.rd ≠ 15#4
  | .unsignedHalf => HalfOffset s ix offset .armLdrhImm .armLdrhReg i
  | .signedByte => HalfOffset s ix offset .armLdrsbImm .armLdrsbReg i
  | .signedHalf => HalfOffset s ix offset .armLdrshImm .armLdrshReg i

/-- The ARM single stores (R563, R564, R567). -/
def StoreForm (w : Width) (s : State) (ix : Index) (offset : Word) (i : Instr) : Prop :=
  match w with
  | .word => WordOffset s ix offset .armStrImm .armStrReg i
  | .byte => WordOffset s ix offset .armStrbImm .armStrbReg i
  | .half => HalfOffset s ix offset .armStrhImm .armStrhReg i

/-- A row of a single transfer: its indexing, whether it loads, is LDRB, is a halfword or signed transfer, and has R15 as
its register offset. -/
def TransferRow (i : Instr) (ix : Index) (load byteLoad half rm15 : Bool) : Prop :=
  (∃ o : XferImm, ix = o.ix ∧ (i, load, byteLoad, half, rm15) ∈
    [(.armLdrImm o, true, false, false, false), (.armLdrbImm o, true, true, false, false),
     (.armStrImm o, false, false, false, false), (.armStrbImm o, false, false, false, false)]) ∨
  (∃ o : XferReg, ix = o.ix ∧ (i, load, byteLoad, half, rm15) ∈
    [(.armLdrReg o, true, false, false, decide (o.op2.rm = 15#4)),
     (.armLdrbReg o, true, true, false, decide (o.op2.rm = 15#4)),
     (.armStrReg o, false, false, false, decide (o.op2.rm = 15#4)),
     (.armStrbReg o, false, false, false, decide (o.op2.rm = 15#4))]) ∨
  (∃ o : HalfImm, ix = o.ix ∧ (i, load, byteLoad, half, rm15) ∈
    [(.armLdrhImm o, true, false, true, false), (.armLdrsbImm o, true, false, true, false),
     (.armLdrshImm o, true, false, true, false), (.armStrhImm o, false, false, true, false)]) ∨
  (∃ o : HalfReg, ix = o.ix ∧ (i, load, byteLoad, half, rm15) ∈
    [(.armLdrhReg o, true, false, true, decide (o.rm = 15#4)),
     (.armLdrsbReg o, true, false, true, decide (o.rm = 15#4)),
     (.armLdrshReg o, true, false, true, decide (o.rm = 15#4)),
     (.armStrhReg o, false, false, true, decide (o.rm = 15#4))])

/-- The j-th register of a list, lowest first (R580): it is listed, and j listed registers stand below it. -/
def Listed (list : BitVec 16) (j : Nat) (i : RegNum) : Prop :=
  list.getLsbD i.toNat = true ∧ ((List.range i.toNat).filter fun k => list.getLsbD k).length = j

/-- How many registers a list names. -/
def listCount (list : BitVec 16) : Nat := ((List.range 16).filter fun k => list.getLsbD k).length

/-- The lowest address of a block transfer of n bytes (R580). -/
def blockLow (o : BlockOps) (base : Word) (n : Nat) : Word :=
  match o.up, o.pre with
  | true, false => base
  | true, true => base + 4
  | false, false => base - BitVec.ofNat 32 n + 4
  | false, true => base - BitVec.ofNat 32 n

/-- The base after a block transfer of n bytes (R580). -/
def blockEnd (o : BlockOps) (base : Word) (n : Nat) : Word :=
  if o.up then base + BitVec.ofNat 32 n else base - BitVec.ofNat 32 n

/-- `Nd + (n − 1) × Sd` of n words from an address up (R833, R834): the first access N, each later one S. -/
def blockCost (low : Word) (n : Nat) (s : State) : Nat :=
  accessCost false .word low s +
    ((List.range (n - 1)).map fun j => accessCost true .word (low + BitVec.ofNat 32 (4 * (j + 1))) s).sum

/-- The word an address stands in (R103). -/
def wordAt (a : Word) : Word := a &&& 0xFFFFFFFC#32

/-- A block store of n words, outside the IO window. A word in the two instruction slots after the instruction stops it
(R842). Otherwise it answers `t`: the half `c`, with PC past the instruction, memory and, in the save region, the save
machine changed, at this cost. Each word in core memory is there (`stored`), and no byte changes but those of the words and
save bytes (R120, R834). -/
def BlockStores (i : Instr) (addr : Nat → Word) (n : Nat) (c : Cpu32) (cost : Nat) (s : State)
    (stored : State → Nat → Prop) : Prop :=
  (∀ j, j < n → region (addr j) ≠ .io) →
  ((∃ j, j < n ∧ Hazard s .word (wordAt (addr j))) →
    exec i s = .fault (.unpredictable .storeIntoPrefetch s.cpu32.pc.toNat)) ∧
  ((∀ j, j < n → ¬ Hazard s .word (wordAt (addr j))) → ∃ t, exec i s = .next t ∧
    t = { s with
      cpu32 := { c with
        pc := s.cpu32.pc + len32 s, lastAccess := t.cpu32.lastAccess, save := t.cpu32.save, mem := t.cpu32.mem }
      cycles := s.cycles + cost } ∧
    ((∀ j, j < n → region (addr j) ≠ .save) → t.cpu32.save = s.cpu32.save) ∧
    (Memory.wf s.cpu32.mem = true →
      (∀ j, j < n → isRam (region (addr j)) → stored t j) ∧
      ∀ k, Memory.read t.cpu32.mem k ≠ Memory.read s.cpu32.mem k → ∃ j, j < n ∧
        ((isRam (region (addr j)) ∧ ∃ b, b < 4 ∧ k = memKey (region (addr j)) ((addr j).toNat / 4 * 4) + b) ∨
          (region (addr j) = .save ∧ 0x0E000000 ≤ k))))

/-- Of all registers in all banks, an LDM changes only those listed, in the bank m, and the base where it is written
back (R581). -/
def OnlyLoaded (o : BlockOps) (m : Mode) (s t : State) : Prop :=
  ∀ (m' : Mode) (j : RegNum), j ≠ 15#4 → t.cpu32.regIn m' j ≠ s.cpu32.regIn m' j →
    (o.list.getLsbD j.toNat = true ∧ slotOf j m' = slotOf j m) ∨
    (o.wb = true ∧ o.list.getLsbD j.toNat = false ∧ j = o.rn ∧ slotOf j m' = slotOf j s.cpu32.cpsr.mode)

/-- The restrictions of R580 and R583 that a block transfer meets; `toPc` is an LDM with R15 in its list. -/
def BlockAllowed (o : BlockOps) (toPc : Prop) (s : State) : Prop :=
  CondHolds o.cond s.cpu32.cpsr ∧ o.rn ≠ 15#4 ∧ (o.s = true → o.wb = true → toPc) ∧
    (o.s = true → s.cpu32.cpsr.mode ≠ .usr ∧ s.cpu32.cpsr.mode ≠ .sys)

end Sys2Proof.Claims

/-- R104, R124 to R127, R130: a single load. It changes nothing but the cycles, the last access, the draws and the
EEPROM's output bits; in core memory the value is the little-endian bytes of the aligned unit, rotated so that the
addressed byte is the lowest, or that byte or halfword extended. And what the bus answers elsewhere: the BIOS image's
bytes; the cartridge ROM's bytes at the offset modulo 32 MiB in each of its three windows, below its size, and open bus
beyond it; open bus at an unmapped address, the pattern of the address's low bits or a draw. -/
def Obligations.Cpu32LoadedValue : Prop :=
  (∀ (w : Width) (a : Word) (s : State),
    let start := a.toNat / w.bytes * w.bytes
    (region a = .bios → ReadsBytes w (fun o => (Image.find? s.params.bios32 o).getD (Config.biosByte o)) start s
      (memRead w a s)) ∧
    (4 ≤ a.toNat / 0x2000000 ∧ a.toNat / 0x2000000 ≤ 6 → isEepromAddr a s = false →
      (start % 0x2000000 < s.params.rom32Size →
        ReadsBytes w (fun o => (Image.find? s.params.rom32 o).getD (Config.romByte o)) (start % 0x2000000) s
          (memRead w a s)) ∧
      (s.params.rom32Size ≤ start % 0x2000000 → OpenBus w a s (memRead w a s))) ∧
    (region a = .unmapped → OpenBus w a s (memRead w a s))) ∧
  ∀ (k : LoadKind) (a : Word) (s : State),
    (∃ s1, (loadValue k a s).2 = s1 ∧
      s1 = { s with
        cpu32 := { s.cpu32 with lastAccess := some (accessOf (loadWidth k a) a)
                                save := { s.cpu32.save with eout := s1.cpu32.save.eout } }
        cycles := s.cycles + accessCost false (loadWidth k a) a s
        draws := s1.draws }) ∧
    (isRam (region a) →
      let b := fun (n : Nat) => ramByte s (region a) n
      let n := a.toNat
      let v := (loadValue k a s).1
      match k with
      | .word => ∀ j, j < 4 → (v >>> (8 * j)).setWidth 8 = b (n / 4 * 4 + (n + j) % 4)
      | .unsignedByte => v = (b n).setWidth 32
      | .signedByte => v = (b n).signExtend 32
      | .unsignedHalf =>
        v = if n % 2 = 0 then 0#16 ++ b (n + 1) ++ b n else b (n - 1) ++ 0#16 ++ b n
      | .signedHalf => v = if n % 2 = 0 then (b (n + 1) ++ b n).signExtend 32 else (b n).signExtend 32)

/-- R560 to R562, R565, R566, R568, R569, R832, R53: LDR, LDRB, LDRH, LDRSB and LDRSH into a register other than R15, in
every offset form and indexing. Rd takes the loaded value, Rn the offset address where the form writes back, and nothing
else changes but what the access changes. LDR into R15: the PC takes the value, aligned, and the state stays (under
INTERWORK_ALL_PC_WRITES bit 0 is the state). -/
def Obligations.ArmLoads : Prop :=
  (∀ (k : LoadKind) (ix : Index) (offset v : Word) (i : Instr) (s s1 : State),
     LoadForm k s ix offset i → CondHolds ix.cond s.cpu32.cpsr → ix.rd ≠ 15#4 →
     (writesBack ix → ix.rn ≠ 15#4 ∧ ix.rn ≠ ix.rd) →
     loadValue k (transferAddr ix offset s) s = (v, s1) →
     (writesBack ix → exec i s = .next (past s1
       ({ s1.cpu32 with slots := (setX s ix.rn (offsetAddr ix offset s)).slots }.setRegIn s.cpu32.cpsr.mode ix.rd v)
       (sCost s + 1))) ∧
     (¬ writesBack ix → exec i s = .next (past s1 (setX s1 ix.rd v) (sCost s + 1)))) ∧
  (∀ (ix : Index) (offset v : Word) (i : Instr) (s s1 : State),
     LoadForm .word s ix offset i → CondHolds ix.cond s.cpu32.cpsr → ix.rd = 15#4 → (writesBack ix → ix.rn ≠ 15#4) →
     loadValue .word (transferAddr ix offset s) s = (v, s1) →
     exec i s = .next (jumped s1
       { s1.cpu32 with
         slots := if ix.pre = true ∧ ix.wb = false then s.cpu32.slots
           else (setX s ix.rn (offsetAddr ix offset s)).slots }
       (if s.params.interwork then v.getLsbD 0 else s.cpu32.cpsr.t) v 1))

/-- R563, R564, R567, R832, R842: STR, STRB and STRH in every offset form and indexing. A store into the two
instruction slots after it stops before the write; any other one outside the IO window completes; and in every case the
instruction is the bus write at the address and of the register named here, then the writeback. What a store to an ignored
or mirrored address stores, and so its hazard, is the reading of log entry 13 (`storeSpan`); that the code fetch after the
store is charged as N, as R832 says against R132, with WAITCNT as it stands after the write, is log entry 12; both the
model's choices. -/
def Obligations.ArmStores : Prop :=
  ∀ (w : Width) (ix : Index) (offset : Word) (i : Instr) (s : State),
    StoreForm w s ix offset i → CondHolds ix.cond s.cpu32.cpsr → (writesBack ix → ix.rn ≠ 15#4) →
    let a := transferAddr ix offset s
    let after := fun (s1 : State) => past s1
      (if ix.pre = true ∧ ix.wb = false then s1.cpu32
        else s1.cpu32.setRegIn s.cpu32.cpsr.mode ix.rn (offsetAddr ix offset s)) (nCost s1)
    (Hazard s w a → exec i s = .fault (.unpredictable .storeIntoPrefetch s.cpu32.pc.toNat)) ∧
    exec i s = thenRes (storeData false w a (readRegLate ix.rd s) s) (fun s1 => .next (after s1)) ∧
    (¬ Hazard s w a → region a ≠ .io →
      ∃ s1, storeData false w a (readRegLate ix.rd s) s = .next s1 ∧ exec i s = .next (after s1))

/-- R560, R562, R565, R580, R583: the restrictions of the single and the block transfers, each before any access, in the
order the model tests them where several hold: base R15 with writeback, R15 as the offset, a load into the base written
back, LDRB and the halfword forms into R15, P = 0 with W = 1; LDM and STM with base R15, S with writeback but for an LDM
with R15, and S in user or system mode. The order is log entry 35's, and that an LDM with an empty list counts as one with
R15 is log entry 22's, both the model's choices. -/
def Obligations.ArmTransferRestrictions : Prop :=
  (∀ (i : Instr) (ix : Index) (load byteLoad half rm15 : Bool) (s : State),
     TransferRow i ix load byteLoad half rm15 → CondHolds ix.cond s.cpu32.cpsr →
     let stops := fun (r : Reason) => exec i s = .fault (.unpredictable r s.cpu32.pc.toNat)
     let postW := ix.pre = false ∧ ix.wb = true
     (half = true → postW → stops .postIndexedW) ∧
     (half = true → ¬ postW → ix.rd = 15#4 → stops .halfRdR15) ∧
     (rm15 = true → (half = true → ¬ postW ∧ ix.rd ≠ 15#4) → stops .offsetR15) ∧
     (rm15 = false → (half = true → ¬ postW ∧ ix.rd ≠ 15#4) →
       (byteLoad = true → ix.rd = 15#4 → stops .ldrbToPc) ∧
       ((byteLoad = true → ix.rd ≠ 15#4) → writesBack ix → ix.rn = 15#4 → stops .writebackR15) ∧
       ((byteLoad = true → ix.rd ≠ 15#4) → writesBack ix → ix.rn ≠ 15#4 → load = true → ix.rn = ix.rd →
         stops .loadWritebackSame))) ∧
  (∀ (o : BlockOps) (s : State) (load : Bool), CondHolds o.cond s.cpu32.cpsr →
     let i := if load then Instr.armLdm o else .armStm o
     let toPc := load = true ∧ (o.list = 0#16 ∨ o.list.getLsbD 15 = true)
     (o.rn = 15#4 → exec i s = .fault (.unpredictable .blockBaseR15 s.cpu32.pc.toNat)) ∧
     (o.rn ≠ 15#4 → o.s = true → o.wb = true → ¬ toPc →
       exec i s = .fault (.unpredictable .sWithWriteback s.cpu32.pc.toNat)) ∧
     (o.rn ≠ 15#4 → o.s = true → o.wb = false ∨ toPc → s.cpu32.cpsr.mode = .usr ∨ s.cpu32.cpsr.mode = .sys →
       exec i s = .fault (.unpredictable .sUnprivileged s.cpu32.pc.toNat)))

/-- R103, R120, R123 to R129: the CPU's store outside the IO window. In core memory the bytes of the aligned unit take the
value, an 8-bit write of palette or background VRAM takes both halves of its halfword, and an 8-bit write of OAM or of the
rest of VRAM is ignored; the BIOS and unmapped addresses ignore it; a write of cartridge space changes save bytes only.
Every byte outside reads as before. And the regions and mirrors: EWRAM every 256 KiB, IWRAM every 32 KiB, palette and OAM
every 1 KiB, VRAM every 128 KiB with its last 32 KiB folded. -/
def Obligations.Cpu32StoreFrame : Prop :=
  (∀ (w : Width) (a v : Word) (s t : State), Memory.wf s.cpu32.mem = true → region a ≠ .io →
     storeData false w a v s = .next t →
     t = { s with
       cpu32 := { s.cpu32 with lastAccess := some (accessOf w a), save := t.cpu32.save, mem := t.cpu32.mem }
       cycles := s.cycles + accessCost false w a s
       draws := t.draws } ∧
     (∀ k, Memory.read t.cpu32.mem k ≠ Memory.read s.cpu32.mem k →
       (isRam (region a) ∧ ∃ j, j < (storeSpan w a s).2 ∧ k = memKey (region a) ((storeSpan w a s).1.toNat + j)) ∨
       (0x0E000000 ≤ k ∧ (region a = .save ∨ ∃ x, region a = .rom x))) ∧
     (isRam (region a) → t.cpu32.save = s.cpu32.save ∧
       ∀ j, j < (storeSpan w a s).2 →
         Memory.read t.cpu32.mem (memKey (region a) ((storeSpan w a s).1.toNat + j)) =
           (if w = .byte then v.setWidth 8 else (v >>> (8 * j)).setWidth 8)) ∧
     (region a = .bios ∨ region a = .unmapped → t.cpu32.mem = s.cpu32.mem ∧ t.cpu32.save = s.cpu32.save)) ∧
  (∀ (w : Width) (a : Word) (s : State),
    let n := a.toNat
    (region a = .ewram ∨ region a = .iwram → (storeSpan w a s).1.toNat = n / w.bytes * w.bytes ∧
      (storeSpan w a s).2 = w.bytes) ∧
    (w ≠ .byte → isRam (region a) →
      (storeSpan w a s).1.toNat = n / w.bytes * w.bytes ∧ (storeSpan w a s).2 = w.bytes) ∧
    (region a = .palette ∨ (region a = .vram ∧ n % 0x20000 < 0x10000) →
      (storeSpan .byte a s).1.toNat = n / 2 * 2 ∧ (storeSpan .byte a s).2 = 2) ∧
    (region a = .oam ∨ (region a = .vram ∧ 0x10000 ≤ n % 0x20000) → (storeSpan .byte a s).2 = 0)) ∧
  (∀ a : Nat, memKey .ewram (a + 0x40000) = memKey .ewram a ∧ memKey .iwram (a + 0x8000) = memKey .iwram a ∧
    memKey .palette (a + 0x400) = memKey .palette a ∧ memKey .oam (a + 0x400) = memKey .oam a ∧
    memKey .vram (a + 0x20000) = memKey .vram a ∧
    (0x10000 ≤ a % 0x20000 → a % 0x20000 < 0x18000 → memKey .vram (a + 0x8000) = memKey .vram a)) ∧
  (∀ a : Word, (region a = .ewram ↔ a.toNat / 0x1000000 = 2) ∧ (region a = .iwram ↔ a.toNat / 0x1000000 = 3) ∧
    (region a = .palette ↔ a.toNat / 0x1000000 = 5) ∧ (region a = .vram ↔ a.toNat / 0x1000000 = 6) ∧
    (region a = .oam ↔ a.toNat / 0x1000000 = 7) ∧ (region a = .bios ↔ a.toNat < 0x4000) ∧
    (region a = .io ↔ 0x4000000 ≤ a.toNat ∧ a.toNat < 0x4000400) ∧
    (region a = .save ↔ a.toNat / 0x2000000 = 7) ∧
    ((∃ x, region a = .rom x) ↔ 4 ≤ a.toNat / 0x2000000 ∧ a.toNat / 0x2000000 ≤ 6))

/-- R580, R581, R583 to R585, R58, R747, R833: LDM. Without R15 in its list it always completes; from core memory each
listed register takes its word, lowest register from the lowest address, into the user bank with S; the base takes `newb`
where W is set and it is not listed; no other register of any bank changes, no byte of memory, and not CPSR. With R15 in the
list, or with an empty list, which transfers R15 alone and moves the base by 0x40, the PC takes the last word; with S the
CPSR is the mode's SPSR first and the PC is aligned to the restored state, and an SPSR that names no mode stops it. It costs
`Nd + (n − 1) × Sd + I + Sc`, and with R15 the refill `Nt + St`. That the empty list counts as one with R15 for S and for
writeback is the reading of log entry 22, the model's. -/
def Obligations.ArmLoadMultiple : Prop :=
  (∀ (o : BlockOps) (s : State), o.list ≠ 0#16 → o.list.getLsbD 15 = false → BlockAllowed o False s →
     let m := if o.s then Mode.usr else s.cpu32.cpsr.mode
     let size := 4 * listCount o.list
     let low := blockLow o (readReg o.rn s) size
     ∃ t, exec (.armLdm o) s = .next t ∧ t.cpu32.mem = s.cpu32.mem ∧ t.cpu32.cpsr = s.cpu32.cpsr ∧
       t.cpu32.pc = s.cpu32.pc + len32 s ∧
       t.cycles = s.cycles + blockCost low (listCount o.list) s + 1 + sCost s ∧
       (o.wb = true → o.list.getLsbD o.rn.toNat = false →
         t.cpu32.regIn s.cpu32.cpsr.mode o.rn = blockEnd o (readReg o.rn s) size) ∧
       OnlyLoaded o m s t ∧
       ((∀ j, j < listCount o.list → isRam (region (low + BitVec.ofNat 32 (4 * j)))) →
         (∀ j i, Listed o.list j i → t.cpu32.regIn m i = ramWord s (low + BitVec.ofNat 32 (4 * j))) ∧
         t = { s with
           cpu32 := { s.cpu32 with slots := t.cpu32.slots, pc := t.cpu32.pc, lastAccess := t.cpu32.lastAccess }
           cycles := t.cycles })) ∧
  (∀ (o : BlockOps) (p : Psr) (s : State), (o.list = 0#16 ∨ o.list.getLsbD 15 = true) → BlockAllowed o True s →
     let m := if o.s then Mode.usr else s.cpu32.cpsr.mode
     let size := if o.list = 0#16 then 0x40 else 4 * listCount o.list
     let low := blockLow o (readReg o.rn s) size
     let n := if o.list = 0#16 then 1 else listCount o.list
     let v := ramWord s (low + BitVec.ofNat 32 (4 * (n - 1)))
     (o.s = true → ∃ w, s.cpu32.spsr? s.cpu32.cpsr.mode = some w ∧ Psr.ofWord? w = some p) →
     ∃ t, exec (.armLdm o) s = .next t ∧ t.cpu32.mem = s.cpu32.mem ∧
       t.cpu32.cpsr = (if o.s then p else { s.cpu32.cpsr with t := t.cpu32.cpsr.t }) ∧
       (o.s = false → s.params.interwork = false → t.cpu32.cpsr.t = s.cpu32.cpsr.t) ∧
       t.cpu32.pc = aligned t.cpu32.cpsr.t t.cpu32.pc ∧
       t.cycles = s.cycles + blockCost low n s + 1 + sCost s + refill t ∧
       (o.wb = true → o.list.getLsbD o.rn.toNat = false →
         t.cpu32.regIn s.cpu32.cpsr.mode o.rn = blockEnd o (readReg o.rn s) size) ∧
       OnlyLoaded o m s t ∧
       ((∀ j, j < n → isRam (region (low + BitVec.ofNat 32 (4 * j)))) →
         (o.s = false → t.cpu32.cpsr.t = if s.params.interwork then v.getLsbD 0 else s.cpu32.cpsr.t) ∧
         t.cpu32.pc = aligned t.cpu32.cpsr.t v ∧
         (∀ j i, i ≠ 15#4 → Listed o.list j i → t.cpu32.regIn m i = ramWord s (low + BitVec.ofNat 32 (4 * j))) ∧
         t = { s with
           cpu32 := { s.cpu32 with slots := t.cpu32.slots, pc := t.cpu32.pc, cpsr := t.cpu32.cpsr
                                   lastAccess := t.cpu32.lastAccess }
           cycles := t.cycles })) ∧
  (∀ (o : BlockOps) (w : Word) (s : State), (o.list = 0#16 ∨ o.list.getLsbD 15 = true) → BlockAllowed o True s →
     o.s = true → s.cpu32.spsr? s.cpu32.cpsr.mode = some w → Psr.ofWord? w = none →
     exec (.armLdm o) s = .fault (.unpredictable .invalidMode s.cpu32.pc.toNat))

/-- R580, R582 to R585, R834, R842: STM. Outside the IO window it completes, unless one of its words stands in the two
instruction slots after it, which stops it. In core memory each listed register's word stands at its address, lowest
register at the lowest address, from the user bank with S, R15 as the address of the instruction + 12, and the base as
it was if it is the first register and as `newb` if it comes later; every other byte reads as before. It costs `Nd + (n
− 1) × Sd + Nc`. What a store to an ignored or mirrored address stores, and so its hazard, is the reading of log entry
13 (`storeSpan`); that the code fetch after it is charged as N, as R834 says against R132, is log entry 12; both the
model's choices. -/
def Obligations.ArmStoreMultiple : Prop :=
  ∀ (o : BlockOps) (s : State), BlockAllowed o False s →
    let empty := o.list = 0#16
    let size := if empty then 0x40 else 4 * listCount o.list
    let n := if empty then 1 else listCount o.list
    let low := blockLow o (readReg o.rn s) size
    let newb := blockEnd o (readReg o.rn s) size
    let addr := fun (j : Nat) => low + BitVec.ofNat 32 (4 * j)
    BlockStores (.armStm o) addr n (if o.wb then setX s o.rn newb else s.cpu32) (blockCost low n s + nCost s) s fun t j =>
      ∀ i, (if empty then j = 0 ∧ i = 15#4 else Listed o.list j i) →
        ramWord t (addr j) =
          (if i = 15#4 then s.cpu32.pc + 12
            else if o.wb = true ∧ i = o.rn ∧ 0 < j then newb
            else s.cpu32.regIn (if o.s then .usr else s.cpu32.cpsr.mode) i)

/-- R590, R591, R834, R842: SWP and SWPB. Rd takes the old value at the address in Rn, as a load gives it, and memory
the value of Rm, with no other access between; the restrictions on the operands; and a store into the two instruction
slots after it stops before the write. The write is charged as N, as R834 says against R132 (log entry 12), and what a
store to an ignored or mirrored address stores is the reading of log entry 13, both the model's choices. -/
def Obligations.ArmSwap : Prop :=
  ∀ (byte : Bool) (o : SwapOps) (s s1 : State) (v : Word), CondHolds o.cond s.cpu32.cpsr →
    let i := if byte then Instr.armSwpb o else .armSwp o
    let w := if byte then Width.byte else .word
    (o.rn = 15#4 ∨ o.rd = 15#4 ∨ o.rm = 15#4 ∨ o.rn = o.rd ∨ o.rn = o.rm →
      exec i s = .fault (.unpredictable .swapOperands s.cpu32.pc.toNat)) ∧
    (¬ (o.rn = 15#4 ∨ o.rd = 15#4 ∨ o.rm = 15#4 ∨ o.rn = o.rd ∨ o.rn = o.rm) →
      loadValue (if byte then .unsignedByte else .word) (readReg o.rn s) s = (v, s1) →
      (Hazard s w (readReg o.rn s) → exec i s = .fault (.unpredictable .storeIntoPrefetch s.cpu32.pc.toNat)) ∧
      exec i s = thenRes (storeData false w (readReg o.rn s) (readReg o.rm s) s1)
        (fun s2 => .next (past s2 (setX s2 o.rd v) (sCost s2 + 1))) ∧
      (¬ Hazard s w (readReg o.rn s) → region (readReg o.rn s) ≠ .io →
        ∃ s2, storeData false w (readReg o.rn s) (readReg o.rm s) s1 = .next s2 ∧
          exec i s = .next (past s2 (setX s2 o.rd v) (sCost s2 + 1))))

/-! THUMB instructions. -/

namespace Sys2Proof.Claims

open Sys2Proof.Machine

/-- A THUMB instruction that writes a low register and sets the flags (R630). -/
def thumbWrites (s : State) (rd : LowReg) (r : Word) (c v : Bool) (extra : Nat) : State :=
  past s { setX s (rd.setWidth 4) r with cpsr := withFlags s.cpu32.cpsr r c v } (sCost s + extra)

/-- A low register's value. -/
def lowReg (s : State) (r : LowReg) : Word := s.cpu32.regIn s.cpu32.cpsr.mode (r.setWidth 4)

/-- A THUMB load: its kind, destination and address (R662, R665, R666, R668 to R670, R672, R674, R676, R678). -/
def ThumbLoadForm (k : LoadKind) (rd : LowReg) (a : Word) (i : Instr) (s : State) : Prop :=
  (∃ imm, i = .thumbLdrPc rd imm ∧ k = .word ∧
    a = ((s.cpu32.pc + 4) &&& 0xFFFFFFFC#32) + BitVec.ofNat 32 (4 * imm.toNat)) ∨
  (∃ rb ro, a = lowReg s rb + lowReg s ro ∧ (i, k) ∈
    [(Instr.thumbLdrReg rd rb ro, LoadKind.word), (.thumbLdrbReg rd rb ro, .unsignedByte),
     (.thumbLdsbReg rd rb ro, .signedByte), (.thumbLdrhReg rd rb ro, .unsignedHalf),
     (.thumbLdshReg rd rb ro, .signedHalf)]) ∨
  (∃ rb imm n, a = lowReg s rb + BitVec.ofNat 32 (n * imm.toNat) ∧ (i, k, n) ∈
    [(Instr.thumbLdrImm rd rb imm, LoadKind.word, 4), (.thumbLdrbImm rd rb imm, .unsignedByte, 1),
     (.thumbLdrhImm rd rb imm, .unsignedHalf, 2)]) ∨
  (∃ imm, i = .thumbLdrSp rd imm ∧ k = .word ∧ a = readReg 13#4 s + BitVec.ofNat 32 (4 * imm.toNat))

/-- A THUMB store: its width, register and address (R663, R664, R667, R671, R673, R675, R677). -/
def ThumbStoreForm (w : Width) (rd : LowReg) (a : Word) (i : Instr) (s : State) : Prop :=
  (∃ rb ro, a = lowReg s rb + lowReg s ro ∧ (i, w) ∈
    [(Instr.thumbStrReg rd rb ro, Width.word), (.thumbStrbReg rd rb ro, .byte), (.thumbStrhReg rd rb ro, .half)]) ∨
  (∃ rb imm n, a = lowReg s rb + BitVec.ofNat 32 (n * imm.toNat) ∧ (i, w, n) ∈
    [(Instr.thumbStrImm rd rb imm, Width.word, 4), (.thumbStrbImm rd rb imm, .byte, 1),
     (.thumbStrhImm rd rb imm, .half, 2)]) ∨
  (∃ imm, i = .thumbStrSp rd imm ∧ w = .word ∧ a = readReg 13#4 s + BitVec.ofNat 32 (4 * imm.toNat))

/-- The registers of a THUMB list as an ARM one: the low eight, and one more. -/
def thumbList (list : Byte) (more : BitVec 16) : BitVec 16 := list.setWidth 16 ||| more

end Sys2Proof.Claims

/-- R631 to R657 but for the shifts and the multiply: THUMB formats 2, 3 and 4. Rd takes the result of the ARM operation
and the flags those of S = 1; the test operations write the flags only. -/
def Obligations.ThumbArithmetic : Prop :=
  ∀ (i : Instr) (op : DpOp) (rd : LowReg) (a b r : Word) (c v : Bool) (s : State),
    ((∃ rs rn, a = lowReg s rs ∧ b = lowReg s rn ∧
        (i, op) ∈ [(Instr.thumbAddReg rd rs rn, DpOp.add), (.thumbSubReg rd rs rn, .sub)]) ∨
      (∃ rs, ∃ imm : BitVec 3, a = lowReg s rs ∧ b = BitVec.ofNat 32 imm.toNat ∧
        (i, op) ∈ [(Instr.thumbAddImm3 rd rs imm, DpOp.add), (.thumbSubImm3 rd rs imm, .sub)]) ∨
      (∃ imm : Byte, a = lowReg s rd ∧ b = BitVec.ofNat 32 imm.toNat ∧
        (i, op) ∈ [(Instr.thumbMovImm rd imm, DpOp.mov), (.thumbCmpImm rd imm, .cmp), (.thumbAddImm8 rd imm, .add),
          (.thumbSubImm8 rd imm, .sub)]) ∨
      (∃ rs, a = lowReg s rd ∧ b = lowReg s rs ∧
        (i, op) ∈ [(Instr.thumbAnd rd rs, DpOp.and), (.thumbEor rd rs, .eor), (.thumbAdc rd rs, .adc),
          (.thumbSbc rd rs, .sbc), (.thumbTst rd rs, .tst), (.thumbCmp rd rs, .cmp), (.thumbCmn rd rs, .cmn),
          (.thumbOrr rd rs, .orr), (.thumbBic rd rs, .bic), (.thumbMvn rd rs, .mvn)]) ∨
      (∃ rs, a = lowReg s rs ∧ b = 0#32 ∧ i = .thumbNeg rd rs ∧ op = .rsb)) →
    dpResult op a b s.cpu32.cpsr.c s.cpu32.cpsr = (r, c, v) →
    (¬ isTest op → exec i s = .next (thumbWrites s rd r c v 0)) ∧
    (isTest op → exec i s = .next (past s { s.cpu32 with cpsr := withFlags s.cpu32.cpsr r c v } (sCost s)))

/-- R631 to R633, R644 to R646, R649, R655: the THUMB shifts, by the ARM shifter, and MUL. -/
def Obligations.ThumbShiftsMultiply : Prop :=
  (∀ (i : Instr) (kind : Shift) (rd rs : LowReg) (amount : BitVec 5) (s : State),
    (i, kind) ∈ [(Instr.thumbLslImm rd rs amount, Shift.lsl), (.thumbLsrImm rd rs amount, .lsr),
      (.thumbAsrImm rd rs amount, .asr)] →
    exec i s = .next (thumbWrites s rd (shiftImm kind (lowReg s rs) amount.toNat s.cpu32.cpsr.c).1
      (shiftImm kind (lowReg s rs) amount.toNat s.cpu32.cpsr.c).2 s.cpu32.cpsr.v 0)) ∧
  (∀ (i : Instr) (kind : Shift) (rd rs : LowReg) (s : State),
    (i, kind) ∈ [(Instr.thumbLsl rd rs, Shift.lsl), (.thumbLsr rd rs, .lsr), (.thumbAsr rd rs, .asr),
      (.thumbRor rd rs, .ror)] →
    exec i s = .next (thumbWrites s rd
      (shiftReg kind (lowReg s rd) ((lowReg s rs).toNat % 256) s.cpu32.cpsr.c).1
      (shiftReg kind (lowReg s rd) ((lowReg s rs).toNat % 256) s.cpu32.cpsr.c).2 s.cpu32.cpsr.v 1)) ∧
  (∀ (rd rs : LowReg) (r : Word) (n : Nat) (s : State),
    r.toNat = ((lowReg s rd).toNat * (lowReg s rs).toNat) % 2 ^ 32 → ICycles (lowReg s rd) n →
    exec (.thumbMul rd rs) s = .next (thumbWrites s rd r false s.cpu32.cpsr.v n))

/-- R658 to R660, R222, R679 to R681: THUMB format 5 but for BX. ADD and MOV change no flag, and into R15 they jump in the
same state (under INTERWORK_ALL_PC_WRITES bit 0 is the state); CMP writes the flags only; with two low registers all three
stop. And ADD Rd,PC,#imm, ADD Rd,SP,#imm and ADD SP,#±imm, which change no flag. That the parameter (R7, C5, D23) reaches
ADD and MOV into R15 is the reading of log entry 14, the model's. -/
def Obligations.ThumbHighRegisters : Prop :=
  (∀ (hd hs : RegNum) (s : State),
     (8 ≤ hd.toNat ∨ 8 ≤ hs.toNat →
       (∀ (i : Instr) (v : Word),
         (i, v) ∈ [(Instr.thumbAddHi hd hs, readReg hd s + readReg hs s), (.thumbMovHi hd hs, readReg hs s)] →
         (hd ≠ 15#4 → exec i s = .next (past s (setX s hd v) (sCost s))) ∧
         (hd = 15#4 → exec i s = .next (jumped s s.cpu32
           (if s.params.interwork then v.getLsbD 0 else s.cpu32.cpsr.t) v 0))) ∧
       ∀ r c v, addC (readReg hd s) (~~~(readReg hs s)) true = (r, c, v) →
         exec (.thumbCmpHi hd hs) s = .next (past s { s.cpu32 with cpsr := withFlags s.cpu32.cpsr r c v } (sCost s))) ∧
     (hd.toNat < 8 → hs.toNat < 8 → ∀ i ∈ [Instr.thumbAddHi hd hs, .thumbCmpHi hd hs, .thumbMovHi hd hs],
       exec i s = .fault (.unpredictable .twoLowRegisters s.cpu32.pc.toNat))) ∧
  (∀ (rd : LowReg) (imm : Byte) (down : Bool) (k : BitVec 7) (s : State),
     exec (.thumbAddPc rd imm) s = .next (past s (setX s (rd.setWidth 4)
       (((s.cpu32.pc + 4) &&& 0xFFFFFFFC#32) + BitVec.ofNat 32 (4 * imm.toNat))) (sCost s)) ∧
     exec (.thumbAddSp rd imm) s = .next (past s (setX s (rd.setWidth 4)
       (readReg 13#4 s + BitVec.ofNat 32 (4 * imm.toNat))) (sCost s)) ∧
     exec (.thumbAdjustSp down k) s = .next (past s (setX s 13#4
       (if down then readReg 13#4 s - BitVec.ofNat 32 (4 * k.toNat)
         else readReg 13#4 s + BitVec.ofNat 32 (4 * k.toNat))) (sCost s)))

/-- R662, R665, R666, R668 to R670, R672, R674, R676, R678: the THUMB loads, ten rows. -/
def Obligations.ThumbLoads : Prop :=
  ∀ (k : LoadKind) (rd : LowReg) (a v : Word) (i : Instr) (s s1 : State),
    ThumbLoadForm k rd a i s → loadValue k a s = (v, s1) →
    exec i s = .next (past s1 (setX s1 (rd.setWidth 4) v) (sCost s + 1))

/-- R663, R664, R667, R671, R673, R675, R677, R830, R836, R842: the THUMB stores, seven rows. A store into the two
instruction slots after it stops before the write; any other one outside the IO window completes. What a store to an
ignored or mirrored address stores, and so its hazard, is the reading of log entry 13 (`storeSpan`); that the code fetch
after the store is charged as N, as R836 says against R132, with WAITCNT as it stands after the write, is log entry 12;
both the model's choices. -/
def Obligations.ThumbStores : Prop :=
  ∀ (w : Width) (rd : LowReg) (a : Word) (i : Instr) (s : State), ThumbStoreForm w rd a i s →
    (Hazard s w a → exec i s = .fault (.unpredictable .storeIntoPrefetch s.cpu32.pc.toNat)) ∧
    exec i s = thenRes (storeData false w a (lowReg s rd) s) (fun s1 => .next (past s1 s1.cpu32 (nCost s1))) ∧
    (¬ Hazard s w a → region a ≠ .io →
      ∃ s1, storeData false w a (lowReg s rd) s = .next s1 ∧ exec i s = .next (past s1 s1.cpu32 (nCost s1)))

/-- R683, R685, R836: LDMIA and POP. They complete; from core memory the listed registers take their words, lowest
register from the lowest address. LDMIA moves the base unless it is listed; POP moves SP, and with PC in its list takes
the last word as the PC, aligned in the same state (under INTERWORK_ALL_PC_WRITES bit 0 is the state). They cost
`Nd + (n − 1) × Sd + I + Sc`, and with PC the refill `Nt + St`. -/
def Obligations.ThumbLoadMultiple : Prop :=
  (∀ (rb : LowReg) (list : Byte) (s : State), list ≠ 0#8 →
    let l := thumbList list 0#16
    ∃ t, exec (.thumbLdmia rb list) s = .next t ∧ t.cpu32.mem = s.cpu32.mem ∧ t.cpu32.cpsr = s.cpu32.cpsr ∧
      t.cpu32.pc = s.cpu32.pc + len32 s ∧
      t.cycles = s.cycles + blockCost (lowReg s rb) (listCount l) s + 1 + sCost s ∧
      (list.getLsbD rb.toNat = false → lowReg t rb = lowReg s rb + BitVec.ofNat 32 (4 * listCount l)) ∧
      (∀ (m : Mode) (j : RegNum), j ≠ 15#4 → l.getLsbD j.toNat = false → j ≠ rb.setWidth 4 →
        t.cpu32.regIn m j = s.cpu32.regIn m j) ∧
      ((∀ j, j < listCount l → isRam (region (lowReg s rb + BitVec.ofNat 32 (4 * j)))) →
        (∀ j i, Listed l j i → t.cpu32.regIn s.cpu32.cpsr.mode i = ramWord s (lowReg s rb + BitVec.ofNat 32 (4 * j))) ∧
        t = { s with
          cpu32 := { s.cpu32 with slots := t.cpu32.slots, pc := t.cpu32.pc, lastAccess := t.cpu32.lastAccess }
          cycles := t.cycles })) ∧
  (∀ (toPc : Bool) (list : Byte) (s : State), (toPc = true ∨ list ≠ 0#8) →
    let l := thumbList list (if toPc then 0x8000#16 else 0#16)
    let sp := readReg 13#4 s
    let last := ramWord s (sp + BitVec.ofNat 32 (4 * (listCount l - 1)))
    ∃ t, exec (.thumbPop toPc list) s = .next t ∧ t.cpu32.mem = s.cpu32.mem ∧
      t.cpu32.regIn s.cpu32.cpsr.mode 13#4 = sp + BitVec.ofNat 32 (4 * listCount l) ∧
      t.cycles = s.cycles + blockCost sp (listCount l) s + 1 + sCost s + (if toPc then refill t else 0) ∧
      (toPc = false → t.cpu32.pc = s.cpu32.pc + len32 s ∧ t.cpu32.cpsr = s.cpu32.cpsr) ∧
      (∀ (m : Mode) (j : RegNum), j ≠ 15#4 → l.getLsbD j.toNat = false → slotOf j m ≠ slotOf 13#4 s.cpu32.cpsr.mode →
        t.cpu32.regIn m j = s.cpu32.regIn m j) ∧
      ((∀ j, j < listCount l → isRam (region (sp + BitVec.ofNat 32 (4 * j)))) →
        (∀ j i, i ≠ 15#4 → Listed l j i →
          t.cpu32.regIn s.cpu32.cpsr.mode i = ramWord s (sp + BitVec.ofNat 32 (4 * j))) ∧
        (toPc = true → t.cpu32.cpsr =
            { s.cpu32.cpsr with t := if s.params.interwork then last.getLsbD 0 else s.cpu32.cpsr.t } ∧
          t.cpu32.pc = aligned t.cpu32.cpsr.t last) ∧
        t = { s with
          cpu32 := { s.cpu32 with slots := t.cpu32.slots, pc := t.cpu32.pc, cpsr := t.cpu32.cpsr
                                  lastAccess := t.cpu32.lastAccess }
          cycles := t.cycles }))

/-- R682, R684, R836, R842: PUSH and STMIA. Outside the IO window they complete, unless one of their words stands in the
two instruction slots after them, which stops them. In core memory the listed registers stand at rising addresses,
lowest register lowest. PUSH stores below SP, which it then writes, LR last; STMIA moves the base after the first
transfer, so that a listed base that is not the lowest is stored as moved. Every other byte reads as before. They cost
`Nd + (n − 1) × Sd + Nc`. What a store to an ignored or mirrored address stores, and so its hazard, is the reading of
log entry 13 (`storeSpan`); that the code fetch after it is charged as N, as R836 says against R132, is log entry 12;
both the model's choices. -/
def Obligations.ThumbStoreMultiple : Prop :=
  ∀ (i : Instr) (l : BitVec 16) (base : RegNum) (low newb : Word) (s : State),
    (∃ lr list, (lr = true ∨ list ≠ 0#8) ∧ i = .thumbPush lr list ∧
        l = thumbList list (if lr then 0x4000#16 else 0#16) ∧ base = 13#4 ∧
        low = readReg 13#4 s - BitVec.ofNat 32 (4 * listCount l) ∧ newb = low) ∨
      (∃ rb list, list ≠ 0#8 ∧ i = .thumbStmia rb list ∧ l = thumbList list 0#16 ∧ base = rb.setWidth 4 ∧
        low = lowReg s rb ∧ newb = low + BitVec.ofNat 32 (4 * listCount l)) →
    let addr := fun (j : Nat) => low + BitVec.ofNat 32 (4 * j)
    BlockStores i addr (listCount l) (setX s base newb) (blockCost low (listCount l) s + nCost s) s fun t j =>
      ∀ k, Listed l j k → ramWord t (addr j) = if k = base ∧ 0 < j then newb else readReg k s

/-- R661, R686, R688 to R690: the THUMB branches. B and B<cond> add their sign-extended offset, doubled, to the address
of the instruction + 4; the two halves of BL, run one after the other, jump by the joined offset and leave in LR the
address after them with bit 0 set; BX takes bit 0 as the state. That INTERWORK_ALL_PC_WRITES (R7, C5, D23) does not reach
B, B<cond> and BL is the reading of log entry 14, the model's. -/
def Obligations.ThumbBranches : Prop :=
  (∀ (offset : BitVec 11) (s : State), exec (.thumbB offset) s = .next (jumped s s.cpu32 s.cpu32.cpsr.t
    (s.cpu32.pc + 4 + BitVec.ofNat 32
      (if offset.toNat < 1024 then 2 * offset.toNat else 0x100000000 - 2 * (2048 - offset.toNat))) 0)) ∧
  (∀ (cond : Cond) (offset : Byte) (s : State),
    (CondHolds cond s.cpu32.cpsr → exec (.thumbBCond cond offset) s = .next (jumped s s.cpu32 s.cpu32.cpsr.t
      (s.cpu32.pc + 4 + BitVec.ofNat 32
        (if offset.toNat < 128 then 2 * offset.toNat else 0x100000000 - 2 * (256 - offset.toNat))) 0)) ∧
    (¬ CondHolds cond s.cpu32.cpsr → exec (.thumbBCond cond offset) s = .next (past s s.cpu32 (sCost s)))) ∧
  (∀ (offset : BitVec 11) (s : State), exec (.thumbBlHi offset) s = .next (past s (setX s 14#4
    (s.cpu32.pc + 4 + BitVec.ofNat 32
      (if offset.toNat < 1024 then 4096 * offset.toNat else 0x100000000 - 4096 * (2048 - offset.toNat)))) (sCost s))) ∧
  (∀ (offset : BitVec 11) (s : State), exec (.thumbBlLo offset) s = .next (jumped s
    (setX s 14#4 ((s.cpu32.pc + 2) ||| 1#32)) s.cpu32.cpsr.t
    (readReg 14#4 s + BitVec.ofNat 32 (2 * offset.toNat)) 0)) ∧
  (∀ (hi lo : BitVec 11) (s : State), s.cpu32.cpsr.t = true → s.cpu32.pc &&& 1#32 = 0#32 →
    ∃ t u, exec (.thumbBlHi hi) s = .next t ∧ exec (.thumbBlLo lo) t = .next u ∧
      u.cpu32.pc = s.cpu32.pc + 4 + BitVec.ofNat 32
        (if hi.toNat < 1024 then 4096 * hi.toNat + 2 * lo.toNat
          else 0x100000000 - 4096 * (2048 - hi.toNat) + 2 * lo.toNat) ∧
      readReg 14#4 u = (s.cpu32.pc + 4) ||| 1#32 ∧ u.cpu32.cpsr = s.cpu32.cpsr) ∧
  (∀ (hs : RegNum) (s : State),
    exec (.thumbBx hs) s = .next (jumped s s.cpu32 ((readReg hs s).getLsbD 0) (readReg hs s) 0))

/-- R222, R682 to R685: the THUMB words that stop: the undefined spaces, with the word and its address, and the empty
register lists. -/
def Obligations.ThumbStops : Prop :=
  (∀ (w : Half) (s : State), ∀ i ∈ [Instr.thumbUndefBlx w, .thumbUndefB1 w, .thumbUndefB2 w, .thumbUndefB6 w,
      .thumbUndefB8 w, .thumbUndefBE w, .thumbUndefCond14 w, .thumbUndefE8 w],
    exec i s = .fault (.undefinedOpcode w.toNat s.cpu32.pc.toNat)) ∧
  (∀ (rb : LowReg) (s : State), ∀ i ∈ [Instr.thumbPush false 0#8, .thumbPop false 0#8, .thumbStmia rb 0#8,
      .thumbLdmia rb 0#8], exec i s = .fault (.unpredictable .emptyThumbList s.cpu32.pc.toNat)) ∧
  (∀ w, w < 2 ^ 16 → ∀ i, decodeThumbWord w = i →
    (w / 128 = 0x8F → i = .thumbUndefBlx (BitVec.ofNat 16 w)) ∧
    (w / 256 = 0xB1 → i = .thumbUndefB1 (BitVec.ofNat 16 w)) ∧
    (w / 512 = 0x59 → i = .thumbUndefB2 (BitVec.ofNat 16 w)) ∧
    (w / 512 = 0x5B → i = .thumbUndefB6 (BitVec.ofNat 16 w)) ∧
    (w / 1024 = 0x2E → i = .thumbUndefB8 (BitVec.ofNat 16 w)) ∧
    (w / 512 = 0x5F → i = .thumbUndefBE (BitVec.ofNat 16 w)) ∧
    (w / 256 = 0xDE → i = .thumbUndefCond14 (BitVec.ofNat 16 w)) ∧
    (w / 2048 = 0x1D → i = .thumbUndefE8 (BitVec.ofNat 16 w)))

/-! The CPU-32 machine around the instructions. -/

namespace Sys2Proof.Claims

open Sys2Proof.Machine

/-- The IO registers with one halfword of plain bits: offset, stored bits, value read, and the state after a write
(R61 to R65). -/
def PlainIo (s : State) (v : Half) (o : Nat) (used value : Half) (t : Cpu32) : Prop :=
  (o, used, value, t) ∈
    [(0x200, 0x3FFF#16, s.cpu32.ie.setWidth 16, { s.cpu32 with ie := v.setWidth 14 }),
     (0x202, 0x3FFF#16, s.cpu32.iflag.setWidth 16, { s.cpu32 with iflag := s.cpu32.iflag &&& ~~~(v.setWidth 14) }),
     (0x204, 0xDFFF#16, s.cpu32.waitcnt, { s.cpu32 with waitcnt := v &&& 0x5FFF#16 }),
     (0x208, 0x0001#16, if s.cpu32.ime then 1#16 else 0#16, { s.cpu32 with ime := v.getLsbD 0 })]

/-- A halfword of which one half takes a byte. -/
def withByte (high : Bool) (old : Half) (b : Byte) : Half := if high then b ++ loByte old else hiByte old ++ b

/-- A word of which one half takes a halfword. -/
def withHalf (high : Bool) (old : Word) (h : Half) : Word :=
  BitVec.ofNat 32 (if high then h.toNat * 0x10000 + old.toNat % 0x10000 else old.toNat / 0x10000 * 0x10000 + h.toNat)

/-- The registers whose 8-bit write is a halfword write of the byte merged with the stored bits, by offset (R121). -/
def MergedIo (s : State) (o : Nat) (stored : Half) : Prop :=
  (o, stored) ∈ [(0x200, s.cpu32.ie.setWidth 16), (0x204, s.cpu32.waitcnt), (0x208, if s.cpu32.ime then 1#16 else 0#16)] ∨
  ∃ n : Fin 4, (o, stored) ∈
    [(0x100 + 4 * n.val, s.cpu32.timers[n].reload), (0x102 + 4 * n.val, s.cpu32.timers[n].control),
     (0xB0 + 12 * n.val, s.cpu32.dma[n].sad.setWidth 16), (0xB2 + 12 * n.val, (s.cpu32.dma[n].sad >>> 16).setWidth 16),
     (0xB4 + 12 * n.val, s.cpu32.dma[n].dad.setWidth 16), (0xB6 + 12 * n.val, (s.cpu32.dma[n].dad >>> 16).setWidth 16),
     (0xB8 + 12 * n.val, s.cpu32.dma[n].cntL), (0xBA + 12 * n.val, s.cpu32.dma[n].control)]

/-- The used bits of DMAnSAD, DMAnDAD, CNT_L and CNT_H (R66); bit 11 of CNT_H is channel 3's (log entry 24). -/
def dmaMask (n : Fin 4) (r : Nat) : Word :=
  match r with
  | 0 => if n = 0 then 0x07FFFFFF#32 else 0x0FFFFFFF#32
  | 4 => if n = 3 then 0x0FFFFFFF#32 else 0x07FFFFFF#32
  | 8 => if n = 3 then 0xFFFF#32 else 0x3FFF#32
  | _ => if n = 3 then 0xFFE0#32 else 0xF7E0#32

/-- A write completes, and leaves the general registers, PC, CPSR and core memory as they are. -/
def WritesIo (s : State) (r : Res) : Prop :=
  ∃ t, r = .next t ∧ t.cpu32.slots = s.cpu32.slots ∧ t.cpu32.pc = s.cpu32.pc ∧ t.cpu32.cpsr = s.cpu32.cpsr ∧
    t.cpu32.mem = s.cpu32.mem

/-- The state with a DMA channel's registers changed. -/
def withDma (n : Fin 4) (d : DmaChannel) (s : State) : State :=
  { s with cpu32 := { s.cpu32 with dma := s.cpu32.dma.set n d } }

/-- A register halfword with its unused bits drawn, as a word (R13, D11). -/
def drawn16 (used v : Half) (s : State) : Word × State :=
  (((v &&& used) ||| (Config.draw 16 s.draws &&& ~~~used)).setWidth 32, { s with draws := s.draws + 1 })

/-- The wait states of a first access (R63). -/
def firstWaits (n : Nat) : Nat := if n = 0 then 4 else if n = 1 then 3 else if n = 2 then 2 else 8

/-- `nw_k` and `sw_k` of a WAITCNT value (R63). -/
def waits (waitcnt k : Nat) (seq : Bool) : Nat :=
  if seq then (if waitcnt / 2 ^ (4 + 3 * k) % 2 = 1 then 1 else 2 ^ (k + 1))
  else firstWaits (waitcnt / 2 ^ (2 + 3 * k) % 4)

/-- Ready to go on at a CPU-32 boundary (R811): not faulted, no DMA pending. -/
def Boundary32 (s : State) : Prop :=
  s.fault = none ∧ s.params.variant = .cpu32 ∧ ∀ n : Fin 4, s.cpu32.dma[n].pending = false

/-- The IRQ condition of R741. -/
def Irq32 (s : State) : Prop :=
  s.cpu32.ime = true ∧ s.cpu32.ie &&& s.cpu32.iflag ≠ 0#14 ∧ s.cpu32.cpsr.i = false

/-- A count of timer n moves timer m (R730): every timer from n to before m overflows, and every one after n up to m is
enabled and counts up. -/
def Ticks (c : Cpu32) (n m : Fin 4) : Prop :=
  n ≤ m ∧ ∀ k : Fin 4, (n ≤ k → k < m → c.timers[k].counter = 0xFFFF#16) ∧
    (n < k → k ≤ m → c.timers[k].control.getLsbD 7 = true ∧ c.timers[k].control.getLsbD 2 = true)

/-- The state with the timers run for k cycles more (R820). -/
def ran (k : Nat) (s : State) : State :=
  { s with cpu32 := Cpu32.advance k s.cpu32, cycles := s.cycles + k }

/-- How an address moves by one unit under a control field: up, down, not at all, up (R66, R773). -/
def dmaMove (control : Nat) (w : Width) : Word :=
  if control = 1 then -(BitVec.ofNat 32 w.bytes) else if control = 2 then 0#32 else BitVec.ofNat 32 w.bytes

/-- The cycles of k units after the first, at two addresses (R776). -/
def dmaCycles (w : Width) (src dst : Word) (count : Nat) (s : State) : Nat :=
  2 + accessCost false w src s + accessCost false w dst s +
    (count - 1) * (accessCost true w src s + accessCost true w dst s)

/-- What stands in code memory: the bytes read little-endian at the PC are a word (R105). -/
def CodeAt32 (s : State) (w : Nat) : Prop :=
  ∃ s1, memRead (fetch32Width s) s.cpu32.pc
      { s with cpu32 := { s.cpu32 with
        lastAccess := some { addr := s.cpu32.pc, width := 8 * (fetch32Width s).bytes, code := true } } } =
    (BitVec.ofNat 32 w, s1) ∧ s1 = { s with cpu32 := { s.cpu32 with lastAccess := s1.cpu32.lastAccess } }

/-- One 8-bit write after the other in region 0xE–0xF, at offsets (R154). -/
def flashWrites : List (Nat × Byte) → State → State
  | [], s => s
  | (o, b) :: rest, s => flashWrites rest (saveWrite true (0x0E000000 + o) b s)

/-- The unlock of a Flash command, then the command byte (R154). -/
def unlocked (cmd : Byte) : List (Nat × Byte) := [(0x5555, 0xAA#8), (0x2AAA, 0x55#8), (0x5555, cmd)]

/-- Bits sent to the EEPROM, first first (R156). -/
def eepromBits : List Bool → State → State
  | [], s => s
  | b :: rest, s => eepromBits rest (eepromWrite b s)

/-- The n low bits of a number, most significant first. -/
def bitsOf (x : Nat) : Nat → List Bool
  | 0 => []
  | n + 1 => x.testBit n :: bitsOf x n

end Sys2Proof.Claims

/-- R61 to R66, R121, R122, R131, R745, R746, R771: the IO registers. A halfword read answers the stored bits with the
others drawn, KEYINPUT its 16 bits, and a register that only writes and a forwarded one a draw. A halfword write stores the
used bits, of the DMA addresses, counts and control words too, IF clearing the bits written as 1, KEYINPUT ignoring it, and
a forwarded one is handed on (through the outbox, log entry 10, the model's choice). That bit 11 of DMAnCNT_H is unused,
and drawn, on channels 0 to 2 is log entry 24's, the model's reading. An 8-bit read answers its byte of the halfword. An
8-bit write is the halfword write of the byte merged with the register's stored bits, but for IF, where it acts on its own
byte only, POSTFLG and HALTCNT, each a byte of its own, and a forwarded register, whose other byte is drawn; that TMnCNT_L
merges with its reload value, that HALTCNT's last byte is held, and the draw are log entry 32's, the model's choices. A
32-bit access is the two halfword accesses, low half first. HALTCNT halts at the write, which the boundary sees (log entry
30, the model's), or is refused with bit 7; DMA control is refused when it enables a channel with source control 3; every
other write of any width completes. And what WAITCNT selects: the cost of every access, by region and width. -/
def Obligations.Cpu32IoRegisters : Prop :=
  (∀ (v used value : Half) (o : Nat) (t : Cpu32) (m : Master) (s : State), PlainIo s v o used value t →
    let a := BitVec.ofNat 32 (0x04000000 + o)
    memRead .half a s = drawn16 used value s ∧ memWrite m .half a (v.setWidth 32) s = .next { s with cpu32 := t }) ∧
  (∀ (v : Word) (m : Master) (s : State),
    memRead .half 0x04000130#32 s = (s.cpu32.keyinput.setWidth 32, s) ∧
    (∀ a ∈ [0x04000130#32, 0x0400020A#32], memWrite m .half a v s = .next s) ∧
    ∀ a ∈ [0x04000130#32, 0x04000131#32, 0x0400020A#32, 0x0400020B#32], memWrite m .byte a v s = .next s) ∧
  (∀ (n : Fin 4) (high : Bool) (v : Half) (m : Master) (s : State),
    let d := s.cpu32.dma[n]
    let writes := fun (r : Nat) => memWrite m .half (BitVec.ofNat 32 (0x040000B0 + 12 * n.val + r)) (v.setWidth 32) s
    writes (if high then 2 else 0) = .next (withDma n { d with sad := withHalf high d.sad v &&& dmaMask n 0 } s) ∧
    writes (if high then 6 else 4) = .next (withDma n { d with dad := withHalf high d.dad v &&& dmaMask n 4 } s) ∧
    writes 8 = .next (withDma n { d with cntL := v &&& (dmaMask n 8).setWidth 16 } s) ∧
    ∀ t, writes 10 = .next t → t.cpu32.dma[n].control = v &&& (dmaMask n 10).setWidth 16 ∧
      t = withDma n t.cpu32.dma[n] s) ∧
  (∀ (a v : Word) (o : Nat) (stored : Half) (m : Master) (s : State), MergedIo s o stored →
    a.toNat / 2 * 2 = 0x04000000 + o →
    memWrite m .byte a v s = memWrite m .half (BitVec.ofNat 32 (0x04000000 + o))
      ((withByte (a.getLsbD 0) stored (v.setWidth 8)).setWidth 32) s) ∧
  (∀ (n : Fin 4) (s : State),
    memRead .half 0x04000300#32 s = drawn16 0x0001#16 (if s.cpu32.postflg then 1#16 else 0#16) s ∧
    memRead .half (BitVec.ofNat 32 (0x04000102 + 4 * n.val)) s = drawn16 0x00C7#16 s.cpu32.timers[n].control s ∧
    memRead .half (BitVec.ofNat 32 (0x040000BA + 12 * n.val)) s =
      drawn16 ((dmaMask n 10).setWidth 16) s.cpu32.dma[n].control s ∧
    ∀ o, o ∈ [0x20A, 0xB0 + 12 * n.val, 0xB2 + 12 * n.val, 0xB4 + 12 * n.val, 0xB6 + 12 * n.val, 0xB8 + 12 * n.val] →
      memRead .half (BitVec.ofNat 32 (0x04000000 + o)) s = drawn16 0#16 0#16 s) ∧
  (∀ (o : Nat) (v : Word) (m : Master) (s : State), o < 0x400 → o % 2 = 0 → ¬ (0xB0 ≤ o ∧ o < 0xE0) →
    ¬ (0x100 ≤ o ∧ o < 0x110) → o ∉ [0x130, 0x200, 0x202, 0x204, 0x208, 0x20A, 0x300] →
    memRead .half (BitVec.ofNat 32 (0x04000000 + o)) s = drawn16 0#16 0#16 s ∧
    memWrite m .half (BitVec.ofNat 32 (0x04000000 + o)) v s =
      .next { s with outbox := s.outbox ++ [.io32 o (v.setWidth 16) 0xFFFF#16] } ∧
    ∀ high : Bool, memWrite m .byte (BitVec.ofNat 32 (0x04000000 + o + if high then 1 else 0)) v s =
      .next { s with
        draws := s.draws + 1
        outbox := s.outbox ++ [.io32 o (withByte high (Config.draw 16 s.draws) (v.setWidth 8))
          (if high then 0xFF00#16 else 0x00FF#16)] }) ∧
  (∀ (a : Word) (s : State), region a = .io →
    (let r := memRead .half a s
     memRead .byte a s = (BitVec.ofNat 32 (r.1.toNat / 256 ^ (a.toNat % 2) % 256), r.2)) ∧
    (let lo := memRead .half (BitVec.ofNat 32 (a.toNat / 4 * 4)) s
     let hi := memRead .half (BitVec.ofNat 32 (a.toNat / 4 * 4 + 2)) lo.2
     memRead .word a s = (BitVec.ofNat 32 (lo.1.toNat + 0x10000 * hi.1.toNat), hi.2))) ∧
  (∀ (n : Fin 4) (v : Half) (m : Master) (s : State), s.cpu32.dma[n].control.getLsbD 15 = false →
    v.getLsbD 15 = true → v.toNat / 128 % 4 = 3 →
    memWrite m .half (BitVec.ofNat 32 (0x040000BA + 12 * n.val)) (v.setWidth 32) s = .refused .dmaSourceControl3) ∧
  (∀ (seq : Bool) (w : Width) (a : Word) (s : State),
    let n := a.toNat / 0x1000000
    let wc := s.cpu32.waitcnt.toNat
    let cost := accessCost seq w a s
    (∀ k, k < 3 → n = 8 + 2 * k ∨ n = 9 + 2 * k →
      cost = 1 + waits wc k seq + (if w = .word then 1 + waits wc k true else 0)) ∧
    (n = 14 ∨ n = 15 → cost = 1 + firstWaits (wc % 4)) ∧
    (n = 2 → cost = if w = .word then 6 else 3) ∧
    (n = 5 ∨ n = 6 → cost = if w = .word then 2 else 1) ∧
    (n = 0 ∨ n = 1 ∨ n = 3 ∨ n = 4 ∨ n = 7 ∨ 16 ≤ n → cost = 1)) ∧
  (∀ (v : Word) (m : Master) (s : State),
    memWrite m .byte 0x04000202#32 v s = .next
      { s with cpu32 := { s.cpu32 with iflag := s.cpu32.iflag &&& ~~~(v.setWidth 14 &&& 0x00FF#14) } } ∧
    memWrite m .byte 0x04000203#32 v s = .next
      { s with cpu32 := { s.cpu32 with iflag := s.cpu32.iflag &&& ~~~((v <<< 8).setWidth 14 &&& 0x3F00#14) } }) ∧
  (∀ (a v : Word) (m : Master) (s : State), region a = .io →
    memWrite m .word a v s = thenRes (memWrite m .half (BitVec.ofNat 32 (a.toNat / 4 * 4)) v s)
      (memWrite m .half (BitVec.ofNat 32 (a.toNat / 4 * 4 + 2)) (v >>> 16))) ∧
  (∀ (v : Word) (m : Master) (s : State),
    (v.getLsbD 7 = false → memWrite m .byte 0x04000301#32 v s = .next
      { s with cpu32 := { s.cpu32 with haltcnt := v.setWidth 8, halted := true } }) ∧
    (v.getLsbD 7 = true → memWrite m .byte 0x04000301#32 v s = .refused .cpu32StopMode) ∧
    memWrite m .byte 0x04000300#32 v s = .next { s with cpu32 := { s.cpu32 with postflg := v.getLsbD 0 } } ∧
    (v.getLsbD 15 = false → memWrite m .half 0x04000300#32 v s = .next { s with cpu32 := { s.cpu32 with
      postflg := v.getLsbD 0, haltcnt := (v >>> 8).setWidth 8, halted := true } }) ∧
    (v.getLsbD 15 = true → memWrite m .half 0x04000300#32 v s = .refused .cpu32StopMode)) ∧
  (∀ (a v : Word) (m : Master) (s : State), region a = .io →
    (a ≠ 0x04000301#32 ∨ v.getLsbD 7 = false →
      (∀ n : Fin 4, a.toNat = 0x040000BB + 12 * n.val → v.getLsbD 7 = true →
        s.cpu32.dma[n].control.getLsbD 15 = true ∨
          ¬ (v.getLsbD 0 = true ∧ s.cpu32.dma[n].control.getLsbD 7 = true)) →
      WritesIo s (memWrite m .byte a v s)) ∧
    (a.toNat / 2 * 2 ≠ 0x04000300 ∨ v.getLsbD 15 = false →
      (∀ n : Fin 4, a.toNat / 2 * 2 = 0x040000BA + 12 * n.val → v.getLsbD 15 = true →
        s.cpu32.dma[n].control.getLsbD 15 = true ∨ v.toNat / 128 % 4 ≠ 3) →
      WritesIo s (memWrite m .half a v s)) ∧
    (a.toNat / 4 * 4 ≠ 0x04000300 ∨ v.getLsbD 15 = false →
      (∀ n : Fin 4, a.toNat / 4 * 4 = 0x040000B8 + 12 * n.val → v.getLsbD 31 = true →
        s.cpu32.dma[n].control.getLsbD 15 = true ∨ v.toNat / 0x800000 % 4 ≠ 3) →
      WritesIo s (memWrite m .word a v s)))

/-- R741, R744, R745, R749: the boundary. The IRQ is taken when IME is set, an enabled interrupt is pending and CPSR.I is
clear: SPSR_irq takes CPSR, LR_irq the next instruction's address + 4, and the machine stands in IRQ mode and ARM state
at 0x18 with IRQ disabled, IF unchanged but for what the timers raise. Halted with nothing pending, a step is one cycle;
an enabled pending interrupt ends the halt whatever IME and I are. -/
def Obligations.Cpu32Interrupts : Prop :=
  ∀ s : State, Boundary32 s →
    (s.cpu32.halted = true → s.cpu32.ie &&& s.cpu32.iflag = 0#14 →
      step s = .next (ran 1 { s with cycles := 0, outbox := [] })) ∧
    (s.cpu32.halted = true → s.cpu32.ie &&& s.cpu32.iflag ≠ 0#14 →
      step s = step { s with cpu32 := { s.cpu32 with halted := false } }) ∧
    (Irq32 s → ∃ u, step s = .next u ∧
      let e := { s with
        cpu32 := { s.cpu32.setRegIn .irq 14#4 (s.cpu32.pc + 4) with
          halted := false, pc := 0x18#32, spsrIrq := s.cpu32.cpsr.toWord
          cpsr := { s.cpu32.cpsr with mode := .irq, t := false, i := true } }
        cycles := 0
        outbox := [] }
      u = ran (accessCost false .word 0x18#32 s + accessCost true .word 0x1C#32 s + 1) e)

/-- R730, R731: the CPU-32 timers. A running timer that does not count up moves its phase each cycle and counts when the
phase reaches the divisor; at 0xFFFF it reloads, raises IF bit 3 + n if enabled, and moves the next timer if that is enabled
and counts up, and so on along the chain; no other field, no other timer and no other bit of IF changes. That the phase is
compared for equality, so that one already above the divisor moves on without a count, is the reading of log entry 15, the
model's. The enable edge of a control write loads the counter and clears the phase. -/
def Obligations.Cpu32Timers : Prop :=
  (∀ (c : Cpu32) (n : Fin 4) (div : Nat),
    (match c.timers[n].control.toNat % 4 with | 0 => 1 | 1 => 64 | 2 => 256 | _ => 1024) = div →
    let running := c.timers[n].control.getLsbD 7 = true ∧ (n.val = 0 ∨ c.timers[n].control.getLsbD 2 = false)
    (¬ running → c.cycleTimer n = c) ∧
    (running → c.timers[n].phase + 1 ≠ div →
      c.cycleTimer n = { c with timers := c.timers.set n { c.timers[n] with phase := c.timers[n].phase + 1 } }) ∧
    (running → c.timers[n].phase + 1 = div → c.timers[n].counter ≠ 0xFFFF#16 →
      c.cycleTimer n = { c with
        timers := c.timers.set n { c.timers[n] with phase := 0, counter := c.timers[n].counter + 1 } }) ∧
    (running → c.timers[n].phase + 1 = div → c.timers[n].counter = 0xFFFF#16 → ∃ d, c.cycleTimer n = d ∧
      d = { c with timers := d.timers, iflag := d.iflag } ∧
      (∀ m : Fin 4,
        (Ticks c n m → d.timers[m] = { c.timers[m] with
          phase := if m = n then 0 else c.timers[m].phase
          counter := if c.timers[m].counter = 0xFFFF#16 then c.timers[m].reload else c.timers[m].counter + 1 }) ∧
        (¬ Ticks c n m → d.timers[m] = c.timers[m])) ∧
      ∀ j : Fin 14, d.iflag.getLsbD j = true ↔ c.iflag.getLsbD j = true ∨
        ∃ m : Fin 4, j.val = 3 + m.val ∧ Ticks c n m ∧ c.timers[m].counter = 0xFFFF#16 ∧
          c.timers[m].control.getLsbD 6 = true)) ∧
  (∀ (k : Nat) (c : Cpu32), c.timers[0].control.getLsbD 7 = true → c.timers[0].control.toNat % 4 = 1 →
    (∀ n : Fin 4, n ≠ 0 → c.timers[n].control.getLsbD 7 = false) → c.timers[0].phase < 64 →
    c.timers[0].counter.toNat + (c.timers[0].phase + k) / 64 < 0x10000 →
    (Cpu32.advance k c).timers[0].counter.toNat = c.timers[0].counter.toNat + (c.timers[0].phase + k) / 64 ∧
    (Cpu32.advance k c).timers[0].phase = (c.timers[0].phase + k) % 64) ∧
  (∀ (n : Fin 4) (v : Half) (m : Master) (s : State),
    memWrite m .half (BitVec.ofNat 32 (0x04000100 + 4 * n.val)) (v.setWidth 32) s =
      .next { s with cpu32 := { s.cpu32 with
        timers := s.cpu32.timers.set n { s.cpu32.timers[n] with reload := v } } } ∧
    memWrite m .half (BitVec.ofNat 32 (0x04000102 + 4 * n.val)) (v.setWidth 32) s =
      .next { s with cpu32 := { s.cpu32 with
        timers := s.cpu32.timers.set n (if s.cpu32.timers[n].control.getLsbD 7 = false ∧ v.getLsbD 7 = true then
            { s.cpu32.timers[n] with control := v &&& 0x00C7#16, counter := s.cpu32.timers[n].reload, phase := 0 }
          else { s.cpu32.timers[n] with control := v &&& 0x00C7#16 }) } } ∧
    memRead .half (BitVec.ofNat 32 (0x04000100 + 4 * n.val)) s = (s.cpu32.timers[n].counter.setWidth 32, s))

/-- R66, R770, R773 to R776: a DMA run. From core memory to another region, EWRAM or IWRAM, with each address counting up,
down or staying, the units are copied in order, the last one standing where several go to one place; no other byte changes,
the channel ends or stays by its repeat bit, with its count and under inc-reload its destination taken anew, its address,
count and other control bits stay as they were written, IF takes bit 8 + n with the IRQ bit, and the cycles of the run pass
for the timers. A control write that enables the channel latches its addresses and count, and with start timing 0 it is
pending at once; one that leaves it enabled changes the control word only; one that clears enable cancels it. The used bits
of the control word are those of log entry 24, the model's reading. At a boundary the lowest pending channel runs first;
the bound on the runs of one step is log entry 20's, the model's choice. -/
def Obligations.Cpu32DmaRun : Prop :=
  (∀ (n : Fin 4) (rs rd : Region) (d : DmaChannel) (w : Width) (s : State), Memory.wf s.cpu32.mem = true →
    s.cpu32.dma[n] = d → w = (if d.control.getLsbD 10 then Width.word else .half) →
    d.control.toNat / 128 % 4 ≠ 3 → isRam rs → (rd = .ewram ∨ rd = .iwram) → rs ≠ rd →
    d.icount * w.bytes ≤ 0x8000 →
    let src := fun (k : Nat) => d.isrc + BitVec.ofNat 32 k * dmaMove (d.control.toNat / 128 % 4) w
    let dst := fun (k : Nat) => d.idst + BitVec.ofNat 32 k * dmaMove (d.control.toNat / 32 % 4) w
    let repeats := d.control.getLsbD 9 = true ∧ d.control.toNat / 4096 % 4 ≠ 0
    (∀ k, k < d.icount → region (src k) = rs ∧ region (dst k) = rd) →
    ∃ (u : State) (c : Cpu32), dmaRun n s = .next u ∧
      u = ran (dmaCycles w d.isrc d.idst d.icount s) { s with cpu32 := c } ∧
      (∀ k j, k < d.icount → j < w.bytes → (∀ l, k < l → l < d.icount → dst l ≠ dst k) →
        Memory.read c.mem (memKey rd ((dst k).toNat / w.bytes * w.bytes + j)) =
          Memory.read s.cpu32.mem (memKey rs ((src k).toNat / w.bytes * w.bytes + j))) ∧
      (∀ x, (∀ k j, k < d.icount → j < w.bytes → x ≠ memKey rd ((dst k).toNat / w.bytes * w.bytes + j)) →
        Memory.read c.mem x = Memory.read s.cpu32.mem x) ∧
      c.dma[n].isrc = src d.icount ∧
      c.dma[n].idst = (if repeats ∧ d.control.toNat / 32 % 4 = 3 then
        d.dad &&& dmaMask n 4 else dst d.icount) ∧
      c.dma[n].icount = (if ¬ repeats then d.icount else if d.cntL = 0#16 then (if n = 3 then 0x10000 else 0x4000)
        else d.cntL.toNat) ∧
      c.dma[n] = { d with
        isrc := c.dma[n].isrc, idst := c.dma[n].idst, icount := c.dma[n].icount, pending := false
        control := if repeats then d.control else d.control &&& 0x7FFF#16 } ∧
      (∀ m : Fin 4, m ≠ n → c.dma[m] = s.cpu32.dma[m]) ∧
      c.iflag = (if d.control.getLsbD 14 then s.cpu32.iflag ||| BitVec.ofNat 14 (2 ^ (8 + n.val))
        else s.cpu32.iflag) ∧
      c = { s.cpu32 with mem := c.mem, dma := c.dma, iflag := c.iflag, lastAccess := c.lastAccess }) ∧
  (∀ (n : Fin 4) (s : State), s.fault = none → s.params.variant = .cpu32 → s.cpu32.dma[n].pending = true →
    (∀ m : Fin 4, m.val < n.val → s.cpu32.dma[m].pending = false) →
    step s = thenRes (dmaRun n { s with cycles := 0, outbox := [] }) fun u =>
      thenRes (dmaPhase (Config.dmaRunsPerStep - 1) u) afterDma) ∧
  (∀ (n : Fin 4) (v : Half) (m : Master) (s : State),
    let d := { s.cpu32.dma[n] with control := v &&& (dmaMask n 10).setWidth 16 }
    let enabled := s.cpu32.dma[n].control.getLsbD 15 = true
    let writes := memWrite m .half (BitVec.ofNat 32 (0x040000BA + 12 * n.val)) (v.setWidth 32) s
    (v.getLsbD 15 = false → writes = .next (withDma n { d with pending := false } s)) ∧
    (v.getLsbD 15 = true → enabled → writes = .next (withDma n d s)) ∧
    (v.getLsbD 15 = true → ¬ enabled → v.toNat / 128 % 4 ≠ 3 →
      writes = .next (withDma n { d with
        isrc := d.sad &&& dmaMask n 0
        idst := d.dad &&& dmaMask n 4
        icount := if d.cntL = 0#16 then (if n = 3 then 0x10000 else 0x4000) else d.cntL.toNat
        pending := d.pending || decide (v.toNat / 4096 % 4 = 0) } s)))

/-- R150 to R158: the save memories. SRAM stores at the offset modulo 32 KiB; the first write of an unknown type decides
it; Flash of either size runs the unlocked commands: identify, write a byte, erase a sector, erase the chip, switch the
bank; the EEPROM of either size answers a read request with four 0 bits and the block's bits, and a write request stores
the block. A first halfword write to region 0xD makes an EEPROM, of the size the unit count of a DMA 3 run tells. A wide
read repeats the byte at its address, a wide write stores its low byte there, and before the type is known a read is a draw
of its width. And the EEPROM's window on the bus: a halfword read answers the next output bit in bit 0 and takes it, and 1
where none is left, as R156 says (log entry 16, the model's choice against the draw of 93_implementation_defined.md); a
halfword write sends bit 0; reads of the other widths draw and their writes are ignored; outside it a write of cartridge
ROM is ignored but for the one that detects an EEPROM. -/
def Obligations.SaveMemories : Prop :=
  (∀ (a : Nat) (b : Byte) (byteWrite : Bool) (s : State), Memory.wf s.cpu32.mem = true →
    (s.cpu32.save.kind = .sram ∨ (s.cpu32.save.kind = .unknown ∧
      ¬ (byteWrite = true ∧ b = 0xAA#8 ∧ a % 0x10000 = 0x5555))) →
    ∃ t, saveWrite byteWrite a b s = t ∧ t.cpu32.save.kind = .sram ∧ saveRead (a + 0x8000) t = some b ∧
      ∀ k, k ≠ 0x0E000000 + a % 0x8000 → Memory.read t.cpu32.mem k = Memory.read s.cpu32.mem k) ∧
  (∀ (s : State), s.cpu32.save.kind = .unknown → s.cpu32.save.fcmd = .none → s.cpu32.save.fstage = .s0 →
    saveWrite true 0x0E005555 0xAA#8 s =
      { s with cpu32 := { s.cpu32 with save := { s.cpu32.save with kind := .flash64, fstage := .s1 } } }) ∧
  (∀ (o : Nat) (b : Byte) (bank : BitVec 1) (s : State), Memory.wf s.cpu32.mem = true → o < 0x10000 →
    (s.cpu32.save.kind = .flash64 ∨ s.cpu32.save.kind = .flash128) →
    s.cpu32.save.fcmd = .none → s.cpu32.save.fstage = .s0 →
    (∃ t, flashWrites (unlocked 0x90#8) s = t ∧ saveRead 0x0E000000 t = some Config.flashMaker ∧
      saveRead 0x0E000001 t = some Config.flashDevice ∧ saveRead 0x0E000000 (flashWrites (unlocked 0xF0#8) t) =
        some (Memory.read s.cpu32.mem (0x0E000000 + s.cpu32.save.fbank.toNat * 0x10000))) ∧
    (∃ t, flashWrites (unlocked 0xA0#8 ++ [(o, b)]) s = t ∧ t.cpu32.save = s.cpu32.save ∧
      Memory.read t.cpu32.mem (0x0E000000 + s.cpu32.save.fbank.toNat * 0x10000 + o) = b ∧
      ∀ k, k ≠ 0x0E000000 + s.cpu32.save.fbank.toNat * 0x10000 + o →
        Memory.read t.cpu32.mem k = Memory.read s.cpu32.mem k) ∧
    (∃ t, flashWrites (unlocked 0x80#8 ++ [(0x5555, 0xAA#8), (0x2AAA, 0x55#8), (o, 0x30#8)]) s = t ∧
      (o ≠ 0x5555 → t.cpu32.save = s.cpu32.save ∧ ∀ k, Memory.read t.cpu32.mem k =
        if (k - 0x0E000000) / 0x1000 = s.cpu32.save.fbank.toNat * 16 + o / 0x1000 ∧ 0x0E000000 ≤ k then 0xFF#8
        else Memory.read s.cpu32.mem k)) ∧
    (∃ t, flashWrites (unlocked 0x80#8 ++ unlocked 0x10#8) s = t ∧ t.cpu32.save = s.cpu32.save ∧
      ∀ k, Memory.read t.cpu32.mem k =
        if 0x0E000000 ≤ k ∧ k < 0x0E000000 + (if s.cpu32.save.kind = .flash128 then 0x20000 else 0x10000) then 0xFF#8
        else Memory.read s.cpu32.mem k) ∧
    (∃ t, flashWrites (unlocked 0xB0#8 ++ [(0, bank.setWidth 8)]) s = t ∧
      t = { s with cpu32 := { s.cpu32 with
        save := { s.cpu32.save with fbank := if s.cpu32.save.kind = .flash128 then bank else 0 } } })) ∧
  (∀ (kind : SaveType) (addrBits blocks block : Nat) (data : BitVec 64) (s : State),
    (kind, addrBits, blocks) ∈ [(SaveType.eeprom512, 6, 64), (.eeprom8k, 14, 1024)] →
    Memory.wf s.cpu32.mem = true → s.cpu32.save.kind = kind → s.cpu32.save.ein = [] → block < blocks →
    (∃ t, eepromBits ([true, true] ++ bitsOf block addrBits ++ [false]) s = t ∧ t.cpu32.mem = s.cpu32.mem ∧
      t.cpu32.save.ein = [] ∧ t.cpu32.save.eout.length = 68 ∧
      (∀ i, i < 4 → t.cpu32.save.eout[i]? = some false) ∧
      ∀ i, i < 64 → t.cpu32.save.eout[4 + i]? =
        some ((Memory.read s.cpu32.mem (0x0E000000 + 8 * block + i / 8)).getLsbD (7 - i % 8))) ∧
    (∃ t, eepromBits ([true, false] ++ bitsOf block addrBits ++ bitsOf data.toNat 64 ++ [false]) s = t ∧
      t.cpu32.save.ein = [] ∧ t.cpu32.save.eout = [] ∧
      (∀ j, j < 8 → Memory.read t.cpu32.mem (0x0E000000 + 8 * block + j) =
        BitVec.ofNat 8 (data.toNat / 2 ^ (56 - 8 * j))) ∧
      ∀ k, ¬ (0x0E000000 + 8 * block ≤ k ∧ k < 0x0E000000 + 8 * block + 8) →
        Memory.read t.cpu32.mem k = Memory.read s.cpu32.mem k)) ∧
  (∀ (m : Master) (a v : Word) (s : State), s.cpu32.save.kind = .unknown → s.cpu32.save.ein = [] →
    a.toNat / 0x1000000 = 0xD →
    memWrite m .half a v s = .next { s with cpu32 := { s.cpu32 with save := { s.cpu32.save with
      kind := if m = .dma 3 9 ∨ m = .dma 3 73 then .eeprom512 else .eeprom8k
      ein := [v.getLsbD 0] } } }) ∧
  (∀ (a : Word) (s : State), isEepromAddr a s = true ↔
    (s.cpu32.save.kind = .eeprom512 ∨ s.cpu32.save.kind = .eeprom8k) ∧ a.toNat / 0x1000000 = 0xD ∧
      (s.params.rom32Size ≤ 0x1000000 ∨ 0x0DFFFF00 ≤ a.toNat)) ∧
  (∀ (w : Width) (a v : Word) (m : Master) (s : State),
    (isEepromAddr a s = true →
      (∀ b rest, s.cpu32.save.eout = b :: rest → memRead .half a s =
        (if b then 1#32 else 0#32, { s with cpu32 := { s.cpu32 with save := { s.cpu32.save with eout := rest } } })) ∧
      (s.cpu32.save.eout = [] → memRead .half a s = (1#32, s)) ∧
      memWrite m .half a v s = .next (eepromBits [v.getLsbD 0] s) ∧
      (w ≠ .half → DrawnRead w s (memRead w a s) ∧ memWrite m w a v s = .next s)) ∧
    (4 ≤ a.toNat / 0x2000000 → a.toNat / 0x2000000 ≤ 6 → isEepromAddr a s = false →
      ¬ (w = .half ∧ a.toNat / 0x1000000 = 0xD ∧ s.cpu32.save.kind = .unknown) → memWrite m w a v s = .next s)) ∧
  (∀ (n : Fin 4) (s u : State), s.cpu32.save.kind = .unknown → s.cpu32.dma[n].control.getLsbD 10 = false →
    s.cpu32.dma[n].icount ≠ 0 → s.cpu32.dma[n].idst.toNat / 0x1000000 = 0xD → dmaRun n s = .next u →
    u.cpu32.save.kind =
      (if n = 3 ∧ (s.cpu32.dma[n].icount = 9 ∨ s.cpu32.dma[n].icount = 73) then .eeprom512 else .eeprom8k)) ∧
  (∀ (w : Width) (a v : Word) (m : Master) (s : State), region a = .save →
    (∀ b, saveRead a.toNat s = some b → memRead w a s = (BitVec.ofNat 32 (b.toNat *
      (match w with | .byte => 1 | .half => 0x0101 | .word => 0x01010101)), s)) ∧
    (s.cpu32.save.kind = .unknown → DrawnRead w s (memRead w a s)) ∧
    (s.cpu32.save.kind = .sram → Memory.wf s.cpu32.mem = true → ∃ t, memWrite m w a v s = .next t ∧
      saveRead a.toNat t = some (v.setWidth 8) ∧
      ∀ k, k ≠ 0x0E000000 + a.toNat % 0x8000 → Memory.read t.cpu32.mem k = Memory.read s.cpu32.mem k))

/-- R811, R105: a step runs the decoded instruction. At a CPU-32 boundary that is not halted and takes no IRQ, when the
bytes at PC decode to an instruction of the current state, the step is its `exec`, then the timers over the instruction's
cycles. The fetch itself changes nothing but the last access. -/
def Obligations.Cpu32StepRunsDecoded : Prop :=
  ∀ (i : Instr) (bytes : List Byte) (s : State), Boundary32 s → s.cpu32.halted = false → ¬ Irq32 s →
    decode (if s.cpu32.cpsr.t then .thumb else .arm) bytes = .ok (i, []) →
    CodeAt32 { s with cycles := 0, outbox := [] } (ofLeBytes bytes) →
    step s = thenRes
      (exec i { s with
        cpu32 := { s.cpu32 with
          lastAccess := some { addr := s.cpu32.pc, width := 8 * (fetch32Width s).bytes, code := true } }
        cycles := 0
        outbox := [] })
      fun t => .next { t with cpu32 := Cpu32.advance t.cycles t.cpu32 }

/-! Encodings and the whole machine. -/

/-- Decode and encode agree on CPU-32: for every well-formed ARM or THUMB instruction and whatever follows its bytes; and
every ARM word decodes to a well-formed instruction whose encoding is that word, as does every THUMB halfword but BX with
low bits set, which R220 leaves unread. -/
def Obligations.Cpu32RoundTrip : Prop :=
  (∀ (i : Instr) (rest : List Byte), i.isa ≠ .cpu8 → WellFormed i = true →
    decode i.isa (encode i ++ rest) = .ok (i, rest)) ∧
  (∀ w, w < 2 ^ 32 → WellFormed (decodeArmWord w) = true ∧ (decodeArmWord w).isa = .arm ∧
    encode (decodeArmWord w) = toLeBytes 4 w) ∧
  (∀ w, w < 2 ^ 16 → WellFormed (decodeThumbWord w) = true ∧ (decodeThumbWord w).isa = .thumb ∧
    (¬ (w / 128 = 0x8E ∧ w % 8 ≠ 0) → encode (decodeThumbWord w) = toLeBytes 2 w))

/-- R204, R205, R211, R212, R220: words written out from the encodings, and the instructions they stand for: LD BC,0x1234,
SET 7,(HL), JR NZ; ADDEQS R1,R2,#3 rotated by 4, LDR with a shifted offset, MSR, BLT; THUMB ADD, PUSH with LR, B<cond>. -/
def Obligations.DecodingSamples : Prop :=
  decode .cpu8 [0x01#8, 0x34#8, 0x12#8] = .ok (.ld_bc_nn 0x1234#16, []) ∧
  decode .cpu8 [0xCB#8, 0b11_111_110#8] = .ok (.set_7_hlm, []) ∧
  decode .cpu8 [0b001_00_000#8, 0xFE#8] = .ok (.jr_nz_e 0xFE#8, []) ∧
  decodeArmWord 0b0000_00_1_0100_1_0010_0001_0100_00000011 =
    .armAddImm { cond := .eq, s := true, rn := 2#4, rd := 1#4 } { rot := 4#4, imm := 3#8 } ∧
  decodeArmWord 0b1110_011_1_1_0_1_1_0011_0101_00010_00_0_0110 =
    .armLdrReg { ix := { cond := .al, pre := true, up := true, wb := true, rn := 3#4, rd := 5#4 }
                 op2 := { amount := 2#5, kind := .lsl, rm := 6#4 } } ∧
  decodeArmWord 0b1110_00010_0_10_1000_1111_00000000_0111 =
    .armMsrReg { cond := .al, spsr := false, fields := 8#4, sbz := 0#8, rm := 7#4 } ∧
  decodeArmWord 0b1011_101_0_000000000000000000000101 = .armB { cond := .lt, offset := 5#24 } ∧
  decodeThumbWord 0b000110_0_011_010_001 = .thumbAddReg 1#3 2#3 3#3 ∧
  decodeThumbWord 0b1011_010_1_00000110 = .thumbPush true 6#8 ∧
  decodeThumbWord 0b1101_0001_11111110 = .thumbBCond .ne 0xFE#8

/-- R32, R53, R56, R156 and the canonical form of memory: every step keeps the shape of the state. -/
def Obligations.StepKeepsShape : Prop :=
  ∀ s t : State, s.wf → step s = .next t → t.wf

/-- R800 to R802, R54, R60: reset. Every piece of state at the value the spec gives it, for every choice of the
parameters: RAM as RAM_INIT lists it and 0 elsewhere (log entry 2, the model's choice), the general registers and SPSRs
0 under RESET_REGS = zero (under `unwritten` they hold free values, log entry 4, the model's choice), HALTCNT's last
byte 0 (log entry 32, the model's choice). The state has the shape every step keeps; and `reset()` depends on nothing
but the parameters and what log entry 25 keeps, which is the model's choice: the mapper's answers, the draws already
given, the outbox and the callback. -/
def Obligations.ResetState : Prop :=
  (∀ p : Params, let c := (State.resetWith p).cpu8
    c.a = (if p.colorMode then 0x11#8 else 0x01#8) ∧ c.f = 0xB0#8 ∧ c.pairOf .bc = 0x0013#16 ∧
    c.pairOf .de = 0x00D8#16 ∧ c.pairOf .hl = 0x01D4#16 ∧ c.sp = 0xFFFE#16 ∧ c.pc = 0x0100#16 ∧
    c.ime = false ∧ c.eiPending = false ∧ c.halted = false ∧ c.stopped = false ∧ c.doubleSpeed = false ∧
    c.speedArmed = false ∧ c.div16 = p.div16Reset ∧ c.timerIn = false ∧ c.tima = 0#8 ∧ c.tma = 0#8 ∧ c.tac = 0#3 ∧
    c.ie = 0#8 ∧ c.iflag = 0#5 ∧ c.oamDma = 0#8 ∧ c.vbk = 0#1 ∧ c.svbk = 0#3 ∧ c.hdma1 = 0#8 ∧ c.hdma2 = 0#4 ∧
    c.hdma3 = 0#5 ∧ c.hdma4 = 0#4 ∧
    ∀ k, Memory.read c.mem k = (Image.find? p.ramInit8 k).getD 0#8) ∧
  (∀ p : Params, let c := (State.resetWith p).cpu32
    c.cpsr.toWord = 0x000000D3#32 ∧ c.pc = 0#32 ∧
    (p.resetRegs = .zero → (∀ m i, c.regIn m i = 0#32) ∧ c.spsrFiq = 0#32 ∧ c.spsrIrq = 0#32 ∧ c.spsrSvc = 0#32 ∧
      c.spsrAbt = 0#32 ∧ c.spsrUnd = 0#32) ∧
    c.ie = 0#14 ∧ c.iflag = 0#14 ∧ c.ime = false ∧ c.waitcnt = 0#16 ∧ c.postflg = false ∧ c.haltcnt = 0#8 ∧
    c.halted = false ∧ c.keyinput = 0x3FF#10 ∧ c.lastAccess = none ∧
    (∀ n : Fin 4, c.timers[n].counter = 0#16 ∧ c.timers[n].reload = 0#16 ∧ c.timers[n].control = 0#16 ∧
      c.timers[n].phase = 0 ∧ c.dma[n].sad = 0#32 ∧ c.dma[n].dad = 0#32 ∧ c.dma[n].cntL = 0#16 ∧
      c.dma[n].control = 0#16 ∧ c.dma[n].isrc = 0#32 ∧ c.dma[n].idst = 0#32 ∧ c.dma[n].icount = 0 ∧
      c.dma[n].pending = false) ∧
    c.save.kind = p.saveType ∧ c.save.fmode = .read ∧ c.save.fcmd = .none ∧ c.save.fstage = .s0 ∧ c.save.fbank = 0#1 ∧
    c.save.ein = [] ∧ c.save.eout = [] ∧
    (∀ k, k < 0x0E000000 → Memory.read c.mem k = (Image.find? p.ramInit32 k).getD 0#8) ∧
    (∀ k, 0x0E000000 ≤ k → Memory.read c.mem k = (Image.find? p.saveBytes k).getD 0#8)) ∧
  (∀ p : Params, let s := State.resetWith p
    s.params = p ∧ s.fault = none ∧ s.wasReset = true ∧ s.wf) ∧
  (∀ s t : State, s.params = t.params → s.cart8 = t.cart8 → s.draws = t.draws → s.outbox = t.outbox →
    s.callback = t.callback → hostReset s = hostReset t) ∧
  (∀ s : State, hostReset (hostReset s) = hostReset s ∧ (hostReset s).cpu8 = (State.resetWith s.params).cpu8 ∧
    (hostReset s).cpu32 = (State.resetWith s.params).cpu32 ∧ (hostReset s).fault = none ∧
    (hostReset s).wasReset = true)

/-- R2, R13, R177: the two variants are separate. A step changes no parameter, no answer of the mapper and no callback;
a CPU-8 step leaves the CPU-32 half alone and a CPU-32 step the CPU-8 half; a machine that has faulted answers its fault
for ever. That a step changes no answer of the mapper is log entry 6, that the callback acts between steps only log
entry 33, and that a faulted machine answers its fault is the form of log entry 27: all the model's choices. -/
def Obligations.VariantsSeparate : Prop :=
  (∀ s t : State, step s = .next t → t.params = s.params ∧ t.cart8 = s.cart8 ∧ t.fault = none ∧
    t.callback = s.callback ∧ t.wasReset = s.wasReset ∧
    (s.params.variant = .cpu8 → t.cpu32 = s.cpu32) ∧ (s.params.variant = .cpu32 → t.cpu8 = s.cpu8)) ∧
  (∀ (s : State) (f : Fault), s.fault = some f → step s = .fault f)

/-- R750, R50, R51, R56, R540, R583: user mode is confined. An instruction that completes in user mode, but for SWI,
leaves the machine in user mode, with the interrupt disable bits, every SPSR and every other mode's banked registers as
they were. -/
def Obligations.UserModeConfined : Prop :=
  ∀ (i : Instr) (s t : State), s.cpu32.cpsr.mode = .usr → exec i s = .next t →
    (∀ o, i ≠ .armSwi o) → (∀ n, i ≠ .thumbSwi n) →
    t.cpu32.cpsr.mode = .usr ∧ t.cpu32.cpsr.i = s.cpu32.cpsr.i ∧ t.cpu32.cpsr.f = s.cpu32.cpsr.f ∧
    t.cpu32.spsrFiq = s.cpu32.spsrFiq ∧ t.cpu32.spsrIrq = s.cpu32.spsrIrq ∧ t.cpu32.spsrSvc = s.cpu32.spsrSvc ∧
    t.cpu32.spsrAbt = s.cpu32.spsrAbt ∧ t.cpu32.spsrUnd = s.cpu32.spsrUnd ∧
    ∀ (m : Mode) (j : RegNum), j ≠ 15#4 → (∀ k : RegNum, k ≠ 15#4 → slotOf j m ≠ slotOf k .usr) →
      t.cpu32.regIn m j = s.cpu32.regIn m j

/-- R150, R705, R772, R791 to R795, R821: the host's calls between steps. `flagInterrupt`, `setInputs` and `triggerDMA`
on both variants, with what each refuses; on CPU-8 the key mask is delivered and a pressed key ends STOP (that every
mask is accepted there is log entry 36's, the model's choice). `run` is refused before any reset; it runs nothing
without budget, in STOP and after a fault; otherwise it takes a step, lets the callback act, and goes on with the rest
of the budget, and a fault ends it. The callback is told the cycles of the step and makes its calls, `flagInterrupt`
among them, before the next step (its form as plain data, and the refusal on CPU-32, are log entry 33's, the model's
choice). A save blob of a type's size is what the next reset finds; another size is refused, and an empty blob is none
loaded (log entry 18, the model's choice). -/
def Obligations.HostCalls : Prop :=
  (∀ (ms : Nat) (s : State),
    (s.wasReset = false → run ms s = .refused .hostMisuse) ∧
    (s.wasReset = true → ∀ b, b = ms * (if s.params.variant = .cpu32 then 16777216
        else if s.cpu8.doubleSpeed then 8388608 else 4194304) / 1000 →
      run ms s = runBudget b b s ∧
      (b = 0 ∨ s.fault ≠ none ∨ (s.params.variant = .cpu8 ∧ s.cpu8.stopped = true) → run ms s = .next s))) ∧
  (∀ (fuel b : Nat) (s : State), b ≠ 0 → s.fault = none → ¬ (s.params.variant = .cpu8 ∧ s.cpu8.stopped = true) →
    (∀ t u, step s = .next t → cycleCallback t = .next u →
      runBudget (fuel + 1) b s = runBudget fuel (b - t.cycles) u) ∧
    (∀ f, step s = .fault f → runBudget (fuel + 1) b s = .next { s with fault := some f })) ∧
  (∀ (bit : Nat) (rest : Callback) (fn : Option Callback) (s : State),
    (s.params.variant = .cpu8 → setCycleCallback fn s = .next { s with callback := fn }) ∧
    (s.params.variant = .cpu32 → setCycleCallback fn s = .refused .hostMisuse) ∧
    (s.callback = none ∨ s.params.variant = .cpu32 → cycleCallback s = .next s) ∧
    (s.params.variant = .cpu8 → s.callback = some ([.flagInterrupt bit] :: rest) → bit < 5 →
      ∃ f : BitVec 5, cycleCallback s = .next { s with
          cpu8 := { s.cpu8 with iflag := f }, callback := some rest, outbox := s.outbox ++ [.retired8 s.cycles] } ∧
        ∀ j : Fin 5, f.getLsbD j = (s.cpu8.iflag.getLsbD j || decide (j.val = bit)))) ∧
  (∀ (blob : List Byte) (s : State),
    (∀ kind, (blob.length, kind) ∈ [(0, SaveType.unknown), (512, .eeprom512), (8192, .eeprom8k), (32768, .sram),
        (65536, .flash64), (131072, .flash128)] →
      ∃ t, loadSave blob s = .next t ∧ t.cpu32 = s.cpu32 ∧ (hostReset t).cpu32.save.kind = kind ∧
        ∀ j, Memory.read (hostReset t).cpu32.mem (0x0E000000 + j) = blob.getD j 0#8) ∧
    (blob.length ∉ [0, 512, 8192, 32768, 65536, 131072] → loadSave blob s = .refused .saveSize)) ∧
  ∀ (s : State) (bit mask : Nat),
    (s.params.variant = .cpu8 → setInputs mask s = .next { s with
      cpu8 := { s.cpu8 with stopped := if mask = 0 then s.cpu8.stopped else false }
      outbox := s.outbox ++ [.keys8 mask] }) ∧
    (s.params.variant = .cpu8 → bit < 5 → ∃ f : BitVec 5, flagInterrupt bit s = .next
        { s with cpu8 := { s.cpu8 with iflag := f } } ∧
      ∀ j : Fin 5, f.getLsbD j = (s.cpu8.iflag.getLsbD j || decide (j.val = bit))) ∧
    (s.params.variant = .cpu32 → bit < 14 → ∃ f : BitVec 14, flagInterrupt bit s = .next
        { s with cpu32 := { s.cpu32 with iflag := f } } ∧
      ∀ j : Fin 14, f.getLsbD j = (s.cpu32.iflag.getLsbD j || decide (j.val = bit))) ∧
    ((s.params.variant = .cpu8 ∧ 5 ≤ bit) ∨ (s.params.variant = .cpu32 ∧ 14 ≤ bit) →
      flagInterrupt bit s = .refused .hostMisuse) ∧
    (s.params.variant = .cpu32 → (mask < 0x400 → setInputs mask s = .next
        { s with cpu32 := { s.cpu32 with keyinput := BitVec.ofNat 10 mask } }) ∧
      (0x400 ≤ mask → setInputs mask s = .refused .hostMisuse)) ∧
    (s.params.variant = .cpu8 → ∀ e, triggerDma e s = .refused .hostMisuse) ∧
    (s.params.variant = .cpu32 → triggerDma .other s = .refused .triggerOther ∧
      ∀ (e : DmaEvent) (timing : Nat), (e, timing) ∈ [(DmaEvent.vblank, 1), (.hblank, 2)] → ∃ t, triggerDma e s = .next t ∧
        (∀ n : Fin 4, t.cpu32.dma[n] = { s.cpu32.dma[n] with
          pending := s.cpu32.dma[n].pending ||
            (s.cpu32.dma[n].control.getLsbD 15 && decide (s.cpu32.dma[n].control.toNat / 4096 % 4 = timing)) }) ∧
        t = { s with cpu32 := { s.cpu32 with dma := t.cpu32.dma } })
end

