-- ==== Sys2Proof/Laws/Memory.lean ====
section
/-! SUPPORT. Memory: the canonical form is kept, a read after a write gives the byte written, and a write changes
no other byte. -/

namespace Sys2Proof.Machine

theorem Memory.wfFrom_cons {lo k : Nat} {b : Byte} {m : Memory} :
    wfFrom lo ((k, b) :: m) = true ↔ lo ≤ k ∧ b ≠ unlisted ∧ wfFrom (k + 1) m = true := by
  simp [wfFrom, and_assoc]

theorem Memory.wfFrom_mono {lo lo' : Nat} {m : Memory} (h : wfFrom lo m = true) (hl : lo' ≤ lo) : wfFrom lo' m = true := by
  cases m with
  | nil => rfl
  | cons e m =>
    obtain ⟨k, b⟩ := e
    rw [wfFrom_cons] at h ⊢
    exact ⟨by omega, h.2⟩

/-- Below the first address nothing is listed. -/
theorem Memory.read_below {lo a : Nat} {m : Memory} (h : wfFrom lo m = true) (ha : a < lo) : read m a = unlisted := by
  cases m with
  | nil => rfl
  | cons e m =>
    obtain ⟨k, b⟩ := e
    rw [wfFrom_cons] at h
    simp only [read]
    rw [if_neg (by omega), if_pos (by omega)]

theorem Memory.wfFrom_write {lo a : Nat} {m : Memory} (v : Byte) (h : wfFrom lo m = true) (ha : lo ≤ a) :
    wfFrom lo (write m a v) = true := by
  induction m generalizing lo with
  | nil =>
    simp only [write]
    split
    · rfl
    · simp [wfFrom, *]
  | cons e m ih =>
    obtain ⟨k, b⟩ := e
    rw [wfFrom_cons] at h
    obtain ⟨h1, h2, h3⟩ := h
    simp only [write]
    split
    · subst_vars
      split
      · exact wfFrom_mono h3 (by omega)
      · rw [wfFrom_cons]; exact ⟨ha, ‹_›, h3⟩
    · split
      · split
        · rw [wfFrom_cons]; exact ⟨h1, h2, h3⟩
        · rw [wfFrom_cons, wfFrom_cons]; exact ⟨ha, ‹_›, by omega, h2, h3⟩
      · rw [wfFrom_cons]; exact ⟨h1, h2, ih h3 (by omega)⟩

/-- A write keeps the canonical form. -/
theorem Memory.wf_write {m : Memory} (a : Nat) (v : Byte) (h : wf m = true) : wf (write m a v) = true :=
  wfFrom_write v h (Nat.zero_le a)

theorem Memory.readFrom_write {lo a x : Nat} {m : Memory} (v : Byte) (h : wfFrom lo m = true) (ha : lo ≤ a) :
    read (write m a v) x = if x = a then v else read m x := by
  induction m generalizing lo with
  | nil =>
    simp only [write]
    by_cases hv : v = unlisted
    · rw [if_pos hv]; simp [read, hv]
    · rw [if_neg hv]; simp only [read]
      by_cases hx : x = a
      · simp [hx]
      · rw [if_neg (fun e => hx e.symm), if_neg hx]; simp
  | cons e m ih =>
    obtain ⟨k, b⟩ := e
    rw [wfFrom_cons] at h
    obtain ⟨h1, h2, h3⟩ := h
    simp only [write]
    by_cases hk : k = a
    · subst hk
      rw [if_pos rfl]
      by_cases hv : v = unlisted
      · rw [if_pos hv]
        by_cases hx : x = k
        · rw [if_pos hx, hx, hv]; exact read_below h3 (by omega)
        · rw [if_neg hx]; simp only [read]
          rw [if_neg (fun e => hx e.symm)]
          by_cases hl : x < k
          · rw [if_pos hl]; exact read_below h3 (by omega)
          · rw [if_neg hl]
      · rw [if_neg hv]; simp only [read]
        by_cases hx : x = k
        · simp [hx]
        · have hx' : ¬ k = x := fun e => hx e.symm
          simp only [if_neg hx', if_neg hx]
    · rw [if_neg hk]
      by_cases hl : a < k
      · rw [if_pos hl]
        by_cases hv : v = unlisted
        · rw [if_pos hv]
          by_cases hx : x = a
          · rw [if_pos hx, hx, hv]; simp only [read]; rw [if_neg hk, if_pos hl]
          · rw [if_neg hx]
        · rw [if_neg hv]; simp only [read]
          by_cases hx : x = a
          · simp [hx]
          · rw [if_neg (fun e => hx e.symm), if_neg hx]
            by_cases hxa : x < a
            · rw [if_pos hxa, if_neg (by omega), if_pos (by omega)]
            · rw [if_neg hxa]
      · rw [if_neg hl]; simp only [read]
        by_cases hxk : k = x
        · rw [if_pos hxk, if_pos hxk, if_neg (by omega)]
        · rw [if_neg hxk, if_neg hxk]
          by_cases hxl : x < k
          · rw [if_pos hxl, if_pos hxl, if_neg (by omega)]
          · rw [if_neg hxl, if_neg hxl]; exact ih h3 (by omega)

/-- A read after a write: the byte written at its address, the old byte elsewhere. -/
theorem Memory.read_write {m : Memory} (a x : Nat) (v : Byte) (h : wf m = true) :
    read (write m a v) x = if x = a then v else read m x :=
  readFrom_write v h (Nat.zero_le a)

@[simp] theorem Memory.read_write_same {m : Memory} (a : Nat) (v : Byte) (h : wf m = true) :
    read (write m a v) a = v := by rw [read_write a a v h, if_pos rfl]

theorem Memory.read_write_ne {m : Memory} {a x : Nat} (v : Byte) (h : wf m = true) (hx : x ≠ a) :
    read (write m a v) x = read m x := by rw [read_write a x v h, if_neg hx]

theorem Memory.wf_fill {m : Memory} (base : Nat) (v : Byte) (n : Nat) (h : wf m = true) : wf (fill m base v n) = true := by
  induction n generalizing m with
  | zero => exact h
  | succ n ih => exact ih (wf_write _ _ h)

/-- A fill sets exactly the bytes `base`, …, `base + n - 1`. -/
theorem Memory.read_fill {m : Memory} (base : Nat) (v : Byte) (n x : Nat) (h : wf m = true) :
    read (fill m base v n) x = if base ≤ x ∧ x < base + n then v else read m x := by
  induction n generalizing m with
  | zero => simp only [fill]; rw [if_neg (by omega)]
  | succ n ih =>
    simp only [fill]
    rw [ih (wf_write _ _ h), read_write _ _ _ h]
    by_cases h1 : base ≤ x ∧ x < base + n
    · rw [if_pos h1, if_pos (by omega)]
    · rw [if_neg h1]
      by_cases h2 : x = base + n
      · rw [if_pos h2, if_pos (by omega)]
      · rw [if_neg h2, if_neg (by omega)]

theorem Memory.wf_writeLe {m : Memory} (a v n : Nat) (h : wf m = true) : wf (writeLe m a v n) = true := by
  induction n generalizing m a v with
  | zero => exact h
  | succ n ih => exact ih _ _ (wf_write _ _ h)

/-- A little-endian write changes no byte outside its range. -/
theorem Memory.read_writeLe_outside {m : Memory} (a v n x : Nat) (h : wf m = true) (hx : x < a ∨ a + n ≤ x) :
    read (writeLe m a v n) x = read m x := by
  induction n generalizing m a v with
  | zero => rfl
  | succ n ih =>
    simp only [writeLe]
    rw [ih _ _ (wf_write _ _ h) (by omega), read_write_ne _ h (by omega)]

/-- The k-th byte of a little-endian write. -/
theorem Memory.read_writeLe_inside {m : Memory} (a v n k : Nat) (h : wf m = true) (hk : k < n) :
    read (writeLe m a v n) (a + k) = BitVec.ofNat 8 (v / 256 ^ k) := by
  induction n generalizing m a v k with
  | zero => omega
  | succ n ih =>
    simp only [writeLe]
    cases k with
    | zero =>
      rw [read_writeLe_outside _ _ _ _ (wf_write _ _ h) (by omega)]
      simp [h]
    | succ k =>
      have e : a + (k + 1) = a + 1 + k := by omega
      rw [e, ih _ _ _ (wf_write _ _ h) (by omega), Nat.div_div_eq_div_mul, Nat.pow_succ']

theorem Memory.readLe_congr {m m' : Memory} (a n : Nat) (h : ∀ k, k < n → read m (a + k) = read m' (a + k)) :
    readLe m a n = readLe m' a n := by
  induction n generalizing a with
  | zero => rfl
  | succ n ih =>
    simp only [readLe]
    rw [show read m a = read m' a from h 0 (by omega)]
    rw [ih (a + 1) fun k hk => by
      have := h (k + 1) (by omega)
      rwa [show a + (k + 1) = a + 1 + k from by omega] at this]

/-- Reading back a little-endian write. -/
theorem Memory.readLe_writeLe {m : Memory} (a v n : Nat) (h : wf m = true) :
    readLe (writeLe m a v n) a n = v % 256 ^ n := by
  induction n generalizing m a v with
  | zero => simp [readLe, Nat.mod_one]
  | succ n ih =>
    simp only [readLe, writeLe]
    rw [ih _ _ (wf_write _ _ h), read_writeLe_outside _ _ _ _ (wf_write _ _ h) (by omega), read_write_same _ _ h]
    rw [Nat.pow_succ', Nat.mod_mul, BitVec.toNat_ofNat]

theorem Memory.wf_ofImage (i : Image) : wf (ofImage i) = true := by
  induction i with
  | nil => rfl
  | cons e i ih => exact wf_write _ _ ih

/-- Canonical memories that read alike are equal. -/
theorem Memory.ext_of_wfFrom {lo lo' : Nat} {m m' : Memory} (h : wfFrom lo m = true) (h' : wfFrom lo' m' = true)
    (he : ∀ a, read m a = read m' a) : m = m' := by
  induction m generalizing lo lo' m' with
  | nil =>
    cases m' with
    | nil => rfl
    | cons e m' =>
      obtain ⟨k, b⟩ := e
      rw [wfFrom_cons] at h'
      have := he k
      simp only [read, if_true] at this
      exact absurd this.symm h'.2.1
  | cons e m ih =>
    obtain ⟨k, b⟩ := e
    have hw := h
    rw [wfFrom_cons] at h
    cases m' with
    | nil =>
      have := he k
      simp only [read, if_true] at this
      exact absurd this h.2.1
    | cons e' m' =>
      obtain ⟨k', b'⟩ := e'
      have hw' := h'
      rw [wfFrom_cons] at h'
      have hk : k = k' := by
        rcases Nat.lt_trichotomy k k' with hlt | heq | hgt
        · have := he k
          rw [show read ((k', b') :: m') k = unlisted from read_below (lo := k') (by
            rw [wfFrom_cons]; exact ⟨le_refl _, h'.2⟩) hlt] at this
          simp only [read, if_true] at this
          exact absurd this h.2.1
        · exact heq
        · have := he k'
          rw [show read ((k, b) :: m) k' = unlisted from read_below (lo := k) (by
            rw [wfFrom_cons]; exact ⟨le_refl _, h.2⟩) hgt] at this
          simp only [read, if_true] at this
          exact absurd this.symm h'.2.1
      subst hk
      have hb : b = b' := by
        have := he k
        simpa [read] using this
      subst hb
      rw [ih h.2.2 h'.2.2 fun a => ?_]
      by_cases ha : a < k + 1
      · rw [read_below h.2.2 ha, read_below h'.2.2 ha]
      · have := he a
        simp only [read] at this
        rwa [if_neg (by omega), if_neg (by omega), if_neg (by omega), if_neg (by omega)] at this

theorem Memory.ext_of_wf {m m' : Memory} (h : wf m = true) (h' : wf m' = true) (he : ∀ a, read m a = read m' a) : m = m' :=
  ext_of_wfFrom h h' he

/-- A table's entry after a change of it. -/
theorem Image.find?_put_same (i : Image) (a : Nat) (b : Byte) : Image.find? (Image.put i a b) a = some b := by
  induction i with
  | nil => simp [Image.put, Image.find?]
  | cons e i ih =>
    obtain ⟨k, c⟩ := e
    simp only [Image.put]
    split
    · simp [Image.find?]
    · split
      · simp [Image.find?]
      · simp [Image.find?, *]

end Sys2Proof.Machine
end

