-- ==== Sys2Proof/Laws/State.lean ====
section
/-! SUPPORT. One lemma per field and update of the state, all true by unfolding, so that no proof unfolds a record
update. -/

namespace Sys2Proof.Machine

@[simp] theorem charge_params (k : Nat) (s : State) : (charge k s).params = s.params := rfl
@[simp] theorem charge_cpu8 (k : Nat) (s : State) : (charge k s).cpu8 = s.cpu8 := rfl
@[simp] theorem charge_cpu32 (k : Nat) (s : State) : (charge k s).cpu32 = s.cpu32 := rfl
@[simp] theorem charge_cart8 (k : Nat) (s : State) : (charge k s).cart8 = s.cart8 := rfl
@[simp] theorem charge_fault (k : Nat) (s : State) : (charge k s).fault = s.fault := rfl
@[simp] theorem charge_cycles (k : Nat) (s : State) : (charge k s).cycles = s.cycles + k := rfl
@[simp] theorem charge_draws (k : Nat) (s : State) : (charge k s).draws = s.draws := rfl
@[simp] theorem charge_outbox (k : Nat) (s : State) : (charge k s).outbox = s.outbox := rfl
@[simp] theorem charge_callback (k : Nat) (s : State) : (charge k s).callback = s.callback := rfl
@[simp] theorem charge_wasReset (k : Nat) (s : State) : (charge k s).wasReset = s.wasReset := rfl

@[simp] theorem deliver_params (d : Delivery) (s : State) : (deliver d s).params = s.params := rfl
@[simp] theorem deliver_cpu8 (d : Delivery) (s : State) : (deliver d s).cpu8 = s.cpu8 := rfl
@[simp] theorem deliver_cpu32 (d : Delivery) (s : State) : (deliver d s).cpu32 = s.cpu32 := rfl
@[simp] theorem deliver_cart8 (d : Delivery) (s : State) : (deliver d s).cart8 = s.cart8 := rfl
@[simp] theorem deliver_fault (d : Delivery) (s : State) : (deliver d s).fault = s.fault := rfl
@[simp] theorem deliver_cycles (d : Delivery) (s : State) : (deliver d s).cycles = s.cycles := rfl
@[simp] theorem deliver_draws (d : Delivery) (s : State) : (deliver d s).draws = s.draws := rfl
@[simp] theorem deliver_outbox (d : Delivery) (s : State) : (deliver d s).outbox = s.outbox ++ [d] := rfl
@[simp] theorem deliver_callback (d : Delivery) (s : State) : (deliver d s).callback = s.callback := rfl
@[simp] theorem deliver_wasReset (d : Delivery) (s : State) : (deliver d s).wasReset = s.wasReset := rfl

@[simp] theorem on8_params (f : Cpu8 → Cpu8) (s : State) : (on8 f s).params = s.params := rfl
@[simp] theorem on8_cpu8 (f : Cpu8 → Cpu8) (s : State) : (on8 f s).cpu8 = f s.cpu8 := rfl
@[simp] theorem on8_cpu32 (f : Cpu8 → Cpu8) (s : State) : (on8 f s).cpu32 = s.cpu32 := rfl
@[simp] theorem on8_cart8 (f : Cpu8 → Cpu8) (s : State) : (on8 f s).cart8 = s.cart8 := rfl
@[simp] theorem on8_fault (f : Cpu8 → Cpu8) (s : State) : (on8 f s).fault = s.fault := rfl
@[simp] theorem on8_cycles (f : Cpu8 → Cpu8) (s : State) : (on8 f s).cycles = s.cycles := rfl
@[simp] theorem on8_draws (f : Cpu8 → Cpu8) (s : State) : (on8 f s).draws = s.draws := rfl
@[simp] theorem on8_outbox (f : Cpu8 → Cpu8) (s : State) : (on8 f s).outbox = s.outbox := rfl
@[simp] theorem on8_callback (f : Cpu8 → Cpu8) (s : State) : (on8 f s).callback = s.callback := rfl
@[simp] theorem on8_wasReset (f : Cpu8 → Cpu8) (s : State) : (on8 f s).wasReset = s.wasReset := rfl

@[simp] theorem on32_params (f : Cpu32 → Cpu32) (s : State) : (on32 f s).params = s.params := rfl
@[simp] theorem on32_cpu8 (f : Cpu32 → Cpu32) (s : State) : (on32 f s).cpu8 = s.cpu8 := rfl
@[simp] theorem on32_cpu32 (f : Cpu32 → Cpu32) (s : State) : (on32 f s).cpu32 = f s.cpu32 := rfl
@[simp] theorem on32_cart8 (f : Cpu32 → Cpu32) (s : State) : (on32 f s).cart8 = s.cart8 := rfl
@[simp] theorem on32_fault (f : Cpu32 → Cpu32) (s : State) : (on32 f s).fault = s.fault := rfl
@[simp] theorem on32_cycles (f : Cpu32 → Cpu32) (s : State) : (on32 f s).cycles = s.cycles := rfl
@[simp] theorem on32_draws (f : Cpu32 → Cpu32) (s : State) : (on32 f s).draws = s.draws := rfl
@[simp] theorem on32_outbox (f : Cpu32 → Cpu32) (s : State) : (on32 f s).outbox = s.outbox := rfl
@[simp] theorem on32_callback (f : Cpu32 → Cpu32) (s : State) : (on32 f s).callback = s.callback := rfl
@[simp] theorem on32_wasReset (f : Cpu32 → Cpu32) (s : State) : (on32 f s).wasReset = s.wasReset := rfl

@[simp] theorem draw_params (w : Nat) (s : State) : ((draw w s).2).params = s.params := rfl
@[simp] theorem draw_cpu8 (w : Nat) (s : State) : ((draw w s).2).cpu8 = s.cpu8 := rfl
@[simp] theorem draw_cpu32 (w : Nat) (s : State) : ((draw w s).2).cpu32 = s.cpu32 := rfl
@[simp] theorem draw_cart8 (w : Nat) (s : State) : ((draw w s).2).cart8 = s.cart8 := rfl
@[simp] theorem draw_fault (w : Nat) (s : State) : ((draw w s).2).fault = s.fault := rfl
@[simp] theorem draw_cycles (w : Nat) (s : State) : ((draw w s).2).cycles = s.cycles := rfl
@[simp] theorem draw_draws (w : Nat) (s : State) : ((draw w s).2).draws = s.draws + 1 := rfl
@[simp] theorem draw_outbox (w : Nat) (s : State) : ((draw w s).2).outbox = s.outbox := rfl
@[simp] theorem draw_callback (w : Nat) (s : State) : ((draw w s).2).callback = s.callback := rfl
@[simp] theorem draw_wasReset (w : Nat) (s : State) : ((draw w s).2).wasReset = s.wasReset := rfl

@[simp] theorem setPsr_params (f : Psr → Psr) (s : State) : (setPsr f s).params = s.params := rfl
@[simp] theorem setPsr_cpu8 (f : Psr → Psr) (s : State) : (setPsr f s).cpu8 = s.cpu8 := rfl
@[simp] theorem setPsr_cpu32 (f : Psr → Psr) (s : State) : (setPsr f s).cpu32 = { s.cpu32 with cpsr := f s.cpu32.cpsr } := rfl
@[simp] theorem setPsr_cart8 (f : Psr → Psr) (s : State) : (setPsr f s).cart8 = s.cart8 := rfl
@[simp] theorem setPsr_fault (f : Psr → Psr) (s : State) : (setPsr f s).fault = s.fault := rfl
@[simp] theorem setPsr_cycles (f : Psr → Psr) (s : State) : (setPsr f s).cycles = s.cycles := rfl
@[simp] theorem setPsr_draws (f : Psr → Psr) (s : State) : (setPsr f s).draws = s.draws := rfl
@[simp] theorem setPsr_outbox (f : Psr → Psr) (s : State) : (setPsr f s).outbox = s.outbox := rfl
@[simp] theorem setPsr_callback (f : Psr → Psr) (s : State) : (setPsr f s).callback = s.callback := rfl
@[simp] theorem setPsr_wasReset (f : Psr → Psr) (s : State) : (setPsr f s).wasReset = s.wasReset := rfl

@[simp] theorem writeReg_params (i : RegNum) (v : Word) (s : State) : (writeReg i v s).params = s.params := rfl
@[simp] theorem writeReg_cpu8 (i : RegNum) (v : Word) (s : State) : (writeReg i v s).cpu8 = s.cpu8 := rfl
@[simp] theorem writeReg_cpu32 (i : RegNum) (v : Word) (s : State) : (writeReg i v s).cpu32 = s.cpu32.setRegIn s.cpu32.cpsr.mode i v := rfl
@[simp] theorem writeReg_cart8 (i : RegNum) (v : Word) (s : State) : (writeReg i v s).cart8 = s.cart8 := rfl
@[simp] theorem writeReg_fault (i : RegNum) (v : Word) (s : State) : (writeReg i v s).fault = s.fault := rfl
@[simp] theorem writeReg_cycles (i : RegNum) (v : Word) (s : State) : (writeReg i v s).cycles = s.cycles := rfl
@[simp] theorem writeReg_draws (i : RegNum) (v : Word) (s : State) : (writeReg i v s).draws = s.draws := rfl
@[simp] theorem writeReg_outbox (i : RegNum) (v : Word) (s : State) : (writeReg i v s).outbox = s.outbox := rfl
@[simp] theorem writeReg_callback (i : RegNum) (v : Word) (s : State) : (writeReg i v s).callback = s.callback := rfl
@[simp] theorem writeReg_wasReset (i : RegNum) (v : Word) (s : State) : (writeReg i v s).wasReset = s.wasReset := rfl

@[simp] theorem writeUser_params (i : RegNum) (v : Word) (s : State) : (writeUser i v s).params = s.params := rfl
@[simp] theorem writeUser_cpu8 (i : RegNum) (v : Word) (s : State) : (writeUser i v s).cpu8 = s.cpu8 := rfl
@[simp] theorem writeUser_cpu32 (i : RegNum) (v : Word) (s : State) : (writeUser i v s).cpu32 = s.cpu32.setRegIn .usr i v := rfl
@[simp] theorem writeUser_cart8 (i : RegNum) (v : Word) (s : State) : (writeUser i v s).cart8 = s.cart8 := rfl
@[simp] theorem writeUser_fault (i : RegNum) (v : Word) (s : State) : (writeUser i v s).fault = s.fault := rfl
@[simp] theorem writeUser_cycles (i : RegNum) (v : Word) (s : State) : (writeUser i v s).cycles = s.cycles := rfl
@[simp] theorem writeUser_draws (i : RegNum) (v : Word) (s : State) : (writeUser i v s).draws = s.draws := rfl
@[simp] theorem writeUser_outbox (i : RegNum) (v : Word) (s : State) : (writeUser i v s).outbox = s.outbox := rfl
@[simp] theorem writeUser_callback (i : RegNum) (v : Word) (s : State) : (writeUser i v s).callback = s.callback := rfl
@[simp] theorem writeUser_wasReset (i : RegNum) (v : Word) (s : State) : (writeUser i v s).wasReset = s.wasReset := rfl

@[simp] theorem setPc_params (t : Bool) (v : Word) (s : State) : (setPc t v s).params = s.params := rfl
@[simp] theorem setPc_cpu8 (t : Bool) (v : Word) (s : State) : (setPc t v s).cpu8 = s.cpu8 := rfl
@[simp] theorem setPc_cpu32 (t : Bool) (v : Word) (s : State) : (setPc t v s).cpu32 = { s.cpu32 with pc := alignPc t v, cpsr := { s.cpu32.cpsr with t := t } } := rfl
@[simp] theorem setPc_cart8 (t : Bool) (v : Word) (s : State) : (setPc t v s).cart8 = s.cart8 := rfl
@[simp] theorem setPc_fault (t : Bool) (v : Word) (s : State) : (setPc t v s).fault = s.fault := rfl
@[simp] theorem setPc_cycles (t : Bool) (v : Word) (s : State) : (setPc t v s).cycles = s.cycles := rfl
@[simp] theorem setPc_draws (t : Bool) (v : Word) (s : State) : (setPc t v s).draws = s.draws := rfl
@[simp] theorem setPc_outbox (t : Bool) (v : Word) (s : State) : (setPc t v s).outbox = s.outbox := rfl
@[simp] theorem setPc_callback (t : Bool) (v : Word) (s : State) : (setPc t v s).callback = s.callback := rfl
@[simp] theorem setPc_wasReset (t : Bool) (v : Word) (s : State) : (setPc t v s).wasReset = s.wasReset := rfl

@[simp] theorem advancePc_params  (s : State) : (advancePc s).params = s.params := rfl
@[simp] theorem advancePc_cpu8  (s : State) : (advancePc s).cpu8 = s.cpu8 := rfl
@[simp] theorem advancePc_cpu32  (s : State) : (advancePc s).cpu32 = { s.cpu32 with pc := s.cpu32.pc + BitVec.ofNat 32 s.cpu32.codeBytes } := rfl
@[simp] theorem advancePc_cart8  (s : State) : (advancePc s).cart8 = s.cart8 := rfl
@[simp] theorem advancePc_fault  (s : State) : (advancePc s).fault = s.fault := rfl
@[simp] theorem advancePc_cycles  (s : State) : (advancePc s).cycles = s.cycles := rfl
@[simp] theorem advancePc_draws  (s : State) : (advancePc s).draws = s.draws := rfl
@[simp] theorem advancePc_outbox  (s : State) : (advancePc s).outbox = s.outbox := rfl
@[simp] theorem advancePc_callback  (s : State) : (advancePc s).callback = s.callback := rfl
@[simp] theorem advancePc_wasReset  (s : State) : (advancePc s).wasReset = s.wasReset := rfl

@[simp] theorem recordAccess_params (a : Word) (w : Width) (code : Bool) (s : State) : (recordAccess a w code s).params = s.params := rfl
@[simp] theorem recordAccess_cpu8 (a : Word) (w : Width) (code : Bool) (s : State) : (recordAccess a w code s).cpu8 = s.cpu8 := rfl
@[simp] theorem recordAccess_cpu32 (a : Word) (w : Width) (code : Bool) (s : State) : (recordAccess a w code s).cpu32 = { s.cpu32 with lastAccess := some { addr := a, width := 8 * w.bytes, code := code } } := rfl
@[simp] theorem recordAccess_cart8 (a : Word) (w : Width) (code : Bool) (s : State) : (recordAccess a w code s).cart8 = s.cart8 := rfl
@[simp] theorem recordAccess_fault (a : Word) (w : Width) (code : Bool) (s : State) : (recordAccess a w code s).fault = s.fault := rfl
@[simp] theorem recordAccess_cycles (a : Word) (w : Width) (code : Bool) (s : State) : (recordAccess a w code s).cycles = s.cycles := rfl
@[simp] theorem recordAccess_draws (a : Word) (w : Width) (code : Bool) (s : State) : (recordAccess a w code s).draws = s.draws := rfl
@[simp] theorem recordAccess_outbox (a : Word) (w : Width) (code : Bool) (s : State) : (recordAccess a w code s).outbox = s.outbox := rfl
@[simp] theorem recordAccess_callback (a : Word) (w : Width) (code : Bool) (s : State) : (recordAccess a w code s).callback = s.callback := rfl
@[simp] theorem recordAccess_wasReset (a : Word) (w : Width) (code : Bool) (s : State) : (recordAccess a w code s).wasReset = s.wasReset := rfl

@[simp] theorem setRegIn_pc (c : Cpu32) (m : Mode) (i : RegNum) (v : Word) : (c.setRegIn m i v).pc = c.pc := rfl
@[simp] theorem setRegIn_cpsr (c : Cpu32) (m : Mode) (i : RegNum) (v : Word) : (c.setRegIn m i v).cpsr = c.cpsr := rfl
@[simp] theorem setRegIn_spsrFiq (c : Cpu32) (m : Mode) (i : RegNum) (v : Word) : (c.setRegIn m i v).spsrFiq = c.spsrFiq := rfl
@[simp] theorem setRegIn_spsrIrq (c : Cpu32) (m : Mode) (i : RegNum) (v : Word) : (c.setRegIn m i v).spsrIrq = c.spsrIrq := rfl
@[simp] theorem setRegIn_spsrSvc (c : Cpu32) (m : Mode) (i : RegNum) (v : Word) : (c.setRegIn m i v).spsrSvc = c.spsrSvc := rfl
@[simp] theorem setRegIn_spsrAbt (c : Cpu32) (m : Mode) (i : RegNum) (v : Word) : (c.setRegIn m i v).spsrAbt = c.spsrAbt := rfl
@[simp] theorem setRegIn_spsrUnd (c : Cpu32) (m : Mode) (i : RegNum) (v : Word) : (c.setRegIn m i v).spsrUnd = c.spsrUnd := rfl
@[simp] theorem setRegIn_halted (c : Cpu32) (m : Mode) (i : RegNum) (v : Word) : (c.setRegIn m i v).halted = c.halted := rfl
@[simp] theorem setRegIn_lastAccess (c : Cpu32) (m : Mode) (i : RegNum) (v : Word) : (c.setRegIn m i v).lastAccess = c.lastAccess := rfl
@[simp] theorem setRegIn_ie (c : Cpu32) (m : Mode) (i : RegNum) (v : Word) : (c.setRegIn m i v).ie = c.ie := rfl
@[simp] theorem setRegIn_iflag (c : Cpu32) (m : Mode) (i : RegNum) (v : Word) : (c.setRegIn m i v).iflag = c.iflag := rfl
@[simp] theorem setRegIn_ime (c : Cpu32) (m : Mode) (i : RegNum) (v : Word) : (c.setRegIn m i v).ime = c.ime := rfl
@[simp] theorem setRegIn_waitcnt (c : Cpu32) (m : Mode) (i : RegNum) (v : Word) : (c.setRegIn m i v).waitcnt = c.waitcnt := rfl
@[simp] theorem setRegIn_postflg (c : Cpu32) (m : Mode) (i : RegNum) (v : Word) : (c.setRegIn m i v).postflg = c.postflg := rfl
@[simp] theorem setRegIn_haltcnt (c : Cpu32) (m : Mode) (i : RegNum) (v : Word) : (c.setRegIn m i v).haltcnt = c.haltcnt := rfl
@[simp] theorem setRegIn_keyinput (c : Cpu32) (m : Mode) (i : RegNum) (v : Word) : (c.setRegIn m i v).keyinput = c.keyinput := rfl
@[simp] theorem setRegIn_timers (c : Cpu32) (m : Mode) (i : RegNum) (v : Word) : (c.setRegIn m i v).timers = c.timers := rfl
@[simp] theorem setRegIn_dma (c : Cpu32) (m : Mode) (i : RegNum) (v : Word) : (c.setRegIn m i v).dma = c.dma := rfl
@[simp] theorem setRegIn_save (c : Cpu32) (m : Mode) (i : RegNum) (v : Word) : (c.setRegIn m i v).save = c.save := rfl
@[simp] theorem setRegIn_mem (c : Cpu32) (m : Mode) (i : RegNum) (v : Word) : (c.setRegIn m i v).mem = c.mem := rfl

@[simp] theorem setF_a (x : Cpu8) (v : Byte) : (x.setF v).a = x.a := rfl
@[simp] theorem setF_f (x : Cpu8) (v : Byte) : (x.setF v).f = v &&& 0xF0#8 := rfl
@[simp] theorem setF_b (x : Cpu8) (v : Byte) : (x.setF v).b = x.b := rfl
@[simp] theorem setF_c (x : Cpu8) (v : Byte) : (x.setF v).c = x.c := rfl
@[simp] theorem setF_d (x : Cpu8) (v : Byte) : (x.setF v).d = x.d := rfl
@[simp] theorem setF_e (x : Cpu8) (v : Byte) : (x.setF v).e = x.e := rfl
@[simp] theorem setF_h (x : Cpu8) (v : Byte) : (x.setF v).h = x.h := rfl
@[simp] theorem setF_l (x : Cpu8) (v : Byte) : (x.setF v).l = x.l := rfl
@[simp] theorem setF_sp (x : Cpu8) (v : Byte) : (x.setF v).sp = x.sp := rfl
@[simp] theorem setF_pc (x : Cpu8) (v : Byte) : (x.setF v).pc = x.pc := rfl
@[simp] theorem setF_ime (x : Cpu8) (v : Byte) : (x.setF v).ime = x.ime := rfl
@[simp] theorem setF_halted (x : Cpu8) (v : Byte) : (x.setF v).halted = x.halted := rfl
@[simp] theorem setF_stopped (x : Cpu8) (v : Byte) : (x.setF v).stopped = x.stopped := rfl
@[simp] theorem setF_eiPending (x : Cpu8) (v : Byte) : (x.setF v).eiPending = x.eiPending := rfl
@[simp] theorem setF_doubleSpeed (x : Cpu8) (v : Byte) : (x.setF v).doubleSpeed = x.doubleSpeed := rfl
@[simp] theorem setF_speedArmed (x : Cpu8) (v : Byte) : (x.setF v).speedArmed = x.speedArmed := rfl
@[simp] theorem setF_div16 (x : Cpu8) (v : Byte) : (x.setF v).div16 = x.div16 := rfl
@[simp] theorem setF_timerIn (x : Cpu8) (v : Byte) : (x.setF v).timerIn = x.timerIn := rfl
@[simp] theorem setF_ie (x : Cpu8) (v : Byte) : (x.setF v).ie = x.ie := rfl
@[simp] theorem setF_iflag (x : Cpu8) (v : Byte) : (x.setF v).iflag = x.iflag := rfl
@[simp] theorem setF_tima (x : Cpu8) (v : Byte) : (x.setF v).tima = x.tima := rfl
@[simp] theorem setF_tma (x : Cpu8) (v : Byte) : (x.setF v).tma = x.tma := rfl
@[simp] theorem setF_tac (x : Cpu8) (v : Byte) : (x.setF v).tac = x.tac := rfl
@[simp] theorem setF_oamDma (x : Cpu8) (v : Byte) : (x.setF v).oamDma = x.oamDma := rfl
@[simp] theorem setF_vbk (x : Cpu8) (v : Byte) : (x.setF v).vbk = x.vbk := rfl
@[simp] theorem setF_svbk (x : Cpu8) (v : Byte) : (x.setF v).svbk = x.svbk := rfl
@[simp] theorem setF_hdma1 (x : Cpu8) (v : Byte) : (x.setF v).hdma1 = x.hdma1 := rfl
@[simp] theorem setF_hdma2 (x : Cpu8) (v : Byte) : (x.setF v).hdma2 = x.hdma2 := rfl
@[simp] theorem setF_hdma3 (x : Cpu8) (v : Byte) : (x.setF v).hdma3 = x.hdma3 := rfl
@[simp] theorem setF_hdma4 (x : Cpu8) (v : Byte) : (x.setF v).hdma4 = x.hdma4 := rfl
@[simp] theorem setF_mem (x : Cpu8) (v : Byte) : (x.setF v).mem = x.mem := rfl

@[simp] theorem setAF_a (x : Cpu8) (a v : Byte) : (x.setAF a v).a = a := rfl
@[simp] theorem setAF_f (x : Cpu8) (a v : Byte) : (x.setAF a v).f = v &&& 0xF0#8 := rfl
@[simp] theorem setAF_b (x : Cpu8) (a v : Byte) : (x.setAF a v).b = x.b := rfl
@[simp] theorem setAF_c (x : Cpu8) (a v : Byte) : (x.setAF a v).c = x.c := rfl
@[simp] theorem setAF_d (x : Cpu8) (a v : Byte) : (x.setAF a v).d = x.d := rfl
@[simp] theorem setAF_e (x : Cpu8) (a v : Byte) : (x.setAF a v).e = x.e := rfl
@[simp] theorem setAF_h (x : Cpu8) (a v : Byte) : (x.setAF a v).h = x.h := rfl
@[simp] theorem setAF_l (x : Cpu8) (a v : Byte) : (x.setAF a v).l = x.l := rfl
@[simp] theorem setAF_sp (x : Cpu8) (a v : Byte) : (x.setAF a v).sp = x.sp := rfl
@[simp] theorem setAF_pc (x : Cpu8) (a v : Byte) : (x.setAF a v).pc = x.pc := rfl
@[simp] theorem setAF_ime (x : Cpu8) (a v : Byte) : (x.setAF a v).ime = x.ime := rfl
@[simp] theorem setAF_halted (x : Cpu8) (a v : Byte) : (x.setAF a v).halted = x.halted := rfl
@[simp] theorem setAF_stopped (x : Cpu8) (a v : Byte) : (x.setAF a v).stopped = x.stopped := rfl
@[simp] theorem setAF_eiPending (x : Cpu8) (a v : Byte) : (x.setAF a v).eiPending = x.eiPending := rfl
@[simp] theorem setAF_doubleSpeed (x : Cpu8) (a v : Byte) : (x.setAF a v).doubleSpeed = x.doubleSpeed := rfl
@[simp] theorem setAF_speedArmed (x : Cpu8) (a v : Byte) : (x.setAF a v).speedArmed = x.speedArmed := rfl
@[simp] theorem setAF_div16 (x : Cpu8) (a v : Byte) : (x.setAF a v).div16 = x.div16 := rfl
@[simp] theorem setAF_timerIn (x : Cpu8) (a v : Byte) : (x.setAF a v).timerIn = x.timerIn := rfl
@[simp] theorem setAF_ie (x : Cpu8) (a v : Byte) : (x.setAF a v).ie = x.ie := rfl
@[simp] theorem setAF_iflag (x : Cpu8) (a v : Byte) : (x.setAF a v).iflag = x.iflag := rfl
@[simp] theorem setAF_tima (x : Cpu8) (a v : Byte) : (x.setAF a v).tima = x.tima := rfl
@[simp] theorem setAF_tma (x : Cpu8) (a v : Byte) : (x.setAF a v).tma = x.tma := rfl
@[simp] theorem setAF_tac (x : Cpu8) (a v : Byte) : (x.setAF a v).tac = x.tac := rfl
@[simp] theorem setAF_oamDma (x : Cpu8) (a v : Byte) : (x.setAF a v).oamDma = x.oamDma := rfl
@[simp] theorem setAF_vbk (x : Cpu8) (a v : Byte) : (x.setAF a v).vbk = x.vbk := rfl
@[simp] theorem setAF_svbk (x : Cpu8) (a v : Byte) : (x.setAF a v).svbk = x.svbk := rfl
@[simp] theorem setAF_hdma1 (x : Cpu8) (a v : Byte) : (x.setAF a v).hdma1 = x.hdma1 := rfl
@[simp] theorem setAF_hdma2 (x : Cpu8) (a v : Byte) : (x.setAF a v).hdma2 = x.hdma2 := rfl
@[simp] theorem setAF_hdma3 (x : Cpu8) (a v : Byte) : (x.setAF a v).hdma3 = x.hdma3 := rfl
@[simp] theorem setAF_hdma4 (x : Cpu8) (a v : Byte) : (x.setAF a v).hdma4 = x.hdma4 := rfl
@[simp] theorem setAF_mem (x : Cpu8) (a v : Byte) : (x.setAF a v).mem = x.mem := rfl

/-! The CPU-8 register file: a write of a register is read back, and changes no other register. -/

@[simp] theorem reg_setReg_same (x : Cpu8) (k : R8) (v : Byte) (h : k ≠ .hlm) : (x.setReg k v).reg k = v := by
  cases k <;> first | rfl | exact absurd rfl h

theorem reg_setReg_ne (x : Cpu8) (j k : R8) (v : Byte) (h : j ≠ k) : (x.setReg k v).reg j = x.reg j := by
  cases j <;> cases k <;> first | rfl | exact absurd rfl h

@[simp] theorem setReg_f (x : Cpu8) (k : R8) (v : Byte) : (x.setReg k v).f = x.f := by cases k <;> rfl
@[simp] theorem setReg_sp (x : Cpu8) (k : R8) (v : Byte) : (x.setReg k v).sp = x.sp := by cases k <;> rfl
@[simp] theorem setReg_pc (x : Cpu8) (k : R8) (v : Byte) : (x.setReg k v).pc = x.pc := by cases k <;> rfl
@[simp] theorem setReg_ime (x : Cpu8) (k : R8) (v : Byte) : (x.setReg k v).ime = x.ime := by cases k <;> rfl
@[simp] theorem setReg_halted (x : Cpu8) (k : R8) (v : Byte) : (x.setReg k v).halted = x.halted := by cases k <;> rfl
@[simp] theorem setReg_stopped (x : Cpu8) (k : R8) (v : Byte) : (x.setReg k v).stopped = x.stopped := by cases k <;> rfl
@[simp] theorem setReg_eiPending (x : Cpu8) (k : R8) (v : Byte) : (x.setReg k v).eiPending = x.eiPending := by cases k <;> rfl
@[simp] theorem setReg_doubleSpeed (x : Cpu8) (k : R8) (v : Byte) : (x.setReg k v).doubleSpeed = x.doubleSpeed := by cases k <;> rfl
@[simp] theorem setReg_speedArmed (x : Cpu8) (k : R8) (v : Byte) : (x.setReg k v).speedArmed = x.speedArmed := by cases k <;> rfl
@[simp] theorem setReg_div16 (x : Cpu8) (k : R8) (v : Byte) : (x.setReg k v).div16 = x.div16 := by cases k <;> rfl
@[simp] theorem setReg_timerIn (x : Cpu8) (k : R8) (v : Byte) : (x.setReg k v).timerIn = x.timerIn := by cases k <;> rfl
@[simp] theorem setReg_ie (x : Cpu8) (k : R8) (v : Byte) : (x.setReg k v).ie = x.ie := by cases k <;> rfl
@[simp] theorem setReg_iflag (x : Cpu8) (k : R8) (v : Byte) : (x.setReg k v).iflag = x.iflag := by cases k <;> rfl
@[simp] theorem setReg_tima (x : Cpu8) (k : R8) (v : Byte) : (x.setReg k v).tima = x.tima := by cases k <;> rfl
@[simp] theorem setReg_tma (x : Cpu8) (k : R8) (v : Byte) : (x.setReg k v).tma = x.tma := by cases k <;> rfl
@[simp] theorem setReg_tac (x : Cpu8) (k : R8) (v : Byte) : (x.setReg k v).tac = x.tac := by cases k <;> rfl
@[simp] theorem setReg_oamDma (x : Cpu8) (k : R8) (v : Byte) : (x.setReg k v).oamDma = x.oamDma := by cases k <;> rfl
@[simp] theorem setReg_vbk (x : Cpu8) (k : R8) (v : Byte) : (x.setReg k v).vbk = x.vbk := by cases k <;> rfl
@[simp] theorem setReg_svbk (x : Cpu8) (k : R8) (v : Byte) : (x.setReg k v).svbk = x.svbk := by cases k <;> rfl
@[simp] theorem setReg_hdma1 (x : Cpu8) (k : R8) (v : Byte) : (x.setReg k v).hdma1 = x.hdma1 := by cases k <;> rfl
@[simp] theorem setReg_hdma2 (x : Cpu8) (k : R8) (v : Byte) : (x.setReg k v).hdma2 = x.hdma2 := by cases k <;> rfl
@[simp] theorem setReg_hdma3 (x : Cpu8) (k : R8) (v : Byte) : (x.setReg k v).hdma3 = x.hdma3 := by cases k <;> rfl
@[simp] theorem setReg_hdma4 (x : Cpu8) (k : R8) (v : Byte) : (x.setReg k v).hdma4 = x.hdma4 := by cases k <;> rfl
@[simp] theorem setReg_mem (x : Cpu8) (k : R8) (v : Byte) : (x.setReg k v).mem = x.mem := by cases k <;> rfl

@[simp] theorem setPair_a (x : Cpu8) (p : RP) (v : Half) : (x.setPair p v).a = x.a := by cases p <;> rfl
@[simp] theorem setPair_f (x : Cpu8) (p : RP) (v : Half) : (x.setPair p v).f = x.f := by cases p <;> rfl
@[simp] theorem setPair_pc (x : Cpu8) (p : RP) (v : Half) : (x.setPair p v).pc = x.pc := by cases p <;> rfl
@[simp] theorem setPair_ime (x : Cpu8) (p : RP) (v : Half) : (x.setPair p v).ime = x.ime := by cases p <;> rfl
@[simp] theorem setPair_halted (x : Cpu8) (p : RP) (v : Half) : (x.setPair p v).halted = x.halted := by cases p <;> rfl
@[simp] theorem setPair_stopped (x : Cpu8) (p : RP) (v : Half) : (x.setPair p v).stopped = x.stopped := by cases p <;> rfl
@[simp] theorem setPair_eiPending (x : Cpu8) (p : RP) (v : Half) : (x.setPair p v).eiPending = x.eiPending := by cases p <;> rfl
@[simp] theorem setPair_doubleSpeed (x : Cpu8) (p : RP) (v : Half) : (x.setPair p v).doubleSpeed = x.doubleSpeed := by cases p <;> rfl
@[simp] theorem setPair_speedArmed (x : Cpu8) (p : RP) (v : Half) : (x.setPair p v).speedArmed = x.speedArmed := by cases p <;> rfl
@[simp] theorem setPair_div16 (x : Cpu8) (p : RP) (v : Half) : (x.setPair p v).div16 = x.div16 := by cases p <;> rfl
@[simp] theorem setPair_timerIn (x : Cpu8) (p : RP) (v : Half) : (x.setPair p v).timerIn = x.timerIn := by cases p <;> rfl
@[simp] theorem setPair_ie (x : Cpu8) (p : RP) (v : Half) : (x.setPair p v).ie = x.ie := by cases p <;> rfl
@[simp] theorem setPair_iflag (x : Cpu8) (p : RP) (v : Half) : (x.setPair p v).iflag = x.iflag := by cases p <;> rfl
@[simp] theorem setPair_tima (x : Cpu8) (p : RP) (v : Half) : (x.setPair p v).tima = x.tima := by cases p <;> rfl
@[simp] theorem setPair_tma (x : Cpu8) (p : RP) (v : Half) : (x.setPair p v).tma = x.tma := by cases p <;> rfl
@[simp] theorem setPair_tac (x : Cpu8) (p : RP) (v : Half) : (x.setPair p v).tac = x.tac := by cases p <;> rfl
@[simp] theorem setPair_oamDma (x : Cpu8) (p : RP) (v : Half) : (x.setPair p v).oamDma = x.oamDma := by cases p <;> rfl
@[simp] theorem setPair_vbk (x : Cpu8) (p : RP) (v : Half) : (x.setPair p v).vbk = x.vbk := by cases p <;> rfl
@[simp] theorem setPair_svbk (x : Cpu8) (p : RP) (v : Half) : (x.setPair p v).svbk = x.svbk := by cases p <;> rfl
@[simp] theorem setPair_hdma1 (x : Cpu8) (p : RP) (v : Half) : (x.setPair p v).hdma1 = x.hdma1 := by cases p <;> rfl
@[simp] theorem setPair_hdma2 (x : Cpu8) (p : RP) (v : Half) : (x.setPair p v).hdma2 = x.hdma2 := by cases p <;> rfl
@[simp] theorem setPair_hdma3 (x : Cpu8) (p : RP) (v : Half) : (x.setPair p v).hdma3 = x.hdma3 := by cases p <;> rfl
@[simp] theorem setPair_hdma4 (x : Cpu8) (p : RP) (v : Half) : (x.setPair p v).hdma4 = x.hdma4 := by cases p <;> rfl
@[simp] theorem setPair_mem (x : Cpu8) (p : RP) (v : Half) : (x.setPair p v).mem = x.mem := by cases p <;> rfl

/-! Outcomes. -/

@[simp] theorem thenRes_next (s : State) (k : State → Res) : thenRes (.next s) k = k s := rfl
@[simp] theorem thenRes_fault (f : Fault) (k : State → Res) : thenRes (.fault f) k = .fault f := rfl
@[simp] theorem thenRes_refused (q : Refusal) (k : State → Res) : thenRes (.refused q) k = .refused q := rfl

/-- A sequence answers a next state exactly when both its parts do. -/
theorem thenRes_eq_next {r : Res} {k : State → Res} {t : State} :
    thenRes r k = .next t ↔ ∃ s, r = .next s ∧ k s = .next t := by
  cases r <;> simp [thenRes]

/-! The CPU-32 register file. -/

@[simp] theorem regIn_setRegIn_same (c : Cpu32) (m : Mode) (i : RegNum) (v : Word) :
    (c.setRegIn m i v).regIn m i = v := by
  simp [Cpu32.regIn, Cpu32.setRegIn]

theorem regIn_setRegIn_ne (c : Cpu32) (m m' : Mode) (i j : RegNum) (v : Word) (h : slotOf i m ≠ slotOf j m') :
    (c.setRegIn m i v).regIn m' j = c.regIn m' j := by
  have h' : (slotOf i m : Nat) ≠ (slotOf j m' : Nat) := fun e => h (Fin.ext e)
  simp [Cpu32.regIn, Cpu32.setRegIn, h']

/-- Within one mode, two registers below R15 have two slots (R50). -/
theorem slotOf_injective : ∀ (m : Mode) (i j : RegNum), i ≠ 15#4 → j ≠ 15#4 → slotOf i m = slotOf j m → i = j := by
  intro m; cases m <;> decide

theorem readReg_writeReg_same (i : RegNum) (v : Word) (s : State) (h : i ≠ 15#4) :
    readReg i (writeReg i v s) = v := by
  simp [readReg, h]

theorem readReg_writeReg_ne (i j : RegNum) (v : Word) (s : State) (hi : i ≠ 15#4) (h : i ≠ j) :
    readReg j (writeReg i v s) = readReg j s := by
  by_cases hj : j = 15#4
  · subst hj; rfl
  · simp only [readReg, hj, if_false, writeReg_cpu32, setRegIn_cpsr]
    exact regIn_setRegIn_ne _ _ _ _ _ _ fun e => h (slotOf_injective _ _ _ hi hj e)

end Sys2Proof.Machine
end

