-- ==== Sys2Proof/Laws/Bus32.lean ====
section
/-! SUPPORT. The CPU-32 bus and the ways an instruction ends: what each shared operation can do, said once. -/

namespace Sys2Proof.Machine

/-! Costs and endings. -/

/-- An access cost depends on the state through WAITCNT only (R131). -/
theorem accessCost_congr (seq : Bool) (w : Width) (a : Word) {s t : State}
    (h : t.cpu32.waitcnt = s.cpu32.waitcnt) : accessCost seq w a t = accessCost seq w a s := by
  simp only [accessCost, h]

/-- A code cost depends on the state through WAITCNT, PC and T only (R830). -/
theorem codeCost_congr (seq : Bool) {s t : State} (hw : t.cpu32.waitcnt = s.cpu32.waitcnt)
    (hp : t.cpu32.pc = s.cpu32.pc) (ht : t.cpu32.cpsr.t = s.cpu32.cpsr.t) : codeCost seq t = codeCost seq s := by
  simp only [codeCost, Cpu32.codeWidth, Cpu32.codeBytes, hp, ht, accessCost_congr _ _ _ hw]

theorem ifCond_pass {cond : Cond} {body : State → Res} {s : State} (h : condPasses cond s.cpu32.cpsr = true) :
    ifCond cond body s = body s := by simp [ifCond, h]

theorem ifCond_fail {cond : Cond} {body : State → Res} {s : State} (h : condPasses cond s.cpu32.cpsr = false) :
    ifCond cond body s = retire 0 s := by simp [ifCond, h]

/-- What an instruction under a condition answers comes from the failed condition or from its body. -/
theorem ifCond_eq_next {cond : Cond} {body : State → Res} {s t : State} :
    ifCond cond body s = .next t ↔
      (condPasses cond s.cpu32.cpsr = true ∧ body s = .next t) ∨
        (condPasses cond s.cpu32.cpsr = false ∧ retire 0 s = .next t) := by
  unfold ifCond
  cases condPasses cond s.cpu32.cpsr <;> simp

/-! Reads. -/

/-- What a read may change: the index of the next free value and the EEPROM's output bits. -/
def ReadsTo (s t : State) : Prop :=
  ∃ d e, t = { s with draws := d, cpu32 := { s.cpu32 with save := { s.cpu32.save with eout := e } } }

theorem ReadsTo.rfl {s : State} : ReadsTo s s := ⟨s.draws, s.cpu32.save.eout, by cases s; rfl⟩

theorem ReadsTo.draw (w : Nat) {s : State} : ReadsTo s (draw w s).2 := ⟨s.draws + 1, s.cpu32.save.eout, by cases s; rfl⟩

theorem ReadsTo.trans {s t u : State} (h : ReadsTo s t) (h' : ReadsTo t u) : ReadsTo s u := by
  obtain ⟨d, e, rfl⟩ := h
  obtain ⟨d', e', rfl⟩ := h'
  exact ⟨d', e', by cases s; rfl⟩

theorem ioRead16_readsTo (r : Io32) (s : State) : ReadsTo s (ioRead16 r s).2 := by
  unfold ioRead16 withUnused16
  split <;> first | exact ReadsTo.draw _ | exact ReadsTo.rfl

theorem ioRead_readsTo (w : Width) (a : Word) (s : State) : ReadsTo s (ioRead w a s).2 := by
  cases w
  · exact ioRead16_readsTo _ s
  · exact ioRead16_readsTo _ s
  · exact (ioRead16_readsTo _ s).trans (ioRead16_readsTo _ _)

theorem drawWidth_readsTo (w : Width) (s : State) : ReadsTo s (drawWidth w s).2 := by
  cases w <;> exact ReadsTo.draw 32

theorem openBus_readsTo (w : Width) (a : Word) (s : State) : ReadsTo s (openBus w a s).2 := by
  unfold openBus
  split
  · exact drawWidth_readsTo w s
  · exact ReadsTo.rfl

theorem eepromRead_readsTo (s : State) : ReadsTo s (eepromRead s).2 := by
  unfold eepromRead
  split
  · exact ReadsTo.rfl
  · rename_i rest _
    exact ⟨s.draws, rest, by cases s; rfl⟩

theorem romRead_readsTo (w : Width) (a : Word) (s : State) : ReadsTo s (romRead w a s).2 := by
  unfold romRead
  split
  · cases w
    · exact drawWidth_readsTo _ s
    · exact eepromRead_readsTo s
    · exact drawWidth_readsTo _ s
  · dsimp only
    split
    · exact ReadsTo.rfl
    · exact openBus_readsTo w a s

/-- The save region draws exactly under the types that answer no byte (R151; log entry 17). -/
theorem saveRead_eq_none (a : Nat) (s : State) :
    saveRead a s = none ↔ s.cpu32.save.kind = .unknown ∨ isEepromType s.cpu32.save.kind = true := by
  unfold saveRead
  cases s.cpu32.save.kind <;> simp [isEepromType]

/-- A bus read changes nothing else (R120 to R129, R151 to R158). -/
theorem memRead_readsTo (w : Width) (a : Word) (s : State) : ReadsTo s (memRead w a s).2 := by
  unfold memRead
  split <;> first
    | exact ReadsTo.rfl
    | exact ioRead_readsTo w a s
    | exact romRead_readsTo w a s
    | exact openBus_readsTo w a s
    | (split
       · exact ReadsTo.rfl
       · exact drawWidth_readsTo w s)

/-- A data read: the cost, the last access, and what a bus read changes. -/
theorem loadData_readsTo (seq : Bool) (w : Width) (a : Word) (s : State) :
    ReadsTo (recordAccess a w false (charge (accessCost seq w a s) s)) (loadData seq w a s).2 :=
  memRead_readsTo w a _

/-! Writes outside the IO window. -/

/-- What such a write may change: the save machine, memory, and the index of the next free value; and memory keeps
its canonical form. -/
def WritesTo (s t : State) : Prop :=
  t = { s with draws := t.draws, cpu32 := { s.cpu32 with save := t.cpu32.save, mem := t.cpu32.mem } } ∧
    (Memory.wf s.cpu32.mem = true → Memory.wf t.cpu32.mem = true)

theorem WritesTo.rfl {s : State} : WritesTo s s := ⟨by cases s; rfl, id⟩

theorem WritesTo.trans {s t u : State} (h : WritesTo s t) (h' : WritesTo t u) : WritesTo s u := by
  refine ⟨?_, fun w => h'.2 (h.2 w)⟩
  rw [h'.1, h.1]

theorem ramWrite_writesTo (r : Region) (w : Width) (a v : Word) (s : State) : WritesTo s (ramWrite r w a v s) :=
  ⟨by cases s; rfl, fun h => Memory.wf_writeLe _ _ _ h⟩

theorem onSave_writesTo (f : Save → Save) (s : State) : WritesTo s (onSave f s) := ⟨by cases s; rfl, id⟩

theorem setSaveByte_writesTo (o : Nat) (v : Byte) (s : State) : WritesTo s (setSaveByte o v s) :=
  ⟨by cases s; rfl, fun h => Memory.wf_write _ _ h⟩

theorem eraseSave_writesTo (o n : Nat) (s : State) : WritesTo s (eraseSave o n s) :=
  ⟨by cases s; rfl, fun h => Memory.wf_fill _ _ _ h⟩

theorem flashCommand_writesTo (b : Nat) (s : State) : WritesTo s (flashCommand b s) := by
  unfold flashCommand
  dsimp only
  split <;> first
    | exact (onSave_writesTo _ s).trans (onSave_writesTo _ _)
    | exact onSave_writesTo _ s
    | (split
       · exact ((eraseSave_writesTo _ _ s).trans (onSave_writesTo _ _)).trans (onSave_writesTo _ _)
       · exact onSave_writesTo _ s)

theorem flashWrite_writesTo (o : Nat) (b : Byte) (s : State) : WritesTo s (flashWrite o b s) := by
  unfold flashWrite
  dsimp only
  split
  · exact (setSaveByte_writesTo _ _ s).trans (onSave_writesTo _ _)
  split
  · exact onSave_writesTo _ s
  split
  · exact onSave_writesTo _ s
  split
  · exact onSave_writesTo _ s
  split
  · exact flashCommand_writesTo _ s
  split
  · exact (eraseSave_writesTo _ _ s).trans (onSave_writesTo _ _)
  split <;> exact onSave_writesTo _ s

theorem saveWrite_writesTo (bw : Bool) (a : Nat) (b : Byte) (s : State) : WritesTo s (saveWrite bw a b s) := by
  unfold saveWrite
  refine WritesTo.trans (t := if s.cpu32.save.kind = .unknown then
    onSave (fun v => { v with kind := detectSave bw a b }) s else s) ?_ ?_
  · split
    · exact onSave_writesTo _ s
    · exact WritesTo.rfl
  · generalize (if s.cpu32.save.kind = .unknown then
      onSave (fun v => { v with kind := detectSave bw a b }) s else s) = u
    dsimp only
    split <;> first
      | exact setSaveByte_writesTo _ _ u
      | exact flashWrite_writesTo _ _ u
      | exact WritesTo.rfl

theorem storeBlock_writesTo (block n : Nat) (bs : List Bool) (s : State) : WritesTo s (storeBlock block bs n s) := by
  induction n generalizing bs s with
  | zero => exact WritesTo.rfl
  | succ n ih => exact (setSaveByte_writesTo _ _ s).trans (ih _ _)

theorem eepromAnswer_writesTo (block : Nat) (s : State) : WritesTo s (eepromAnswer block s) := by
  unfold eepromAnswer
  dsimp only
  split
  · exact onSave_writesTo _ s
  · exact ⟨by cases s; rfl, id⟩

theorem eepromCommand_writesTo (s : State) : WritesTo s (eepromCommand s) := by
  unfold eepromCommand
  dsimp only
  split
  · split
    · exact eepromAnswer_writesTo _ s
    · exact WritesTo.rfl
  · split
    · refine WritesTo.trans ?_ (onSave_writesTo _ _)
      split
      · exact storeBlock_writesTo _ _ _ s
      · exact WritesTo.rfl
    · exact WritesTo.rfl
  · exact WritesTo.rfl

theorem eepromWrite_writesTo (b : Bool) (s : State) : WritesTo s (eepromWrite b s) := by
  unfold eepromWrite
  dsimp only
  split
  · exact (onSave_writesTo _ s).trans (eepromCommand_writesTo _)
  · exact WritesTo.rfl

theorem romWrite_writesTo (m : Master) (w : Width) (a v : Word) (s : State) : WritesTo s (romWrite m w a v s) := by
  unfold romWrite
  split
  · split
    · exact eepromWrite_writesTo _ s
    · exact WritesTo.rfl
  · split
    · exact (onSave_writesTo _ s).trans (eepromWrite_writesTo _ _)
    · exact WritesTo.rfl

/-- A write outside the IO window completes, and changes nothing else (R120 to R129, R151 to R158). -/
theorem memWrite_writesTo (m : Master) (w : Width) (a v : Word) (s : State) (h : region a ≠ .io) :
    ∃ t, memWrite m w a v s = .next t ∧ WritesTo s t := by
  unfold memWrite
  split
  · exact ⟨_, rfl, WritesTo.rfl⟩
  · exact ⟨_, rfl, ramWrite_writesTo _ _ _ _ s⟩
  · exact ⟨_, rfl, ramWrite_writesTo _ _ _ _ s⟩
  · rename_i e
    exact absurd e h
  · refine ⟨_, rfl, ?_⟩
    split <;> exact ramWrite_writesTo _ _ _ _ s
  · refine ⟨_, rfl, ?_⟩
    split
    · split
      · exact ramWrite_writesTo _ _ _ _ s
      · exact WritesTo.rfl
    · exact ramWrite_writesTo _ _ _ _ s
  · refine ⟨_, rfl, ?_⟩
    split
    · exact WritesTo.rfl
    · exact ramWrite_writesTo _ _ _ _ s
  · exact ⟨_, rfl, romWrite_writesTo _ _ _ _ s⟩
  · exact ⟨_, rfl, saveWrite_writesTo _ _ _ s⟩
  · exact ⟨_, rfl, WritesTo.rfl⟩

/-! DMA. -/

/-- With no channel pending the DMA loop is over (R811). -/
theorem dmaPhase_idle (fuel : Nat) {s : State} (h : s.cpu32.lowestPending = none) : dmaPhase fuel s = .next s := by
  cases fuel with
  | zero => rfl
  | succ k => simp [dmaPhase, h]

/-- The lowest pending channel runs, then the loop goes on (R775, R811). -/
theorem dmaPhase_pending (fuel : Nat) {n : Fin 4} {s : State} (h : s.cpu32.lowestPending = some n) :
    dmaPhase (fuel + 1) s = thenRes (dmaRun n s) (dmaPhase fuel) := by simp [dmaPhase, h]

/-! The hazard. -/

/-- The hazard of R842, as a statement. -/
theorem touchesPrefetch_iff (c : Cpu32) (a : Word) (n : Nat) :
    touchesPrefetch c a n = true ↔
      ∃ j, j < n ∧ (a + BitVec.ofNat 32 j - (c.pc + BitVec.ofNat 32 c.codeBytes)).toNat < 2 * c.codeBytes := by
  induction n with
  | zero => simp [touchesPrefetch]
  | succ n ih =>
    simp only [touchesPrefetch, Bool.or_eq_true, decide_eq_true_eq, ih]
    constructor
    · rintro (h | ⟨j, hj, h⟩)
      · exact ⟨n, by omega, h⟩
      · exact ⟨j, by omega, h⟩
    · rintro ⟨j, hj, h⟩
      by_cases e : j = n
      · exact .inl (e ▸ h)
      · exact .inr ⟨j, by omega, h⟩

/-- A CPU store outside the IO window stops on the hazard or completes as the bus write does. -/
theorem storeData_cases (seq : Bool) (w : Width) (a v : Word) (s : State) (h : region a ≠ .io) :
    (touchesPrefetch s.cpu32 (storeSpan w a s).1 (storeSpan w a s).2 = true ∧
      storeData seq w a v s = unpredictable .storeIntoPrefetch s) ∨
    (touchesPrefetch s.cpu32 (storeSpan w a s).1 (storeSpan w a s).2 = false ∧
      ∃ t, storeData seq w a v s = .next t ∧
        WritesTo (recordAccess a w false (charge (accessCost seq w a s) s)) t) := by
  unfold storeData
  dsimp only
  cases ht : touchesPrefetch s.cpu32 (storeSpan w a s).1 (storeSpan w a s).2
  · exact .inr ⟨rfl, by simpa using memWrite_writesTo _ _ _ _ _ h⟩
  · exact .inl ⟨rfl, by simp⟩

end Sys2Proof.Machine
end

