-- ==== Sys2Proof/Laws/Bus8.lean ====
section
/-! SUPPORT. The CPU-8 bus: what a read and a write can do, said once. -/

namespace Sys2Proof.Machine

/-- A read changes nothing but the index of the next free value. -/
theorem read8_state (a : Half) (s : State) :
    (read8 a s).2 = s ∨ (read8 a s).2 = { s with draws := s.draws + 1 } := by
  unfold read8
  split
  · split <;> simp [draw]
  · simp
  · simp [draw]
  · unfold readIo8 withUnused8
    split <;> simp [draw]
  · simp

@[simp] theorem read8_cpu8 (a : Half) (s : State) : (read8 a s).2.cpu8 = s.cpu8 := by
  rcases read8_state a s with h | h <;> rw [h]

@[simp] theorem read8_cpu32 (a : Half) (s : State) : (read8 a s).2.cpu32 = s.cpu32 := by
  rcases read8_state a s with h | h <;> rw [h]

@[simp] theorem read8_params (a : Half) (s : State) : (read8 a s).2.params = s.params := by
  rcases read8_state a s with h | h <;> rw [h]

@[simp] theorem read8_cycles (a : Half) (s : State) : (read8 a s).2.cycles = s.cycles := by
  rcases read8_state a s with h | h <;> rw [h]

@[simp] theorem read8_fault (a : Half) (s : State) : (read8 a s).2.fault = s.fault := by
  rcases read8_state a s with h | h <;> rw [h]

@[simp] theorem read8_cart8 (a : Half) (s : State) : (read8 a s).2.cart8 = s.cart8 := by
  rcases read8_state a s with h | h <;> rw [h]

@[simp] theorem read8_outbox (a : Half) (s : State) : (read8 a s).2.outbox = s.outbox := by
  rcases read8_state a s with h | h <;> rw [h]

@[simp] theorem readOperand8_cpu8 (k : R8) (s : State) : (readOperand8 k s).2.cpu8 = s.cpu8 := by
  unfold readOperand8; split <;> simp

@[simp] theorem readOperand8_cycles (k : R8) (s : State) : (readOperand8 k s).2.cycles = s.cycles := by
  unfold readOperand8; split <;> simp

@[simp] theorem readOperand8_params (k : R8) (s : State) : (readOperand8 k s).2.params = s.params := by
  unfold readOperand8; split <;> simp

/-- A read of core memory is the byte of memory, and changes nothing. -/
theorem read8_cell {a : Half} {s : State} {key : Nat} (h : place8 s.params.colorMode s.cpu8 a = .cell key) :
    read8 a s = (Memory.read s.cpu8.mem key, s) := by
  unfold read8; rw [h]

/-- A write of core memory stores the byte and changes nothing else. -/
theorem write8_cell {a : Half} {v : Byte} {s : State} {key : Nat}
    (h : place8 s.params.colorMode s.cpu8 a = .cell key) : write8 a v s = .next (setCell8 key v s) := by
  unfold write8; rw [h]

@[simp] theorem setCell8_params (key : Nat) (v : Byte) (s : State) : (setCell8 key v s).params = s.params := rfl
@[simp] theorem setCell8_cycles (key : Nat) (v : Byte) (s : State) : (setCell8 key v s).cycles = s.cycles := rfl
@[simp] theorem setCell8_cpu8 (key : Nat) (v : Byte) (s : State) :
    (setCell8 key v s).cpu8 = { s.cpu8 with mem := Memory.write s.cpu8.mem key v } := rfl

theorem io8_hdma5 {color : Bool} {o : Nat} (h : io8 color o = .hdma5) : color = true ∧ o = 0x55 := by
  unfold io8 at h
  split at h <;> first | exact ⟨rfl, rfl⟩ | cases h

/-- Only HDMA5 and only in colour mode is refused (R763), and only with bit 7 set. -/
theorem write8_next_iff (a : Half) (v : Byte) (s : State) :
    (∃ t, write8 a v s = .next t) ↔ ¬ (s.params.colorMode = true ∧ a = 0xFF55#16 ∧ v.getLsbD 7 = true) := by
  unfold write8
  cases hp : place8 s.params.colorMode s.cpu8 a with
  | cart => simp; rintro - rfl; simp [place8] at hp
  | cell key => simp; rintro - rfl; simp [place8] at hp
  | absent => simp; rintro - rfl; simp [place8] at hp
  | ie => simp; rintro - rfl; simp [place8] at hp
  | io offset =>
    have ho : offset = a.toNat - 0xFF00 ∧ 0xFF00 ≤ a.toNat := by
      simp only [place8] at hp
      repeat' split at hp
      all_goals first | (injection hp with hp; omega) | cases hp
    by_cases h55 : s.params.colorMode = true ∧ a = 0xFF55#16
    · obtain ⟨hc, rfl⟩ := h55
      have : offset = 0x55 := by rw [ho.1]; rfl
      subst this
      simp only [hc, io8, writeIo8, writeHdma5]
      by_cases h7 : v.getLsbD 7 = true
      · rw [if_pos h7]; simp only [true_and, h7, reduceCtorEq, exists_false, not_true]
      · rw [if_neg h7]; exact ⟨fun _ h => h7 h.2.2, fun _ => ⟨_, rfl⟩⟩
    · have hne : ¬ (s.params.colorMode = true ∧ a = 0xFF55#16 ∧ v.getLsbD 7 = true) := fun h => h55 ⟨h.1, h.2.1⟩
      have hio : io8 s.params.colorMode offset ≠ .hdma5 := by
        intro h
        obtain ⟨h1, h2⟩ := io8_hdma5 h
        exact h55 ⟨h1, BitVec.eq_of_toNat_eq (by rw [show (0xFF55#16).toNat = 0xFF55 from rfl]; omega)⟩
      simp only [hne, not_false_eq_true, iff_true]
      unfold writeIo8
      split <;> first | exact ⟨_, rfl⟩ | exact absurd ‹_› hio

/-- A write keeps the parameters. -/
theorem write8_params {a : Half} {v : Byte} {s t : State} (h : write8 a v s = .next t) : t.params = s.params := by
  have hoam : ∀ (p : Byte) (n : Nat) (s : State), (oamCopy p n s).params = s.params := by
    intro p n; induction n with
    | zero => intro s; rfl
    | succ n ih => intro s; simp [oamCopy, ih]
  have hh : ∀ (a b : Half) (n : Nat) (s : State), (hdmaCopy a b n s).params = s.params := by
    intro a b n; induction n with
    | zero => intro s; rfl
    | succ n ih => intro s; simp [hdmaCopy, ih]
  unfold write8 at h
  split at h
  · cases h; rfl
  · cases h; rfl
  · cases h; rfl
  · unfold writeIo8 at h
    split at h
    case h_14 =>
      unfold writeHdma5 at h
      split at h
      · cases h
      · cases h; simp [hh]
    all_goals (cases h; simp [hoam])
  · cases h; rfl

end Sys2Proof.Machine
end

