-- ==== Sys2Proof/Laws/Exceptions.lean ====
section
/-! SUPPORT. The status register, taking a CPU-32 exception and returning from one. -/

namespace Sys2Proof.Machine

/-- Every CPSR is what its word stands for (R54, R55). -/
@[simp] theorem ofWord_toWord (p : Psr) : Psr.ofWord? p.toWord = some p := by
  obtain ⟨n, z, c, v, i, f, t, m⟩ := p
  cases n <;> cases z <;> cases c <;> cases v <;> cases i <;> cases f <;> cases t <;> cases m <;> rfl

/-- A status word has no reserved bit set (R54). -/
theorem toWord_masked (p : Psr) : p.toWord &&& psrMask = p.toWord := by
  obtain ⟨n, z, c, v, i, f, t, m⟩ := p
  cases n <;> cases z <;> cases c <;> cases v <;> cases i <;> cases f <;> cases t <;> cases m <;> rfl

/-- The SPSR of a mode that has one reads back what was written, but for the reserved bits (R56). -/
theorem spsr_setSpsr (c : Cpu32) (m : Mode) (v : Word) :
    (c.setSpsr m v).spsr? m = (c.spsr? m).map fun _ => v &&& psrMask := by cases m <;> rfl

/-- Writing a register leaves every SPSR alone. -/
@[simp] theorem spsr_setRegIn (c : Cpu32) (m m' : Mode) (i : RegNum) (v : Word) :
    (c.setRegIn m i v).spsr? m' = c.spsr? m' := by cases m' <;> rfl

/-- Taking an exception (R742): the status, the return address in the new mode's LR, the PC, and the saved status. -/
theorem enterException_cpsr (m : Mode) (vector lr : Word) (s : State) :
    (enterException m vector lr s).cpu32.cpsr = { s.cpu32.cpsr with mode := m, t := false, i := true } := by
  cases m <;> rfl

theorem enterException_pc (m : Mode) (vector lr : Word) (s : State) :
    (enterException m vector lr s).cpu32.pc = vector := rfl

theorem enterException_lr (m : Mode) (vector lr : Word) (s : State) :
    (enterException m vector lr s).cpu32.regIn m 14#4 = lr := by
  have h := regIn_setRegIn_same
    { s.cpu32.setSpsr m s.cpu32.cpsr.toWord with cpsr := { s.cpu32.cpsr with mode := m, t := false, i := true } }
    m 14#4 lr
  exact h

theorem enterException_spsr (m : Mode) (vector lr : Word) (s : State) (h : s.cpu32.spsr? m ≠ none) :
    (enterException m vector lr s).cpu32.spsr? m = some s.cpu32.cpsr.toWord := by
  have hm := toWord_masked s.cpu32.cpsr
  cases m <;> first
    | exact absurd rfl h
    | exact congrArg some hm

/-- Returning from one (R58): when it completes, CPSR alone changes, to what the mode's SPSR stands for. -/
theorem restoreCpsr_eq_next {s t : State} :
    restoreCpsr s = .next t ↔ ∃ w p, s.cpu32.spsr? s.cpu32.cpsr.mode = some w ∧ Psr.ofWord? w = some p ∧
      t = { s with cpu32 := { s.cpu32 with cpsr := p } } := by
  unfold restoreCpsr
  cases hs : s.cpu32.spsr? s.cpu32.cpsr.mode with
  | none => simp [unpredictable]
  | some w =>
    cases hp : Psr.ofWord? w with
    | none => simp [unpredictable, hp]
    | some p =>
      dsimp only
      rw [hp]
      constructor
      · intro h
        exact ⟨w, p, rfl, hp, (Host.Outcome.next.inj h).symm⟩
      · rintro ⟨w', p', hw, hp', rfl⟩
        cases hw
        rw [hp] at hp'
        cases hp'
        rfl

end Sys2Proof.Machine
end

