-- ==== Sys2Proof/Laws/Flags.lean ====
section
/-! SUPPORT. The flag byte and the arithmetic behind it, on numbers. -/

namespace Sys2Proof.Machine

@[simp] theorem mkF_z (z n h c : Bool) : (mkF z n h c).getLsbD 7 = z := by
  cases z <;> cases n <;> cases h <;> cases c <;> rfl
@[simp] theorem mkF_n (z n h c : Bool) : (mkF z n h c).getLsbD 6 = n := by
  cases z <;> cases n <;> cases h <;> cases c <;> rfl
@[simp] theorem mkF_h (z n h c : Bool) : (mkF z n h c).getLsbD 5 = h := by
  cases z <;> cases n <;> cases h <;> cases c <;> rfl
@[simp] theorem mkF_c (z n h c : Bool) : (mkF z n h c).getLsbD 4 = c := by
  cases z <;> cases n <;> cases h <;> cases c <;> rfl
@[simp] theorem mkF_get7 (z n h c : Bool) : (mkF z n h c)[7] = z := by
  cases z <;> cases n <;> cases h <;> cases c <;> rfl
@[simp] theorem mkF_get6 (z n h c : Bool) : (mkF z n h c)[6] = n := by
  cases z <;> cases n <;> cases h <;> cases c <;> rfl
@[simp] theorem mkF_get5 (z n h c : Bool) : (mkF z n h c)[5] = h := by
  cases z <;> cases n <;> cases h <;> cases c <;> rfl
@[simp] theorem mkF_get4 (z n h c : Bool) : (mkF z n h c)[4] = c := by
  cases z <;> cases n <;> cases h <;> cases c <;> rfl
@[simp] theorem mkF_low (z n h c : Bool) : mkF z n h c &&& 0x0F#8 = 0#8 := by
  cases z <;> cases n <;> cases h <;> cases c <;> rfl
@[simp] theorem mkF_high (z n h c : Bool) : mkF z n h c &&& 0xF0#8 = mkF z n h c := by
  cases z <;> cases n <;> cases h <;> cases c <;> rfl

theorem low_of_mask (v : Byte) : (v &&& 0xF0#8) &&& 0x0F#8 = 0#8 := by
  rw [BitVec.and_assoc, show (0xF0#8 &&& 0x0F#8) = 0#8 from rfl]; simp

theorem addResult_toNat (a b : Byte) (c : Bool) :
    (addResult a b c).1.toNat = (a.toNat + b.toNat + carryNat c) % 256 := by
  cases c <;> simp [addResult, carryNat, BitVec.toNat_add]

theorem subResult_toNat (a b : Byte) (c : Bool) :
    (subResult a b c).1.toNat = (a.toNat + 512 - b.toNat - carryNat c) % 256 := by
  have := a.isLt
  have := b.isLt
  cases c <;> simp [subResult, carryNat, BitVec.toNat_sub] <;> omega

theorem byte_eq_zero (r : Byte) : (r == 0) = true ↔ r.toNat = 0 := by
  simp [BitVec.toNat_eq]

end Sys2Proof.Machine
end

