-- ==== Sys2Proof/Laws/Host.lean ====
section
/-! SUPPORT. The host interface: what a call, a callback and a run can do, said once. -/

namespace Sys2Proof.Machine

/-- No call of the interface changes the parameters (R7), and each leaves the machine reset once it was. -/
theorem hostCall_keeps (call : HostCall) (s t : State) (h : hostCall call s = .next t) :
    t.params = s.params ∧ (s.wasReset = true → t.wasReset = true) := by
  cases call with
  | reset => cases h; exact ⟨rfl, fun _ => rfl⟩
  | answerRom8 a v => cases h; exact ⟨rfl, id⟩
  | setInputs mask =>
    simp only [hostCall, setInputs] at h
    cases hv : s.params.variant <;> simp only [hv] at h <;> split at h <;> cases h <;> exact ⟨rfl, id⟩
  | flagInterrupt bit =>
    simp only [hostCall, flagInterrupt] at h
    cases hv : s.params.variant <;> simp only [hv] at h <;> split at h <;> cases h <;> exact ⟨rfl, id⟩
  | triggerDma event =>
    simp only [hostCall, triggerDma] at h
    cases hv : s.params.variant <;> cases event <;>
      simp only [hv, reduceCtorEq, Host.Outcome.next.injEq] at h <;> rw [← h] <;>
      exact ⟨on32_params _ s, fun w => (on32_wasReset _ s).trans w⟩

theorem hostCalls_keeps (calls : List HostCall) (s t : State) (h : hostCalls calls s = .next t) :
    t.params = s.params ∧ (s.wasReset = true → t.wasReset = true) := by
  induction calls generalizing s with
  | nil => cases h; exact ⟨rfl, id⟩
  | cons call rest ih =>
    obtain ⟨u, hu, ht⟩ := thenRes_eq_next.mp h
    obtain ⟨hp, hr⟩ := hostCall_keeps call s u hu
    obtain ⟨hp', hr'⟩ := ih u ht
    exact ⟨hp'.trans hp, fun w => hr' (hr w)⟩

/-- Without a callback, and on CPU-32, nothing happens between the steps of a run (R795). -/
theorem cycleCallback_none {s : State} (h : s.callback = none ∨ s.params.variant = .cpu32) :
    cycleCallback s = .next s := by
  unfold cycleCallback
  obtain h | h := h <;> rw [h]
  cases s.params.variant <;> rfl

/-- A registered callback is told the cycles and makes its next calls (R795). -/
theorem cycleCallback_some {s : State} {plan : Callback} (hv : s.params.variant = .cpu8) (h : s.callback = some plan) :
    cycleCallback s =
      hostCalls (plan.headD []) (deliver (.retired8 s.cycles) { s with callback := some plan.tail }) := by
  unfold cycleCallback
  rw [hv, h]

/-- The budget a step leaves goes to the rest of the run (R794). -/
theorem runBudget_step {fuel b : Nat} {s t : State} (hb : b ≠ 0) (hr : runReturns s = false) (h : step s = .next t) :
    runBudget (fuel + 1) b s = thenRes (cycleCallback t) (runBudget fuel (b - t.cycles)) := by
  simp [runBudget, hb, hr, h]

/-- A run is over at once when its budget is spent, in STOP and after a fault (R794, R705). -/
theorem runBudget_over {fuel b : Nat} {s : State} (h : b = 0 ∨ runReturns s = true) : runBudget fuel b s = .next s := by
  cases fuel with
  | zero => rfl
  | succ k => simp [runBudget, h]

end Sys2Proof.Machine
end

