-- ==== Sys2Proof/Laws/Timers.lean ====
section
/-! SUPPORT. The timers: what a clock or a cycle can change, said once, and how advances add up. -/

namespace Sys2Proof.Machine

/-! CPU-8. -/

/-- What clocks may change: TIMA, IF, DIV16 and `timer_in`. -/
def TimerOnly8 (c d : Cpu8) : Prop :=
  d = { c with tima := d.tima, iflag := d.iflag, div16 := d.div16, timerIn := d.timerIn }

theorem TimerOnly8.rfl {c : Cpu8} : TimerOnly8 c c := by cases c; exact Eq.refl _

theorem TimerOnly8.trans {c d e : Cpu8} (h : TimerOnly8 c d) (h' : TimerOnly8 d e) : TimerOnly8 c e := by
  unfold TimerOnly8 at *
  rw [h', h]

theorem updateTimerIn_timerOnly (c : Cpu8) : TimerOnly8 c c.updateTimerIn := by
  unfold TimerOnly8 Cpu8.updateTimerIn Cpu8.timerEdge
  dsimp only
  split <;> (try split) <;> rfl

theorem tick_timerOnly (c : Cpu8) : TimerOnly8 c c.tick := by
  unfold Cpu8.tick
  split
  · exact TimerOnly8.rfl
  · exact TimerOnly8.trans (d := { c with div16 := c.div16 + 1 }) (by cases c; exact Eq.refl _)
      (updateTimerIn_timerOnly _)

/-- n clocks change the timer and IF only (R720, R721, R820). -/
theorem advance_timerOnly (n : Nat) (c : Cpu8) : TimerOnly8 c (Cpu8.advance n c) := by
  induction n generalizing c with
  | zero => exact TimerOnly8.rfl
  | succ n ih => exact (tick_timerOnly c).trans (ih c.tick)

theorem Cpu8.advance_add (m n : Nat) (c : Cpu8) : Cpu8.advance (m + n) c = Cpu8.advance n (Cpu8.advance m c) := by
  induction m generalizing c with
  | zero => rw [Nat.zero_add]; rfl
  | succ m ih =>
    rw [Nat.succ_add]
    exact ih c.tick

/-! CPU-32. -/

/-- What a cycle of the timers may change: the timers and IF. -/
def TimersOnly (c d : Cpu32) : Prop := d = { c with timers := d.timers, iflag := d.iflag }

theorem TimersOnly.rfl {c : Cpu32} : TimersOnly c c := by cases c; exact Eq.refl _

theorem TimersOnly.trans {c d e : Cpu32} (h : TimersOnly c d) (h' : TimersOnly d e) : TimersOnly c e := by
  unfold TimersOnly at *
  rw [h', h]

theorem setTimer_timersOnly (c : Cpu32) (n : Fin 4) (t : Timer) : TimersOnly c (c.setTimer n t) := by
  cases c; exact Eq.refl _

theorem raise_timersOnly (c : Cpu32) (b : Nat) : TimersOnly c (c.raise b) := by cases c; exact Eq.refl _

theorem tickChain_timersOnly (l : List (Fin 4)) (c : Cpu32) : TimersOnly c (c.tickChain l) := by
  induction l generalizing c with
  | nil => exact TimersOnly.rfl
  | cons n rest ih =>
    unfold Cpu32.tickChain
    dsimp only
    split
    · refine (setTimer_timersOnly c n { c.timers[n] with counter := c.timers[n].reload }).trans ?_
      generalize c.setTimer n { c.timers[n] with counter := c.timers[n].reload } = d
      cases c.timers[n].irq
      · simp only [Bool.false_eq_true, if_false]
        split
        · exact ih d
        · exact TimersOnly.rfl
      · simp only [if_true]
        refine (raise_timersOnly d (3 + n.val)).trans ?_
        split
        · exact ih _
        · exact TimersOnly.rfl
    · exact setTimer_timersOnly c n _

theorem cycleTimer_timersOnly (c : Cpu32) (n : Fin 4) : TimersOnly c (c.cycleTimer n) := by
  unfold Cpu32.cycleTimer
  dsimp only
  split
  · split
    · exact (setTimer_timersOnly c n _).trans (tickChain_timersOnly _ _)
    · exact setTimer_timersOnly c n _
  · exact TimersOnly.rfl

/-- n cycles change the timers and IF only (R730, R820). -/
theorem advance_timersOnly (n : Nat) (c : Cpu32) : TimersOnly c (Cpu32.advance n c) := by
  induction n generalizing c with
  | zero => exact TimersOnly.rfl
  | succ n ih =>
    refine TimersOnly.trans ?_ (ih c.tick)
    exact (((cycleTimer_timersOnly c 0).trans (cycleTimer_timersOnly _ 1)).trans (cycleTimer_timersOnly _ 2)).trans
      (cycleTimer_timersOnly _ 3)

theorem Cpu32.advance_add (m n : Nat) (c : Cpu32) :
    Cpu32.advance (m + n) c = Cpu32.advance n (Cpu32.advance m c) := by
  induction m generalizing c with
  | zero => rw [Nat.zero_add]; rfl
  | succ m ih =>
    rw [Nat.succ_add]
    exact ih c.tick

end Sys2Proof.Machine
end

