-- ==== Sys2Proof/Laws/Views.lean ====
section
/-! SUPPORT. What `exec` runs for the rows of a family, by the operand fields that name them: one equation for
each family, so that no proof about a family splits the opcode table again. -/

namespace Sys2Proof.Machine

/-! CPU-8. -/

theorem exec_ldInstr {dst src : R8} (s : State) (h : dst ≠ .hlm ∨ src ≠ .hlm) :
    exec (ldInstr dst src) s = load8 dst src s := by
  cases dst <;> cases src <;> first | rfl | exact absurd h (by decide)

theorem exec_ldImmInstr (dst : R8) (n : Byte) (s : State) : exec (ldImmInstr dst n) s = loadImm dst n s := by
  cases dst <;> rfl

theorem exec_ldPairInstr (p : RP) (nn : Half) (s : State) :
    exec (ldPairInstr p nn) s = loadPairImm p nn s := by cases p <;> rfl

theorem exec_pushInstr (q : QQ) (s : State) : exec (pushInstr q) s = pushPair q s := by cases q <;> rfl

theorem exec_popInstr (q : QQ) (s : State) : exec (popInstr q) s = popPair q s := by cases q <;> rfl

theorem exec_aluInstr (op : Alu8) (k : R8) (s : State) : exec (aluInstr op k) s = alu8 op k s := by
  cases op <;> cases k <;> rfl

theorem exec_aluImmInstr (op : Alu8) (n : Byte) (s : State) : exec (aluImmInstr op n) s = alu8Imm op n s := by
  cases op <;> rfl

theorem exec_incInstr (k : R8) (s : State) : exec (incInstr k) s = inc8 k s := by cases k <;> rfl

theorem exec_decInstr (k : R8) (s : State) : exec (decInstr k) s = dec8 k s := by cases k <;> rfl

theorem exec_addHlInstr (p : RP) (s : State) : exec (addHlInstr p) s = addHl p s := by cases p <;> rfl

theorem exec_incPairInstr (p : RP) (s : State) : exec (incPairInstr p) s = incPair p s := by cases p <;> rfl

theorem exec_decPairInstr (p : RP) (s : State) : exec (decPairInstr p) s = decPair p s := by cases p <;> rfl

theorem exec_rotInstr (op : Rot8) (k : R8) (s : State) : exec (rotInstr op k) s = cbRotate op k s := by
  cases op <;> cases k <;> rfl

/-- Three bits, one case each. -/
theorem three_bits (P : BitVec 3 → Prop) (h0 : P 0#3) (h1 : P 1#3) (h2 : P 2#3) (h3 : P 3#3) (h4 : P 4#3) (h5 : P 5#3)
    (h6 : P 6#3) (h7 : P 7#3) (b : BitVec 3) : P b := by
  have hb : b.toNat < 8 := b.isLt
  have e : b = BitVec.ofNat 3 b.toNat := by simp
  rw [e]
  generalize b.toNat = n at hb
  interval_cases n <;> assumption

theorem exec_bitInstr (b : BitVec 3) (k : R8) (s : State) : exec (bitInstr b k) s = cbBit b k s := by
  revert b; apply three_bits <;> cases k <;> rfl

theorem exec_resInstr (b : BitVec 3) (k : R8) (s : State) : exec (resInstr b k) s = cbRes b k s := by
  revert b; apply three_bits <;> cases k <;> rfl

theorem exec_setInstr (b : BitVec 3) (k : R8) (s : State) : exec (setInstr b k) s = cbSet b k s := by
  revert b; apply three_bits <;> cases k <;> rfl

theorem exec_jrInstr (cc : Cc) (e : Byte) (s : State) : exec (jrInstr cc e) s = jumpRelIf cc e s := by
  cases cc <;> rfl

theorem exec_jpInstr (cc : Cc) (nn : Half) (s : State) : exec (jpInstr cc nn) s = jumpIf cc nn s := by
  cases cc <;> rfl

theorem exec_callInstr (cc : Cc) (nn : Half) (s : State) : exec (callInstr cc nn) s = callIf cc nn s := by
  cases cc <;> rfl

theorem exec_retInstr (cc : Cc) (s : State) : exec (retInstr cc) s = returnIf cc s := by cases cc <;> rfl

theorem exec_rstInstr (t : BitVec 3) (s : State) : exec (rstInstr t) s = restart t s := by
  revert t; apply three_bits <;> rfl

/-! ARM. -/

/-- A data-processing row of a test operation has S = 1 (R505). -/
def dpOf (op : DpOp) (d : Dp) : Dp := if isTestOp op then { d with s := true } else d

theorem exec_dpImmInstr (op : DpOp) (d : Dp) (op2 : Op2Imm) (s : State) :
    exec (dpImmInstr op d op2) s = dpImm op (dpOf op d) op2 s := by cases op <;> rfl

theorem exec_dpShiftInstr (op : DpOp) (d : Dp) (op2 : Op2Shift) (s : State) :
    exec (dpShiftInstr op d op2) s = dpShift op (dpOf op d) op2 s := by cases op <;> rfl

theorem exec_dpRegShiftInstr (op : DpOp) (d : Dp) (op2 : Op2RegShift) (s : State) :
    exec (dpRegShiftInstr op d op2) s = dpRegShift op (dpOf op d) op2 s := by cases op <;> rfl

end Sys2Proof.Machine
end

