-- ==== Sys2Proof/Laws/Words.lean ====
section
/-! SUPPORT. Bytes, pairs and their numbers. -/

namespace Sys2Proof.Machine

theorem pair_toNat (a b : Byte) : (pair a b).toNat = a.toNat * 256 + b.toNat := by
  have hb := b.isLt
  refine (BitVec.toNat_append a b).trans ?_
  rw [← Nat.shiftLeft_add_eq_or_of_lt hb, Nat.shiftLeft_eq]

theorem hiByte_toNat (v : Half) : (hiByte v).toNat = v.toNat / 256 := by
  have hv := v.isLt
  simp only [hiByte, BitVec.toNat_setWidth, BitVec.toNat_ushiftRight, Nat.shiftRight_eq_div_pow]
  omega

theorem loByte_toNat (v : Half) : (loByte v).toNat = v.toNat % 256 := by
  simp [loByte]

@[simp] theorem pair_hiByte_loByte (v : Half) : pair (hiByte v) (loByte v) = v := by
  apply BitVec.eq_of_toNat_eq
  rw [pair_toNat, hiByte_toNat, loByte_toNat]
  omega

@[simp] theorem hiByte_pair (a b : Byte) : hiByte (pair a b) = a := by
  have hb := b.isLt
  apply BitVec.eq_of_toNat_eq
  rw [hiByte_toNat, pair_toNat]
  omega

@[simp] theorem loByte_pair (a b : Byte) : loByte (pair a b) = b := by
  have hb := b.isLt
  apply BitVec.eq_of_toNat_eq
  rw [loByte_toNat, pair_toNat]
  omega

/-- The high page of R203. -/
theorem append_ff (n : Byte) : (0xFF#8 ++ n : Half) = BitVec.ofNat 16 (0xFF00 + n.toNat) := by
  have hn := n.isLt
  apply BitVec.eq_of_toNat_eq
  refine (pair_toNat 0xFF#8 n).trans ?_
  rw [show (0xFF#8).toNat = 255 from rfl, BitVec.toNat_ofNat _ 16]
  omega

end Sys2Proof.Machine
end

