-- ==== Sys2Proof/Tests/Slice0.lean ====
section
/-! SUPPORT. The model's own tests: decoding by words written out from the encodings, the refusals of WellFormed, vectors of
spec/95_test_vectors.md, and for every statement a witness that meets its hypotheses. -/

set_option maxRecDepth 20000

namespace Sys2Proof.Tests

open Sys2Proof.Machine

/-! Decoding, by words written out from the encodings of spec/opcode_table.json (R204, R205, R211, R220): the fields are
set apart in each word, with operand values that differ. -/

/-- The CPU-8 instruction at an opcode, followed by 0x34 and 0x12. -/
def at8 (op : Nat) : Option Instr :=
  match decode8 [BitVec.ofNat 8 op, 0x34#8, 0x12#8] with
  | .ok (i, _) => some i
  | .error _ => none

/-- R204: opcodes 0x00 to 0x3F. -/
theorem test_decode_cpu8_00 : (List.range 64).map (fun k => at8 (0x00 + k)) = List.map some [
    .nop, .ld_bc_nn 0x1234#16, .ld_bcm_a, .inc_bc, .inc_b, .dec_b, .ld_b_n 0x34#8, .rlca, .ld_nnm_sp 0x1234#16,
    .add_hl_bc, .ld_a_bcm, .dec_bc, .inc_c, .dec_c, .ld_c_n 0x34#8, .rrca, .stop 0x34#8, .ld_de_nn 0x1234#16,
    .ld_dem_a, .inc_de, .inc_d, .dec_d, .ld_d_n 0x34#8, .rla, .jr_e 0x34#8, .add_hl_de, .ld_a_dem, .dec_de, .inc_e,
    .dec_e, .ld_e_n 0x34#8, .rra, .jr_nz_e 0x34#8, .ld_hl_nn 0x1234#16, .ld_hli_a, .inc_hl, .inc_h, .dec_h,
    .ld_h_n 0x34#8, .daa, .jr_z_e 0x34#8, .add_hl_hl, .ld_a_hli, .dec_hl, .inc_l, .dec_l, .ld_l_n 0x34#8, .cpl,
    .jr_nc_e 0x34#8, .ld_sp_nn 0x1234#16, .ld_hld_a, .inc_sp, .inc_hlm, .dec_hlm, .ld_hlm_n 0x34#8, .scf,
    .jr_c_e 0x34#8, .add_hl_sp, .ld_a_hld, .dec_sp, .inc_a, .dec_a, .ld_a_n 0x34#8, .ccf] := by decide

/-- R204: opcodes 0x40 to 0x7F. -/
theorem test_decode_cpu8_40 : (List.range 64).map (fun k => at8 (0x40 + k)) = List.map some [
    .ld_b_b, .ld_b_c, .ld_b_d, .ld_b_e, .ld_b_h, .ld_b_l, .ld_b_hlm, .ld_b_a, .ld_c_b, .ld_c_c, .ld_c_d, .ld_c_e,
    .ld_c_h, .ld_c_l, .ld_c_hlm, .ld_c_a, .ld_d_b, .ld_d_c, .ld_d_d, .ld_d_e, .ld_d_h, .ld_d_l, .ld_d_hlm, .ld_d_a,
    .ld_e_b, .ld_e_c, .ld_e_d, .ld_e_e, .ld_e_h, .ld_e_l, .ld_e_hlm, .ld_e_a, .ld_h_b, .ld_h_c, .ld_h_d, .ld_h_e,
    .ld_h_h, .ld_h_l, .ld_h_hlm, .ld_h_a, .ld_l_b, .ld_l_c, .ld_l_d, .ld_l_e, .ld_l_h, .ld_l_l, .ld_l_hlm, .ld_l_a,
    .ld_hlm_b, .ld_hlm_c, .ld_hlm_d, .ld_hlm_e, .ld_hlm_h, .ld_hlm_l, .halt, .ld_hlm_a, .ld_a_b, .ld_a_c, .ld_a_d,
    .ld_a_e, .ld_a_h, .ld_a_l, .ld_a_hlm, .ld_a_a] := by decide

/-- R204: opcodes 0x80 to 0xBF. -/
theorem test_decode_cpu8_80 : (List.range 64).map (fun k => at8 (0x80 + k)) = List.map some [
    .add_a_b, .add_a_c, .add_a_d, .add_a_e, .add_a_h, .add_a_l, .add_a_hlm, .add_a_a, .adc_a_b, .adc_a_c, .adc_a_d,
    .adc_a_e, .adc_a_h, .adc_a_l, .adc_a_hlm, .adc_a_a, .sub_b, .sub_c, .sub_d, .sub_e, .sub_h, .sub_l, .sub_hlm,
    .sub_a, .sbc_a_b, .sbc_a_c, .sbc_a_d, .sbc_a_e, .sbc_a_h, .sbc_a_l, .sbc_a_hlm, .sbc_a_a, .and_b, .and_c,
    .and_d, .and_e, .and_h, .and_l, .and_hlm, .and_a, .xor_b, .xor_c, .xor_d, .xor_e, .xor_h, .xor_l, .xor_hlm,
    .xor_a, .or_b, .or_c, .or_d, .or_e, .or_h, .or_l, .or_hlm, .or_a, .cp_b, .cp_c, .cp_d, .cp_e, .cp_h, .cp_l,
    .cp_hlm, .cp_a] := by decide

/-- R204: opcodes 0xC0 to 0xFF, and the CB pair 0xCB 0x34. -/
theorem test_decode_cpu8_c0 : (List.range 64).map (fun k => at8 (0xC0 + k)) = List.map some [
    .ret_nz, .pop_bc, .jp_nz_nn 0x1234#16, .jp_nn 0x1234#16, .call_nz_nn 0x1234#16, .push_bc, .add_a_n 0x34#8,
    .rst_00h, .ret_z, .ret, .jp_z_nn 0x1234#16, .swap_h, .call_z_nn 0x1234#16, .call_nn 0x1234#16, .adc_a_n 0x34#8,
    .rst_08h, .ret_nc, .pop_de, .jp_nc_nn 0x1234#16, .illegal_d3, .call_nc_nn 0x1234#16, .push_de, .sub_n 0x34#8,
    .rst_10h, .ret_c, .reti, .jp_c_nn 0x1234#16, .illegal_db, .call_c_nn 0x1234#16, .illegal_dd, .sbc_a_n 0x34#8,
    .rst_18h, .ldh_nm_a 0x34#8, .pop_hl, .ld_cm_a, .illegal_e3, .illegal_e4, .push_hl, .and_n 0x34#8, .rst_20h,
    .add_sp_e 0x34#8, .jp_hl, .ld_nnm_a 0x1234#16, .illegal_eb, .illegal_ec, .illegal_ed, .xor_n 0x34#8, .rst_28h,
    .ldh_a_nm 0x34#8, .pop_af, .ld_a_cm, .di, .illegal_f4, .push_af, .or_n 0x34#8, .rst_30h, .ld_hl_sp_e 0x34#8,
    .ld_sp_hl, .ld_a_nnm 0x1234#16, .ei, .illegal_fc, .illegal_fd, .cp_n 0x34#8, .rst_38h] := by decide

/-- R205: CB codes 0x00 to 0x3F. -/
theorem test_decode_cb_00 : (List.range 64).map (fun k => decodeCb (0x00 + k)) = [
    .rlc_b, .rlc_c, .rlc_d, .rlc_e, .rlc_h, .rlc_l, .rlc_hlm, .rlc_a, .rrc_b, .rrc_c, .rrc_d, .rrc_e, .rrc_h,
    .rrc_l, .rrc_hlm, .rrc_a, .rl_b, .rl_c, .rl_d, .rl_e, .rl_h, .rl_l, .rl_hlm, .rl_a, .rr_b, .rr_c, .rr_d, .rr_e,
    .rr_h, .rr_l, .rr_hlm, .rr_a, .sla_b, .sla_c, .sla_d, .sla_e, .sla_h, .sla_l, .sla_hlm, .sla_a, .sra_b, .sra_c,
    .sra_d, .sra_e, .sra_h, .sra_l, .sra_hlm, .sra_a, .swap_b, .swap_c, .swap_d, .swap_e, .swap_h, .swap_l,
    .swap_hlm, .swap_a, .srl_b, .srl_c, .srl_d, .srl_e, .srl_h, .srl_l, .srl_hlm, .srl_a] := by decide

/-- R205: CB codes 0x40 to 0x7F. -/
theorem test_decode_cb_40 : (List.range 64).map (fun k => decodeCb (0x40 + k)) = [
    .bit_0_b, .bit_0_c, .bit_0_d, .bit_0_e, .bit_0_h, .bit_0_l, .bit_0_hlm, .bit_0_a, .bit_1_b, .bit_1_c, .bit_1_d,
    .bit_1_e, .bit_1_h, .bit_1_l, .bit_1_hlm, .bit_1_a, .bit_2_b, .bit_2_c, .bit_2_d, .bit_2_e, .bit_2_h, .bit_2_l,
    .bit_2_hlm, .bit_2_a, .bit_3_b, .bit_3_c, .bit_3_d, .bit_3_e, .bit_3_h, .bit_3_l, .bit_3_hlm, .bit_3_a,
    .bit_4_b, .bit_4_c, .bit_4_d, .bit_4_e, .bit_4_h, .bit_4_l, .bit_4_hlm, .bit_4_a, .bit_5_b, .bit_5_c, .bit_5_d,
    .bit_5_e, .bit_5_h, .bit_5_l, .bit_5_hlm, .bit_5_a, .bit_6_b, .bit_6_c, .bit_6_d, .bit_6_e, .bit_6_h, .bit_6_l,
    .bit_6_hlm, .bit_6_a, .bit_7_b, .bit_7_c, .bit_7_d, .bit_7_e, .bit_7_h, .bit_7_l, .bit_7_hlm, .bit_7_a] := by decide

/-- R205: CB codes 0x80 to 0xBF. -/
theorem test_decode_cb_80 : (List.range 64).map (fun k => decodeCb (0x80 + k)) = [
    .res_0_b, .res_0_c, .res_0_d, .res_0_e, .res_0_h, .res_0_l, .res_0_hlm, .res_0_a, .res_1_b, .res_1_c, .res_1_d,
    .res_1_e, .res_1_h, .res_1_l, .res_1_hlm, .res_1_a, .res_2_b, .res_2_c, .res_2_d, .res_2_e, .res_2_h, .res_2_l,
    .res_2_hlm, .res_2_a, .res_3_b, .res_3_c, .res_3_d, .res_3_e, .res_3_h, .res_3_l, .res_3_hlm, .res_3_a,
    .res_4_b, .res_4_c, .res_4_d, .res_4_e, .res_4_h, .res_4_l, .res_4_hlm, .res_4_a, .res_5_b, .res_5_c, .res_5_d,
    .res_5_e, .res_5_h, .res_5_l, .res_5_hlm, .res_5_a, .res_6_b, .res_6_c, .res_6_d, .res_6_e, .res_6_h, .res_6_l,
    .res_6_hlm, .res_6_a, .res_7_b, .res_7_c, .res_7_d, .res_7_e, .res_7_h, .res_7_l, .res_7_hlm, .res_7_a] := by decide

/-- R205: CB codes 0xC0 to 0xFF. -/
theorem test_decode_cb_c0 : (List.range 64).map (fun k => decodeCb (0xC0 + k)) = [
    .set_0_b, .set_0_c, .set_0_d, .set_0_e, .set_0_h, .set_0_l, .set_0_hlm, .set_0_a, .set_1_b, .set_1_c, .set_1_d,
    .set_1_e, .set_1_h, .set_1_l, .set_1_hlm, .set_1_a, .set_2_b, .set_2_c, .set_2_d, .set_2_e, .set_2_h, .set_2_l,
    .set_2_hlm, .set_2_a, .set_3_b, .set_3_c, .set_3_d, .set_3_e, .set_3_h, .set_3_l, .set_3_hlm, .set_3_a,
    .set_4_b, .set_4_c, .set_4_d, .set_4_e, .set_4_h, .set_4_l, .set_4_hlm, .set_4_a, .set_5_b, .set_5_c, .set_5_d,
    .set_5_e, .set_5_h, .set_5_l, .set_5_hlm, .set_5_a, .set_6_b, .set_6_c, .set_6_d, .set_6_e, .set_6_h, .set_6_l,
    .set_6_hlm, .set_6_a, .set_7_b, .set_7_c, .set_7_d, .set_7_e, .set_7_h, .set_7_l, .set_7_hlm, .set_7_a] := by decide

/-- R211, R212: ARM rows 1 to 18 of the table. -/
theorem test_decode_arm_1 : ∀ p ∈ ([
    (0b1111_1010000010110000110000001101, .armReservedCond 0xFA0B0C0D#32),
    (0b0010_000100101111111111110001_1001, .armBx { cond := .cs, rm := 9#4 }),
    (0b0110_0000000_1_0011_0110_0101_1001_1001,
      .armMul { cond := .vs, s := true, rd := 3#4, rn := 6#4, rs := 5#4, rm := 9#4 }),
    (0b1010_0000001_0_0011_0110_0101_1001_1001,
      .armMla { cond := .ge, s := false, rd := 3#4, rn := 6#4, rs := 5#4, rm := 9#4 }),
    (0b1110_0000100_1_0010_0111_0101_1001_1001,
      .armUmull { cond := .al, s := true, rdHi := 2#4, rdLo := 7#4, rs := 5#4, rm := 9#4 }),
    (0b0011_0000101_0_0010_0111_0101_1001_1001,
      .armUmlal { cond := .cc, s := false, rdHi := 2#4, rdLo := 7#4, rs := 5#4, rm := 9#4 }),
    (0b0111_0000110_1_0010_0111_0101_1001_1001,
      .armSmull { cond := .vc, s := true, rdHi := 2#4, rdLo := 7#4, rs := 5#4, rm := 9#4 }),
    (0b1011_0000111_0_0010_0111_0101_1001_1001,
      .armSmlal { cond := .lt, s := false, rdHi := 2#4, rdLo := 7#4, rs := 5#4, rm := 9#4 }),
    (0b0000_00010000_0110_0011_00001001_1001, .armSwp { cond := .eq, rn := 6#4, rd := 3#4, rm := 9#4 }),
    (0b0100_00010100_0110_0011_00001001_1001, .armSwpb { cond := .mi, rn := 6#4, rd := 3#4, rm := 9#4 }),
    (0b1000_000_1_0_0_0_0_0110_0011_00001011_1001,
      .armStrhReg { ix := { cond := .hi, pre := true, up := false, wb := false, rn := 6#4, rd := 3#4 }, rm := 9#4 }),
    (0b1100_000_0_0_1_0_0_0110_0011_1010_1011_0101,
      .armStrhImm { ix := { cond := .gt, pre := false, up := false, wb := false, rn := 6#4, rd := 3#4 }, hi := 10#4, lo := 5#4 }),
    (0b0001_000_0_1_0_1_1_0110_0011_00001011_1001,
      .armLdrhReg { ix := { cond := .ne, pre := false, up := true, wb := true, rn := 6#4, rd := 3#4 }, rm := 9#4 }),
    (0b0101_000_1_1_1_1_1_0110_0011_1010_1011_0101,
      .armLdrhImm { ix := { cond := .pl, pre := true, up := true, wb := true, rn := 6#4, rd := 3#4 }, hi := 10#4, lo := 5#4 }),
    (0b1001_000_1_1_0_1_1_0110_0011_00001101_1001,
      .armLdrsbReg { ix := { cond := .ls, pre := true, up := true, wb := true, rn := 6#4, rd := 3#4 }, rm := 9#4 }),
    (0b1101_000_0_0_1_1_1_0110_0011_1010_1101_0101,
      .armLdrsbImm { ix := { cond := .le, pre := false, up := false, wb := true, rn := 6#4, rd := 3#4 }, hi := 10#4, lo := 5#4 }),
    (0b0010_000_0_0_0_1_1_0110_0011_00001111_1001,
      .armLdrshReg { ix := { cond := .cs, pre := false, up := false, wb := true, rn := 6#4, rd := 3#4 }, rm := 9#4 }),
    (0b0110_000_1_0_1_0_1_0110_0011_1010_1111_0101,
      .armLdrshImm { ix := { cond := .vs, pre := true, up := false, wb := false, rn := 6#4, rd := 3#4 }, hi := 10#4, lo := 5#4 })] : List (Nat × Instr)), decodeArmWord p.1 = p.2 := by
  decide

/-- R211, R212: ARM rows 19 to 36 of the table. -/
theorem test_decode_arm_2 : ∀ p ∈ ([
    (0b1110_000_10_0_1_0_01001001_000011_0_1_1001, .armUndefStoreSignedReg 0xE12490D9#32),
    (0b1110_000_10_1_1_0_010010010010_11_0_1_1001, .armUndefStoreSignedImm 0xE16492D9#32),
    (0b1110_000_00100010100000000_1_00_1_0000, .armUndefMultiplySpace 0xE0450090#32),
    (0b0111_00010_1_001111_0011_000000000000, .armMrs { cond := .vc, spsr := true, rd := 3#4, sbz := 0#12 }),
    (0b1011_00010_1_10_1001_1111_00000000_1001,
      .armMsrReg { cond := .lt, spsr := true, fields := 9#4, sbz := 0#8, rm := 9#4 }),
    (0b0000_00110_0_10_1001_1111_1011_11000101,
      .armMsrImm { cond := .eq, spsr := false, fields := 9#4, op2 := { rot := 11#4, imm := 197#8 } }),
    (0b1110_00_0_10_01_0_01001001001001001001, .armUndefCompareNoS 0xE1249249#32),
    (0b1000_0010000_0_0110_0011_1011_11000101,
      .armAndImm { cond := .hi, s := false, rn := 6#4, rd := 3#4 } { rot := 11#4, imm := 197#8 }),
    (0b1100_0000000_1_0110_0011_10011_01_0_1001,
      .armAndShift { cond := .gt, s := true, rn := 6#4, rd := 3#4 } { amount := 19#5, kind := .lsr, rm := 9#4 }),
    (0b0001_0000000_0_0110_0011_0101_0_10_1_1001,
      .armAndRegShift { cond := .ne, s := false, rn := 6#4, rd := 3#4 } { rs := 5#4, kind := .asr, rm := 9#4 }),
    (0b0101_0010001_1_0110_0011_1011_11000101,
      .armEorImm { cond := .pl, s := true, rn := 6#4, rd := 3#4 } { rot := 11#4, imm := 197#8 }),
    (0b1001_0000001_0_0110_0011_10011_11_0_1001,
      .armEorShift { cond := .ls, s := false, rn := 6#4, rd := 3#4 } { amount := 19#5, kind := .ror, rm := 9#4 }),
    (0b1101_0000001_1_0110_0011_0101_0_11_1_1001,
      .armEorRegShift { cond := .le, s := true, rn := 6#4, rd := 3#4 } { rs := 5#4, kind := .ror, rm := 9#4 }),
    (0b0010_0010010_0_0110_0011_1011_11000101,
      .armSubImm { cond := .cs, s := false, rn := 6#4, rd := 3#4 } { rot := 11#4, imm := 197#8 }),
    (0b0110_0000010_1_0110_0011_10011_00_0_1001,
      .armSubShift { cond := .vs, s := true, rn := 6#4, rd := 3#4 } { amount := 19#5, kind := .lsl, rm := 9#4 }),
    (0b1010_0000010_0_0110_0011_0101_0_01_1_1001,
      .armSubRegShift { cond := .ge, s := false, rn := 6#4, rd := 3#4 } { rs := 5#4, kind := .lsr, rm := 9#4 }),
    (0b1110_0010011_1_0110_0011_1011_11000101,
      .armRsbImm { cond := .al, s := true, rn := 6#4, rd := 3#4 } { rot := 11#4, imm := 197#8 }),
    (0b0011_0000011_0_0110_0011_10011_10_0_1001,
      .armRsbShift { cond := .cc, s := false, rn := 6#4, rd := 3#4 } { amount := 19#5, kind := .asr, rm := 9#4 })] : List (Nat × Instr)), decodeArmWord p.1 = p.2 := by
  decide

/-- R211, R212: ARM rows 37 to 54 of the table. -/
theorem test_decode_arm_3 : ∀ p ∈ ([
    (0b0111_0000011_1_0110_0011_0101_0_10_1_1001,
      .armRsbRegShift { cond := .vc, s := true, rn := 6#4, rd := 3#4 } { rs := 5#4, kind := .asr, rm := 9#4 }),
    (0b1011_0010100_0_0110_0011_1011_11000101,
      .armAddImm { cond := .lt, s := false, rn := 6#4, rd := 3#4 } { rot := 11#4, imm := 197#8 }),
    (0b0000_0000100_1_0110_0011_10011_11_0_1001,
      .armAddShift { cond := .eq, s := true, rn := 6#4, rd := 3#4 } { amount := 19#5, kind := .ror, rm := 9#4 }),
    (0b0100_0000100_0_0110_0011_0101_0_00_1_1001,
      .armAddRegShift { cond := .mi, s := false, rn := 6#4, rd := 3#4 } { rs := 5#4, kind := .lsl, rm := 9#4 }),
    (0b1000_0010101_1_0110_0011_1011_11000101,
      .armAdcImm { cond := .hi, s := true, rn := 6#4, rd := 3#4 } { rot := 11#4, imm := 197#8 }),
    (0b1100_0000101_0_0110_0011_10011_01_0_1001,
      .armAdcShift { cond := .gt, s := false, rn := 6#4, rd := 3#4 } { amount := 19#5, kind := .lsr, rm := 9#4 }),
    (0b0001_0000101_1_0110_0011_0101_0_01_1_1001,
      .armAdcRegShift { cond := .ne, s := true, rn := 6#4, rd := 3#4 } { rs := 5#4, kind := .lsr, rm := 9#4 }),
    (0b0101_0010110_0_0110_0011_1011_11000101,
      .armSbcImm { cond := .pl, s := false, rn := 6#4, rd := 3#4 } { rot := 11#4, imm := 197#8 }),
    (0b1001_0000110_1_0110_0011_10011_10_0_1001,
      .armSbcShift { cond := .ls, s := true, rn := 6#4, rd := 3#4 } { amount := 19#5, kind := .asr, rm := 9#4 }),
    (0b1101_0000110_0_0110_0011_0101_0_11_1_1001,
      .armSbcRegShift { cond := .le, s := false, rn := 6#4, rd := 3#4 } { rs := 5#4, kind := .ror, rm := 9#4 }),
    (0b0010_0010111_1_0110_0011_1011_11000101,
      .armRscImm { cond := .cs, s := true, rn := 6#4, rd := 3#4 } { rot := 11#4, imm := 197#8 }),
    (0b0110_0000111_0_0110_0011_10011_00_0_1001,
      .armRscShift { cond := .vs, s := false, rn := 6#4, rd := 3#4 } { amount := 19#5, kind := .lsl, rm := 9#4 }),
    (0b1010_0000111_1_0110_0011_0101_0_00_1_1001,
      .armRscRegShift { cond := .ge, s := true, rn := 6#4, rd := 3#4 } { rs := 5#4, kind := .lsl, rm := 9#4 }),
    (0b1110_00110001_0110_0011_1011_11000101,
      .armTstImm { cond := .al, rn := 6#4, rd := 3#4 } { rot := 11#4, imm := 197#8 }),
    (0b0011_00010001_0110_0011_10011_01_0_1001,
      .armTstShift { cond := .cc, rn := 6#4, rd := 3#4 } { amount := 19#5, kind := .lsr, rm := 9#4 }),
    (0b0111_00010001_0110_0011_0101_0_10_1_1001,
      .armTstRegShift { cond := .vc, rn := 6#4, rd := 3#4 } { rs := 5#4, kind := .asr, rm := 9#4 }),
    (0b1011_00110011_0110_0011_1011_11000101,
      .armTeqImm { cond := .lt, rn := 6#4, rd := 3#4 } { rot := 11#4, imm := 197#8 }),
    (0b0000_00010011_0110_0011_10011_11_0_1001,
      .armTeqShift { cond := .eq, rn := 6#4, rd := 3#4 } { amount := 19#5, kind := .ror, rm := 9#4 })] : List (Nat × Instr)), decodeArmWord p.1 = p.2 := by
  decide

/-- R211, R212: ARM rows 55 to 72 of the table. -/
theorem test_decode_arm_4 : ∀ p ∈ ([
    (0b0100_00010011_0110_0011_0101_0_11_1_1001,
      .armTeqRegShift { cond := .mi, rn := 6#4, rd := 3#4 } { rs := 5#4, kind := .ror, rm := 9#4 }),
    (0b1000_00110101_0110_0011_1011_11000101,
      .armCmpImm { cond := .hi, rn := 6#4, rd := 3#4 } { rot := 11#4, imm := 197#8 }),
    (0b1100_00010101_0110_0011_10011_00_0_1001,
      .armCmpShift { cond := .gt, rn := 6#4, rd := 3#4 } { amount := 19#5, kind := .lsl, rm := 9#4 }),
    (0b0001_00010101_0110_0011_0101_0_01_1_1001,
      .armCmpRegShift { cond := .ne, rn := 6#4, rd := 3#4 } { rs := 5#4, kind := .lsr, rm := 9#4 }),
    (0b0101_00110111_0110_0011_1011_11000101,
      .armCmnImm { cond := .pl, rn := 6#4, rd := 3#4 } { rot := 11#4, imm := 197#8 }),
    (0b1001_00010111_0110_0011_10011_10_0_1001,
      .armCmnShift { cond := .ls, rn := 6#4, rd := 3#4 } { amount := 19#5, kind := .asr, rm := 9#4 }),
    (0b1101_00010111_0110_0011_0101_0_10_1_1001,
      .armCmnRegShift { cond := .le, rn := 6#4, rd := 3#4 } { rs := 5#4, kind := .asr, rm := 9#4 }),
    (0b0010_0011100_0_0110_0011_1011_11000101,
      .armOrrImm { cond := .cs, s := false, rn := 6#4, rd := 3#4 } { rot := 11#4, imm := 197#8 }),
    (0b0110_0001100_1_0110_0011_10011_11_0_1001,
      .armOrrShift { cond := .vs, s := true, rn := 6#4, rd := 3#4 } { amount := 19#5, kind := .ror, rm := 9#4 }),
    (0b1010_0001100_0_0110_0011_0101_0_00_1_1001,
      .armOrrRegShift { cond := .ge, s := false, rn := 6#4, rd := 3#4 } { rs := 5#4, kind := .lsl, rm := 9#4 }),
    (0b1110_0011101_1_0110_0011_1011_11000101,
      .armMovImm { cond := .al, s := true, rn := 6#4, rd := 3#4 } { rot := 11#4, imm := 197#8 }),
    (0b0011_0001101_0_0110_0011_10011_01_0_1001,
      .armMovShift { cond := .cc, s := false, rn := 6#4, rd := 3#4 } { amount := 19#5, kind := .lsr, rm := 9#4 }),
    (0b0111_0001101_1_0110_0011_0101_0_01_1_1001,
      .armMovRegShift { cond := .vc, s := true, rn := 6#4, rd := 3#4 } { rs := 5#4, kind := .lsr, rm := 9#4 }),
    (0b1011_0011110_0_0110_0011_1011_11000101,
      .armBicImm { cond := .lt, s := false, rn := 6#4, rd := 3#4 } { rot := 11#4, imm := 197#8 }),
    (0b0000_0001110_1_0110_0011_10011_10_0_1001,
      .armBicShift { cond := .eq, s := true, rn := 6#4, rd := 3#4 } { amount := 19#5, kind := .asr, rm := 9#4 }),
    (0b0100_0001110_0_0110_0011_0101_0_11_1_1001,
      .armBicRegShift { cond := .mi, s := false, rn := 6#4, rd := 3#4 } { rs := 5#4, kind := .ror, rm := 9#4 }),
    (0b1000_0011111_1_0110_0011_1011_11000101,
      .armMvnImm { cond := .hi, s := true, rn := 6#4, rd := 3#4 } { rot := 11#4, imm := 197#8 }),
    (0b1100_0001111_0_0110_0011_10011_00_0_1001,
      .armMvnShift { cond := .gt, s := false, rn := 6#4, rd := 3#4 } { amount := 19#5, kind := .lsl, rm := 9#4 })] : List (Nat × Instr)), decodeArmWord p.1 = p.2 := by
  decide

/-- R211, R212: ARM rows 73 to 89 of the table. -/
theorem test_decode_arm_5 : ∀ p ∈ ([
    (0b0001_0001111_1_0110_0011_0101_0_00_1_1001,
      .armMvnRegShift { cond := .ne, s := true, rn := 6#4, rd := 3#4 } { rs := 5#4, kind := .lsl, rm := 9#4 }),
    (0b1110_011_10010010010010010010_1_1001, .armUndefSpace 0xE7249259#32),
    (0b1001_010_1_1_0_1_0_0110_0011_101001010011,
      .armStrImm { ix := { cond := .ls, pre := true, up := true, wb := true, rn := 6#4, rd := 3#4 }, offset := 2643#12 }),
    (0b1101_011_0_0_0_1_0_0110_0011_10011_10_0_1001,
      .armStrReg { ix := { cond := .le, pre := false, up := false, wb := true, rn := 6#4, rd := 3#4 }, op2 := { amount := 19#5, kind := .asr, rm := 9#4 } }),
    (0b0010_010_0_0_0_1_1_0110_0011_101001010011,
      .armLdrImm { ix := { cond := .cs, pre := false, up := false, wb := true, rn := 6#4, rd := 3#4 }, offset := 2643#12 }),
    (0b0110_011_1_0_0_0_1_0110_0011_10011_11_0_1001,
      .armLdrReg { ix := { cond := .vs, pre := true, up := false, wb := false, rn := 6#4, rd := 3#4 }, op2 := { amount := 19#5, kind := .ror, rm := 9#4 } }),
    (0b1010_010_1_1_1_0_0_0110_0011_101001010011,
      .armStrbImm { ix := { cond := .ge, pre := true, up := true, wb := false, rn := 6#4, rd := 3#4 }, offset := 2643#12 }),
    (0b1110_011_0_1_1_0_0_0110_0011_10011_00_0_1001,
      .armStrbReg { ix := { cond := .al, pre := false, up := true, wb := false, rn := 6#4, rd := 3#4 }, op2 := { amount := 19#5, kind := .lsl, rm := 9#4 } }),
    (0b0011_010_0_1_1_0_1_0110_0011_101001010011,
      .armLdrbImm { ix := { cond := .cc, pre := false, up := true, wb := false, rn := 6#4, rd := 3#4 }, offset := 2643#12 }),
    (0b0111_011_1_0_1_0_1_0110_0011_10011_01_0_1001,
      .armLdrbReg { ix := { cond := .vc, pre := true, up := false, wb := false, rn := 6#4, rd := 3#4 }, op2 := { amount := 19#5, kind := .lsr, rm := 9#4 } }),
    (0b1011_100_1_0_1_1_0_0110_1000000000110101,
      .armStm { cond := .lt, pre := true, up := false, s := true, wb := true, rn := 6#4, list := 0x8035#16 }),
    (0b0000_100_0_0_0_1_1_0110_1000000000110101,
      .armLdm { cond := .eq, pre := false, up := false, s := false, wb := true, rn := 6#4, list := 0x8035#16 }),
    (0b0100_1010_111111101101110010111010, .armB { cond := .mi, offset := 0xFEDCBA#24 }),
    (0b1000_1011_111111101101110010111010, .armBl { cond := .hi, offset := 0xFEDCBA#24 }),
    (0b1110_110_1001001001001001001001001, .armLdcStc 0xED249249#32),
    (0b1110_1110_001001001001001001001001, .armCdpMrcMcr 0xEE249249#32),
    (0b0101_1111_000100100011010001010110, .armSwi { cond := .pl, comment := 0x123456#24 })] : List (Nat × Instr)), decodeArmWord p.1 = p.2 := by
  decide

/-- R220, R222: THUMB rows 1 to 23 of the table. -/
theorem test_decode_thumb_1 : ∀ p ∈ ([
    (0b00000_10110_101_011, .thumbLslImm 3#3 5#3 22#5),
    (0b00001_10110_101_011, .thumbLsrImm 3#3 5#3 22#5),
    (0b00010_10110_101_011, .thumbAsrImm 3#3 5#3 22#5),
    (0b0001100_110_101_011, .thumbAddReg 3#3 5#3 6#3),
    (0b0001101_110_101_011, .thumbSubReg 3#3 5#3 6#3),
    (0b0001110_110_101_011, .thumbAddImm3 3#3 5#3 6#3),
    (0b0001111_110_101_011, .thumbSubImm3 3#3 5#3 6#3),
    (0b00100_011_11000101, .thumbMovImm 3#3 197#8),
    (0b00101_011_11000101, .thumbCmpImm 3#3 197#8),
    (0b00110_011_11000101, .thumbAddImm8 3#3 197#8),
    (0b00111_011_11000101, .thumbSubImm8 3#3 197#8),
    (0b0100000000_101_011, .thumbAnd 3#3 5#3),
    (0b0100000001_101_011, .thumbEor 3#3 5#3),
    (0b0100000010_101_011, .thumbLsl 3#3 5#3),
    (0b0100000011_101_011, .thumbLsr 3#3 5#3),
    (0b0100000100_101_011, .thumbAsr 3#3 5#3),
    (0b0100000101_101_011, .thumbAdc 3#3 5#3),
    (0b0100000110_101_011, .thumbSbc 3#3 5#3),
    (0b0100000111_101_011, .thumbRor 3#3 5#3),
    (0b0100001000_101_011, .thumbTst 3#3 5#3),
    (0b0100001001_101_011, .thumbNeg 3#3 5#3),
    (0b0100001010_101_011, .thumbCmp 3#3 5#3),
    (0b0100001011_101_011, .thumbCmn 3#3 5#3)] : List (Nat × Instr)), decodeThumbWord p.1 = p.2 := by decide

/-- R220, R222: THUMB rows 24 to 46 of the table. -/
theorem test_decode_thumb_2 : ∀ p ∈ ([
    (0b0100001100_101_011, .thumbOrr 3#3 5#3),
    (0b0100001101_101_011, .thumbMul 3#3 5#3),
    (0b0100001110_101_011, .thumbBic 3#3 5#3),
    (0b0100001111_101_011, .thumbMvn 3#3 5#3),
    (0b01000100_1_1_101_011, .thumbAddHi 11#4 13#4),
    (0b01000101_1_0_101_011, .thumbCmpHi 11#4 5#4),
    (0b01000110_1_1_101_011, .thumbMovHi 11#4 13#4),
    (0b010001110_0_101_000, .thumbBx 5#4),
    (0b010001111_1001001, .thumbUndefBlx 0x47C9#16),
    (0b01001_011_11000101, .thumbLdrPc 3#3 197#8),
    (0b0101000_110_001_011, .thumbStrReg 3#3 1#3 6#3),
    (0b0101010_110_001_011, .thumbStrbReg 3#3 1#3 6#3),
    (0b0101100_110_001_011, .thumbLdrReg 3#3 1#3 6#3),
    (0b0101110_110_001_011, .thumbLdrbReg 3#3 1#3 6#3),
    (0b0101001_110_001_011, .thumbStrhReg 3#3 1#3 6#3),
    (0b0101011_110_001_011, .thumbLdsbReg 3#3 1#3 6#3),
    (0b0101101_110_001_011, .thumbLdrhReg 3#3 1#3 6#3),
    (0b0101111_110_001_011, .thumbLdshReg 3#3 1#3 6#3),
    (0b01100_10110_001_011, .thumbStrImm 3#3 1#3 22#5),
    (0b01101_10110_001_011, .thumbLdrImm 3#3 1#3 22#5),
    (0b01110_10110_001_011, .thumbStrbImm 3#3 1#3 22#5),
    (0b01111_10110_001_011, .thumbLdrbImm 3#3 1#3 22#5),
    (0b10000_10110_001_011, .thumbStrhImm 3#3 1#3 22#5)] : List (Nat × Instr)), decodeThumbWord p.1 = p.2 := by decide

/-- R220, R222: THUMB rows 47 to 68 of the table. -/
theorem test_decode_thumb_3 : ∀ p ∈ ([
    (0b10001_10110_001_011, .thumbLdrhImm 3#3 1#3 22#5),
    (0b10010_011_11000101, .thumbStrSp 3#3 197#8),
    (0b10011_011_11000101, .thumbLdrSp 3#3 197#8),
    (0b10100_011_11000101, .thumbAddPc 3#3 197#8),
    (0b10101_011_11000101, .thumbAddSp 3#3 197#8),
    (0b10110000_1_1011001, .thumbAdjustSp true 89#7),
    (0b1011010_1_10100110, .thumbPush true 0xA6#8),
    (0b1011110_1_10100110, .thumbPop true 0xA6#8),
    (0b10110001_01001001, .thumbUndefB1 0xB149#16),
    (0b1011001_001001001, .thumbUndefB2 0xB249#16),
    (0b1011011_001001001, .thumbUndefB6 0xB649#16),
    (0b101110_1001001001, .thumbUndefB8 0xBA49#16),
    (0b1011111_001001001, .thumbUndefBE 0xBE49#16),
    (0b11000_001_10100110, .thumbStmia 1#3 0xA6#8),
    (0b11001_001_10100110, .thumbLdmia 1#3 0xA6#8),
    (0b11011110_01001001, .thumbUndefCond14 0xDE49#16),
    (0b11011111_11000101, .thumbSwi 197#8),
    (0b1101_1010_10100111, .thumbBCond .ge 0xA7#8),
    (0b11100_10110100011, .thumbB 0x5A3#11),
    (0b11101_01001001001, .thumbUndefE8 0xEA49#16),
    (0b11110_10011001001, .thumbBlHi 0x4C9#11),
    (0b11111_11010110101, .thumbBlLo 0x6B5#11)] : List (Nat × Instr)), decodeThumbWord p.1 = p.2 := by decide

/-! WellFormed: for each check a term that it refuses, by name. The words are taken from a neighbouring space of R212 or
R222, or from an earlier row. -/

theorem test_wf_prefix : (Instr.cbPrefix 0#8).illFormed = some .prefixHasItsOwnTable := by decide
theorem test_wf_thumb_cond : (Instr.thumbBCond .al 0#8).illFormed = some .conditionNotEncodable := by decide

/-- A data-processing word (MOV R0,#1) and a BX word are in no undefined space; condition 0xF takes every word first. -/
theorem test_wf_arm_words : ∀ i ∈ [Instr.armReservedCond 0xE3A00001#32, .armUndefStoreSignedReg 0xE3A00001#32,
    .armUndefStoreSignedReg 0xF00000D0#32, .armUndefStoreSignedImm 0xE00000D0#32, .armUndefMultiplySpace 0xE0000090#32,
    .armUndefMultiplySpace 0xF0400090#32, .armUndefCompareNoS 0xE1500000#32, .armUndefCompareNoS 0xE12FFF10#32,
    .armUndefSpace 0xE6000000#32, .armUndefSpace 0xF6000010#32, .armLdcStc 0xEE000010#32, .armLdcStc 0xFC000000#32,
    .armCdpMrcMcr 0xEF000000#32, .armCdpMrcMcr 0xFE000010#32], i.illFormed = some .wordOutsideItsSpace := by decide

theorem test_wf_thumb_words : ∀ i ∈ [Instr.thumbUndefBlx 0x4700#16, .thumbUndefB1 0xB000#16, .thumbUndefB2 0xB400#16,
    .thumbUndefB6 0xB400#16, .thumbUndefB8 0xBC00#16, .thumbUndefBE 0xBC00#16, .thumbUndefCond14 0xDF00#16,
    .thumbUndefE8 0xE000#16], i.illFormed = some .wordOutsideItsSpace := by decide

/-- MRS with bits 7 and 4 set is a word of R212 rows 3 to 8. -/
theorem test_wf_mrs : (Instr.armMrs { cond := .al, spsr := false, rd := 0#4, sbz := 0x090#12 }).illFormed =
    some .wordOutsideItsSpace := by decide

/-- MSR with bits 7 and 4 set is such a word too, and with its fields and SBZ all ones it is BX. -/
theorem test_wf_msr : ∀ o ∈ [({ cond := .al, spsr := false, fields := 9#4, sbz := 0x09#8, rm := 0#4 } : MsrRegOps),
    { cond := .al, spsr := false, fields := 0xF#4, sbz := 0xF1#8, rm := 0#4 }],
    (Instr.armMsrReg o).illFormed = some .wordOutsideItsSpace := by decide

/-- And one term of each of these constructors that is an instruction. -/
theorem test_wf_accepts : ∀ i ∈ [Instr.armReservedCond 0xF3A00001#32, .armUndefStoreSignedReg 0xE10100F2#32,
    .armUndefStoreSignedImm 0xE1C100F0#32, .armUndefMultiplySpace 0xE0400090#32, .armUndefCompareNoS 0xE1400000#32,
    .armUndefSpace 0xE6000010#32, .armLdcStc 0xEC000000#32, .armCdpMrcMcr 0xEE000010#32, .thumbUndefBlx 0x4780#16,
    .thumbUndefB1 0xB100#16, .thumbUndefB2 0xB200#16, .thumbUndefB6 0xB600#16, .thumbUndefB8 0xB800#16,
    .thumbUndefBE 0xBE00#16, .thumbUndefCond14 0xDE00#16, .thumbUndefE8 0xE800#16, .thumbBCond .le 0#8,
    .armMrs { cond := .al, spsr := false, rd := 0#4, sbz := 0#12 },
    .armMsrReg { cond := .al, spsr := false, fields := 9#4, sbz := 0#8, rm := 0#4 }], WellFormed i = true := by decide

/-! Vectors of spec/95_test_vectors.md, one step each; the section stands beside each group. -/

/-- Reset with these changes, PC at 0xC000 and the bytes there. -/
def ready8 (f : Cpu8 → Cpu8) (bytes : List Byte) : State :=
  prepare8 bytes (on8 (fun c => f { c with pc := 0xC000#16 }) State.reset)

/-- One CPU-8 step: a view of the CPU-8 half, and the cycles. -/
def out8 {α : Type} (view : Cpu8 → α) (f : Cpu8 → Cpu8) (bytes : List Byte) : Option (α × Nat) :=
  match step (ready8 f bytes) with
  | .next t => some (view t.cpu8, t.cycles)
  | .fault _ => none
  | .refused _ => none

/-- A byte of CPU-8 memory. -/
def put8 (k v : Nat) (c : Cpu8) : Cpu8 := { c with mem := Memory.write c.mem k (BitVec.ofNat 8 v) }

def at8m (k : Nat) (c : Cpu8) : Byte := Memory.read c.mem k

def af (c : Cpu8) : Byte × Byte := (c.a, c.f)

/-- The fault a step ends in. -/
def faultOf (r : Res) : Option Fault :=
  match r with
  | .next _ => none
  | .fault f => some f
  | .refused _ => none

/-! 3.1. -/

theorem test_ld_r_r : out8 (·.a) (fun c => { c with b := 0x3C }) [0x78] = some (0x3C, 4) := by decide
theorem test_ld_r_hlm : out8 (·.a) (fun c => put8 0xC100 0x5A { c with h := 0xC1, l := 0 }) [0x7E] =
    some (0x5A, 8) := by decide
theorem test_ld_hli_a : out8 (fun c => (c.h, c.l, at8m 0xC1FF c)) (fun c => { c with h := 0xC1, l := 0xFF }) [0x22] =
    some ((0xC2, 0x00, 0x01), 8) := by decide
theorem test_ldh_nm_a : out8 (at8m 0xFF80) (fun c => { c with a := 0x77 }) [0xE0, 0x80] = some (0x77, 12) := by decide
theorem test_ld_nnm_sp : out8 (fun c => (at8m 0xC300 c, at8m 0xC301 c)) (fun c => { c with sp := 0xFFF8 })
    [0x08, 0x00, 0xC3] = some ((0xF8, 0xFF), 20) := by decide
/-- WRAM bank 1 stands at 0x10000 + its bus address. -/
theorem test_push_bc : out8 (fun c => (c.sp, at8m 0x1DFEF c, at8m 0x1DFEE c))
    (fun c => { c with sp := 0xDFF0, b := 0x12, c := 0x34 }) [0xC5] = some ((0xDFEE, 0x12, 0x34), 16) := by decide
theorem test_pop_af : out8 (fun c => (af c, c.sp)) (fun c => put8 0xC101 0xFF (put8 0xC100 0xFF { c with sp := 0xC100 }))
    [0xF1] = some (((0xFF, 0xF0), 0xC102), 12) := by decide
theorem test_ld_hl_sp_e : out8 (fun c => (c.f, c.h, c.l)) (fun c => { c with sp := 0x00FF }) [0xF8, 0xFF] =
    some ((0x30, 0x00, 0xFE), 12) := by decide

/-! 3.2. -/

theorem test_add_a_b : out8 af (fun c => { c with a := 0x3A, b := 0xC6, f := 0 }) [0x80] = some ((0x00, 0xB0), 4) := by
  decide
theorem test_adc_a_n : out8 af (fun c => { c with a := 0x0F, f := 0x10 }) [0xCE, 0xF0] = some ((0x00, 0xB0), 8) := by
  decide
theorem test_sub_n : out8 af (fun c => { c with a := 0x3E, f := 0 }) [0xD6, 0x0F] = some ((0x2F, 0x60), 8) := by decide
theorem test_sbc_a_n : out8 af (fun c => { c with a := 0x00, f := 0x10 }) [0xDE, 0x00] = some ((0xFF, 0x70), 8) := by
  decide
theorem test_and_l : out8 af (fun c => { c with a := 0x5A, l := 0x3F }) [0xA5] = some ((0x1A, 0x20), 4) := by decide
theorem test_cp_n : out8 af (fun c => { c with a := 0x3C, f := 0 }) [0xFE, 0x40] = some ((0x3C, 0x50), 8) := by decide
theorem test_inc_a : out8 af (fun c => { c with a := 0xFF, f := 0x10 }) [0x3C] = some ((0x00, 0xB0), 4) := by decide
theorem test_dec_b : out8 (fun c => (c.b, c.f)) (fun c => { c with b := 0x10, f := 0 }) [0x05] =
    some ((0x0F, 0x60), 4) := by decide
theorem test_add_hl_bc : out8 (fun c => (c.h, c.l, c.f))
    (fun c => { c with h := 0x8A, l := 0x23, b := 0x06, c := 0x05, f := 0x80 }) [0x09] =
    some ((0x90, 0x28, 0xA0), 8) := by decide
theorem test_add_sp_e : out8 (fun c => (c.sp, c.f)) (fun c => { c with sp := 0xD001, f := 0 }) [0xE8, 0xFF] =
    some ((0xD000, 0x30), 16) := by decide
theorem test_daa_add : out8 af (fun c => { c with a := 0x9A, f := 0 }) [0x27] = some ((0x00, 0x90), 4) := by decide
theorem test_daa_sub : out8 af (fun c => { c with a := 0x00, f := 0x70 }) [0x27] = some ((0x9A, 0x50), 4) := by decide
theorem test_cpl : out8 af (fun c => { c with a := 0x35, f := 0x80 }) [0x2F] = some ((0xCA, 0xE0), 4) := by decide
theorem test_ccf : out8 (·.f) (fun c => { c with f := 0x90 }) [0x3F] = some (0x80, 4) := by decide
theorem test_rla : out8 af (fun c => { c with a := 0x80, f := 0 }) [0x17] = some ((0x00, 0x10), 4) := by decide

/-! 3.3. -/

theorem test_rl_d : out8 (fun c => (c.d, c.f)) (fun c => { c with d := 0x80, f := 0 }) [0xCB, 0x12] =
    some ((0x00, 0x90), 8) := by decide
theorem test_rr_e : out8 (·.e) (fun c => { c with e := 0x01, f := 0x10 }) [0xCB, 0x1B] = some (0x80, 8) := by decide
theorem test_sra_a : out8 af (fun c => { c with a := 0x81, f := 0 }) [0xCB, 0x2F] = some ((0xC0, 0x10), 8) := by decide
theorem test_swap_a : out8 af (fun c => { c with a := 0xF0, f := 0x10 }) [0xCB, 0x37] = some ((0x0F, 0x00), 8) := by
  decide
theorem test_rlc_hlm : out8 (fun c => (c.f, at8m 0xC100 c)) (fun c => put8 0xC100 0x80 { c with h := 0xC1, l := 0, f := 0 })
    [0xCB, 0x06] = some ((0x10, 0x01), 16) := by decide
theorem test_bit_0_hlm : out8 (·.f) (fun c => put8 0xC100 0xFE { c with h := 0xC1, l := 0, f := 0 }) [0xCB, 0x46] =
    some (0xA0, 12) := by decide
theorem test_set_7_hlm : out8 (at8m 0xC100) (fun c => { c with h := 0xC1, l := 0 }) [0xCB, 0xFE] = some (0x80, 16) := by
  decide

/-! 3.4, 3.5. -/

theorem test_jr_e_back : out8 (·.pc) id [0x18, 0xFE] = some (0xC000, 12) := by decide
theorem test_jr_c_taken : out8 (·.pc) (fun c => { c with f := 0x10 }) [0x38, 0x80] = some (0xBF82, 12) := by decide
theorem test_jp_nz_not_taken : out8 (·.pc) (fun c => { c with f := 0x80 }) [0xC2, 0x00, 0xD0] = some (0xC003, 12) := by
  decide
theorem test_call_nn : out8 (fun c => (c.pc, c.sp, at8m 0x1DFEF c, at8m 0x1DFEE c)) (fun c => { c with sp := 0xDFF0 })
    [0xCD, 0x00, 0xD0] = some ((0xD000, 0xDFEE, 0xC0, 0x03), 24) := by decide
theorem test_ret : out8 (fun c => (c.pc, c.sp)) (fun c => put8 0x1DFEF 0xC0 (put8 0x1DFEE 0x03 { c with sp := 0xDFEE }))
    [0xC9] = some ((0xC003, 0xDFF0), 16) := by decide
theorem test_reti : out8 (fun c => (c.pc, c.ime)) (fun c => put8 0x1DFEF 0xC0 (put8 0x1DFEE 0x03 { c with sp := 0xDFEE }))
    [0xD9] = some ((0xC003, true), 16) := by decide
theorem test_rst_28 : out8 (fun c => (c.pc, at8m 0x1DFEF c, at8m 0x1DFEE c)) (fun c => { c with sp := 0xDFF0 }) [0xEF] =
    some ((0x0028, 0xC0, 0x01), 16) := by decide
theorem test_illegal_fd : faultOf (step (ready8 id [0xFD])) = some (.undefinedOpcode 0xFD 0xC000) := by decide
theorem test_stop : out8 (fun c => (c.pc, c.stopped)) id [0x10, 0x00] = some ((0xC002, true), 4) := by decide

/-- HALT with IME = 1: wake and dispatch in one step. -/
theorem test_halt_dispatch :
    (match step (on8 (fun c => { c with pc := 0xC001, sp := 0xDFF0, ie := 0x04, iflag := 0x04, ime := true
                                        halted := true }) State.reset) with
    | .next t => some (t.cpu8.pc, t.cpu8.iflag, t.cpu8.ime, at8m 0x1DFEF t.cpu8, at8m 0x1DFEE t.cpu8, t.cycles)
    | .fault _ => none
    | .refused _ => none) = some (0x0050, 0, false, 0xC0, 0x01, 20) := by decide

/-- HALT with IME = 0: wake without vectoring, and the NOP runs in the same step. -/
theorem test_halt_wake :
    (match step (on8 (fun c => { c with pc := 0xC001, ie := 0x04, iflag := 0x04, halted := true }) State.reset) with
    | .next t => some (t.cpu8.pc, t.cpu8.iflag, t.cpu8.halted, t.cycles)
    | .fault _ => none
    | .refused _ => none) = some (0xC002, 0x04, false, 4) := by decide

/-! 3.6. -/

/-- The timer half at these values. -/
def timer8 (div16 : Half) (tac : BitVec 3) (tima tma : Byte) : Cpu8 :=
  { State.reset.cpu8 with div16 := div16, tac := tac, tima := tima, tma := tma }

def timerView (c : Cpu8) : Half × Byte × BitVec 5 := (c.div16, c.tima, c.iflag)

theorem test_timer8_15 : timerView (Cpu8.advance 15 (timer8 0xAB00 5 0 0)) = (0xAB0F, 0x00, 0) := by decide
theorem test_timer8_16 : timerView (Cpu8.advance 16 (timer8 0xAB00 5 0 0)) = (0xAB10, 0x01, 0) := by decide
theorem test_timer8_reload : timerView (Cpu8.advance 16 (timer8 0xAB00 5 0xFF 0x40)) = (0xAB10, 0x40, 4) := by decide
theorem test_timer8_48 : timerView (Cpu8.advance 48 (timer8 0x0000 5 0xFE 0x10)) = (0x0030, 0x11, 4) := by decide
theorem test_timer8_off : timerView (Cpu8.advance 64 (timer8 0xAB00 1 0 0)) = (0xAB40, 0x00, 0) := by decide

/-! 4.1. -/

/-- Row 8: the OAM copy, by the last of its bytes. -/
theorem test_oam_dma : out8 (fun c => (at8m 0xFE9F c, c.oamDma)) (fun c => put8 0xC19F 0x9F { c with a := 0xC1 })
    [0xE0, 0x46] = some ((0x9F, 0xC1), 12) := by decide
/-- Row 13: DIV is cleared at the write and then counts the instruction's clocks. -/
theorem test_write_div : out8 (·.div16) (fun c => { c with div16 := 0xABCD }) [0xE0, 0x04] = some (0x000C, 12) := by
  decide

/-- Rows 1, 16, 20: the echo and the banks of colour mode. -/
theorem test_banks8 : place8 true { State.reset.cpu8 with svbk := 2, vbk := 1 } 0xF123 = .cell 0x2D123 ∧
    place8 true { State.reset.cpu8 with svbk := 0 } 0xD000 = .cell 0x1D000 ∧
    place8 true { State.reset.cpu8 with vbk := 1 } 0x8000 = .cell 0x18000 ∧
    place8 false { State.reset.cpu8 with svbk := 2 } 0xE123 = .cell 0xC123 := by decide +kernel

/-! CPU-32. Code at 0x03000000 in system mode with CPSR = 0x1F, or 0x3F in THUMB state. -/

/-- Register i. -/
def x (i v : Nat) (c : Cpu32) : Cpu32 := c.setRegIn c.cpsr.mode (BitVec.ofNat 4 i) (BitVec.ofNat 32 v)

/-- A word of IWRAM or EWRAM. -/
def m32 (a v : Nat) (c : Cpu32) : Cpu32 := { c with mem := Memory.writeLe c.mem a v 4 }

/-- The whole CPSR, but for T. -/
def psr (w : Nat) (c : Cpu32) : Cpu32 :=
  match Psr.ofWord? (BitVec.ofNat 32 w) with
  | some p => { c with cpsr := p }
  | none => c

/-- The words of 5.5. -/
def data (c : Cpu32) : Cpu32 := m32 0x03000108 0x0000807F (m32 0x03000104 0x88776655 (m32 0x03000100 0x44332211 c))

def ready32 (thumb : Bool) (f : Cpu32 → Cpu32) (w : Nat) : State :=
  prepare32 thumb (toLeBytes 4 w)
    (on32 (fun c => f { c with pc := 0x03000000, cpsr := { c.cpsr with i := false, f := false, mode := .sys } })
      State.reset)

/-- One CPU-32 step: a view of the CPU-32 half, and the cycles. -/
def out32 {α : Type} (thumb : Bool) (view : Cpu32 → α) (f : Cpu32 → Cpu32) (w : Nat) : Option (α × Nat) :=
  match step (ready32 thumb f w) with
  | .next t => some (view t.cpu32, t.cycles)
  | .fault _ => none
  | .refused _ => none

def reg (i : Nat) (c : Cpu32) : Nat := (c.regIn c.cpsr.mode (BitVec.ofNat 4 i)).toNat
def pc (c : Cpu32) : Nat := c.pc.toNat
def sr (c : Cpu32) : Nat := c.cpsr.toWord.toNat
def mem (a : Nat) (c : Cpu32) : Nat := Memory.readLe c.mem a 4

/-- A register, the PC and CPSR. -/
def rps (i : Nat) (c : Cpu32) : Nat × Nat × Nat := (reg i c, pc c, sr c)

/-! 5.1 to 5.4. -/

theorem test_arm_le_not : out32 false (rps 0) (psr 0x9000001F) 0xD3A00001 =
    some ((0, 0x03000004, 0x9000001F), 1) := by decide
theorem test_arm_lsr_32 : out32 false (rps 0) (x 0 0x80000001) 0xE1B00020 =
    some ((0, 0x03000004, 0x6000001F), 1) := by decide
theorem test_arm_rrx : out32 false (rps 0) (x 1 3 ∘ psr 0x2000001F) 0xE1B00061 =
    some ((0x80000001, 0x03000004, 0xA000001F), 1) := by decide
theorem test_arm_lsl_33 : out32 false (rps 0) (x 1 0xFFFFFFFF ∘ x 2 0x21) 0xE1B00211 =
    some ((0, 0x03000004, 0x4000001F), 2) := by decide
theorem test_arm_ror_64 : out32 false (rps 0) (x 1 0x80000001 ∘ x 2 0x40) 0xE1B00271 =
    some ((0x80000001, 0x03000004, 0xA000001F), 2) := by decide
theorem test_arm_pc_late : out32 false (reg 0) id 0xE08F011F = some (0x06000018, 2) := by decide
theorem test_arm_pc : out32 false (reg 0) id 0xE08F000F = some (0x06000010, 1) := by decide
theorem test_arm_ands : out32 false (rps 0) (x 1 0xF0F0F0F0 ∘ x 2 0x0F0F0F0F ∘ psr 0x1000001F) 0xE0110002 =
    some ((0, 0x03000004, 0x5000001F), 1) := by decide
theorem test_arm_subs : out32 false (rps 0) (x 1 0x80000000 ∘ x 2 1) 0xE0510002 =
    some ((0x7FFFFFFF, 0x03000004, 0x3000001F), 1) := by decide
theorem test_arm_adds : out32 false (rps 0) (x 1 0x7FFFFFFF ∘ x 2 1) 0xE0910002 =
    some ((0x80000000, 0x03000004, 0x9000001F), 1) := by decide
theorem test_arm_sbcs : out32 false (rps 0) (x 1 5 ∘ x 2 5) 0xE0D10002 =
    some ((0xFFFFFFFF, 0x03000004, 0x8000001F), 1) := by decide
theorem test_arm_rscs : out32 false (rps 0) (x 1 1 ∘ x 2 1) 0xE0F10002 =
    some ((0xFFFFFFFF, 0x03000004, 0x8000001F), 1) := by decide
theorem test_arm_bics : out32 false (rps 0) (x 1 0xFF ∘ psr 0x8000001F) 0xE3D100FF =
    some ((0, 0x03000004, 0x4000001F), 1) := by decide
/-- SUBS PC, LR, #4 in IRQ mode restores CPSR, THUMB state with it. -/
theorem test_arm_subs_pc : out32 false (fun c => (pc c, sr c))
    (fun c => x 14 0x03000204 (psr 0x00000092 { c with spsrIrq := 0x6000003F })) 0xE25EF004 =
    some ((0x03000200, 0x6000003F), 3) := by decide
theorem test_arm_mul : out32 false (rps 0) (x 1 3 ∘ x 2 0x00012345) 0xE0000291 =
    some ((0x000369CF, 0x03000004, 0x0000001F), 4) := by decide
theorem test_arm_mla : out32 false (reg 0) (x 1 10 ∘ x 2 10 ∘ x 3 5) 0xE0203291 = some (0x69, 3) := by decide
theorem test_arm_umulls : out32 false (fun c => (reg 0 c, reg 1 c, sr c)) (x 2 0xFFFFFFFF ∘ x 3 0xFFFFFFFF) 0xE0910392 =
    some ((1, 0xFFFFFFFE, 0x8000001F), 3) := by decide
theorem test_arm_smull : out32 false (fun c => (reg 0 c, reg 1 c)) (x 2 0xFFFFFFFE ∘ x 3 3) 0xE0C10392 =
    some ((0xFFFFFFFA, 0xFFFFFFFF), 3) := by decide
theorem test_arm_umlal : out32 false (fun c => (reg 0 c, reg 1 c)) (x 0 0xFFFFFFFF ∘ x 2 1 ∘ x 3 1) 0xE0A10392 =
    some ((0, 1), 4) := by decide
theorem test_arm_mul_sbz : faultOf (step (ready32 false id 0xE0001291)) = some (.unpredictable .sbz 0x03000000) := by
  decide

/-! 5.5, 5.6. -/

theorem test_arm_ldr_rotated : out32 false (reg 0) (data ∘ x 1 0x03000100) 0xE5910003 = some (0x33221144, 3) := by
  decide
theorem test_arm_ldr_reg : out32 false (reg 0) (data ∘ x 1 0x03000108 ∘ x 2 1) 0xE7110102 =
    some (0x88776655, 3) := by decide
theorem test_arm_ldr_post : out32 false (fun c => (reg 0 c, reg 1 c)) (data ∘ x 1 0x03000100) 0xE4910004 =
    some ((0x44332211, 0x03000104), 3) := by decide
theorem test_arm_str_pc : out32 false (mem 0x03000100) (data ∘ x 1 0x03000100) 0xE581F000 =
    some (0x0300000C, 2) := by decide
theorem test_arm_strb : out32 false (mem 0x03000100) (data ∘ x 0 0x1234ABCD ∘ x 1 0x03000100) 0xE5C10003 =
    some (0xCD332211, 2) := by decide
theorem test_arm_ldrh_odd : out32 false (reg 0) (data ∘ x 1 0x03000100) 0xE1D100B1 = some (0x11000022, 3) := by decide
theorem test_arm_ldrsb : out32 false (reg 0) (data ∘ x 1 0x03000100) 0xE1D100D9 = some (0xFFFFFF80, 3) := by decide
theorem test_arm_ldrsh_odd : out32 false (reg 0) (data ∘ x 1 0x03000100) 0xE1D100F9 = some (0xFFFFFF80, 3) := by decide
theorem test_arm_strh : out32 false (mem 0x03000100) (data ∘ x 0 0xFFFFBEEF ∘ x 1 0x03000100) 0xE1C100B3 =
    some (0xBEEF2211, 2) := by decide
theorem test_arm_ldr_base : faultOf (step (ready32 false id 0xE5B00004)) =
    some (.unpredictable .loadWritebackSame 0x03000000) := by decide
theorem test_arm_ldmda : out32 false (fun c => (reg 0 c, reg 1 c, reg 2 c))
    (m32 0x03000108 0x33333333 ∘ m32 0x0300010C 0x44444444 ∘ x 0 0x0300010C) 0xE8300006 =
    some ((0x03000104, 0x33333333, 0x44444444), 4) := by decide
theorem test_arm_ldm_base : out32 false (fun c => (reg 0 c, reg 1 c))
    (m32 0x03000100 0xAAAAAAAA ∘ m32 0x03000104 0xBBBBBBBB ∘ x 0 0x03000100) 0xE8B00003 =
    some ((0xAAAAAAAA, 0xBBBBBBBB), 4) := by decide
theorem test_arm_stm_base : out32 false (fun c => (mem 0x03000108 c, mem 0x0300010C c, reg 1 c))
    (x 0 0xAAAA0000 ∘ x 1 0x03000110) 0xE9210003 = some ((0xAAAA0000, 0x03000108, 0x03000108), 3) := by decide
theorem test_arm_stm_empty : out32 false (fun c => (mem 0x03000100 c, reg 0 c)) (x 0 0x03000100) 0xE8A00000 =
    some ((0x0300000C, 0x03000140), 2) := by decide
theorem test_arm_swpb : out32 false (fun c => (reg 0 c, mem 0x03000100 c))
    (m32 0x03000100 0x11111111 ∘ x 1 0xAB ∘ x 2 0x03000101) 0xE1420091 = some ((0x11, 0x1111AB11), 4) := by decide

/-! 5.7. -/

theorem test_arm_bl : out32 false (fun c => (reg 14 c, pc c)) id 0xEB00003E = some ((0x03000004, 0x03000100), 3) := by
  decide
theorem test_arm_bx : out32 false (fun c => (pc c, sr c)) (x 0 0x03000201) 0xE12FFF10 =
    some ((0x03000200, 0x0000003F), 3) := by decide
theorem test_arm_swi : out32 false (fun c => (rps 14 c, c.spsrSvc.toNat)) (psr 0x6000001F) 0xEF123456 =
    some (((0x03000004, 0x00000008, 0x60000093), 0x6000001F), 3) := by decide
theorem test_arm_mrs_spsr : out32 false (reg 0) (fun c => psr 0x00000092 { c with spsrIrq := 0x20000010 }) 0xE14F0000 =
    some (0x20000010, 1) := by decide
theorem test_arm_msr_mode : out32 false sr (x 0 0x000000B2) 0xE129F000 = some (0x00000092, 1) := by decide
theorem test_arm_msr_user : out32 false sr (x 0 0x8000001F ∘ psr 0x00000010) 0xE129F000 = some (0x80000010, 1) := by
  decide
theorem test_arm_undefined : faultOf (step (ready32 false id 0xEE000010)) = some (.undefinedOpcode 0xEE000010 0x03000000) := by
  decide

/-! 6. -/

theorem test_thumb_lsr_32 : out32 true (rps 0) (x 1 0x80000000) 0x0808 = some ((0, 0x03000002, 0x6000003F), 1) := by
  decide
theorem test_thumb_sub : out32 true (rps 0) (x 1 1 ∘ x 2 2) 0x1A88 = some ((0xFFFFFFFF, 0x03000002, 0x8000003F), 1) := by
  decide
theorem test_thumb_mov : out32 true (rps 3) (psr 0xB000001F) 0x2300 = some ((0, 0x03000002, 0x7000003F), 1) := by decide
theorem test_thumb_asr : out32 true (rps 0) (x 0 0x80000000 ∘ x 1 0x21) 0x4108 =
    some ((0xFFFFFFFF, 0x03000002, 0xA000003F), 2) := by decide
theorem test_thumb_neg : out32 true (rps 0) (x 1 0x80000000) 0x4248 =
    some ((0x80000000, 0x03000002, 0x9000003F), 1) := by decide
theorem test_thumb_mul : out32 true (rps 0) (x 0 0x10000 ∘ x 1 0x10000 ∘ psr 0x3000001F) 0x4348 =
    some ((0, 0x03000002, 0x5000003F), 4) := by decide
theorem test_thumb_mov_pc : out32 true pc (x 1 0x03000101) 0x468F = some (0x03000100, 3) := by decide
theorem test_thumb_bx : out32 true (fun c => (pc c, sr c)) (x 1 0x03000102) 0x4708 =
    some ((0x03000100, 0x0000001F), 3) := by decide
theorem test_thumb_ldr_pc : out32 true (reg 0) data 0x483F = some (0x44332211, 3) := by decide
theorem test_thumb_strb : out32 true (mem 0x03000100) (data ∘ x 0 0xAB ∘ x 1 0x03000100 ∘ x 2 1) 0x5488 =
    some (0x4433AB11, 2) := by decide
theorem test_thumb_ldsh : out32 true (reg 0) (data ∘ x 1 0x03000100 ∘ x 2 9) 0x5E88 = some (0xFFFFFF80, 3) := by decide
theorem test_thumb_strh_imm : out32 true (mem 0x03000104) (data ∘ x 0 0xBEEF ∘ x 1 0x03000100) 0x80C8 =
    some (0xBEEF6655, 2) := by decide
theorem test_thumb_adjust_sp : out32 true (reg 13) (x 13 0x03007E00) 0xB081 = some (0x03007DFC, 1) := by decide
theorem test_thumb_push : out32 true (fun c => (reg 13 c, mem 0x03000104 c, mem 0x03000108 c, mem 0x0300010C c))
    (x 0 0xA0 ∘ x 1 0xA1 ∘ x 14 0x03000401 ∘ x 13 0x03000110) 0xB503 =
    some ((0x03000104, 0xA0, 0xA1, 0x03000401), 4) := by decide
theorem test_thumb_pop : out32 true (fun c => (reg 0 c, reg 1 c, reg 13 c, pc c))
    (m32 0x03000104 0xB0 ∘ m32 0x03000108 0xB1 ∘ m32 0x0300010C 0x03000401 ∘ x 13 0x03000104) 0xBD03 =
    some ((0xB0, 0xB1, 0x03000110, 0x03000400), 7) := by decide
theorem test_thumb_stmia : out32 true (fun c => (reg 1 c, mem 0x03000100 c, mem 0x03000104 c)) (x 0 0x10 ∘ x 1 0x03000100)
    0xC103 = some ((0x03000108, 0x10, 0x03000108), 3) := by decide
theorem test_thumb_beq : out32 true pc (psr 0x4000001F) 0xD010 = some (0x03000024, 3) := by decide
theorem test_thumb_swi : out32 true (fun c => (rps 14 c, c.spsrSvc.toNat)) (psr 0x6000001F) 0xDF05 =
    some (((0x03000002, 0x00000008, 0x60000093), 0x6000003F), 3) := by decide
theorem test_thumb_b : out32 true pc id 0xE3FF = some (0x03000802, 3) := by decide
theorem test_thumb_bl_hi : out32 true (reg 14) id 0xF001 = some (0x03001004, 1) := by decide
/-- The second half alone, at 0x03000000, with LR = 0x03001004. -/
theorem test_thumb_bl_lo : out32 true (fun c => (reg 14 c, pc c)) (x 14 0x03001004) 0xF800 =
    some ((0x03000003, 0x03001004), 3) := by decide
theorem test_thumb_two_low : faultOf (step (ready32 true id 0x4408)) = some (.unpredictable .twoLowRegisters 0x03000000) := by
  decide

/-! 4.2, 4.4, 7. -/

/-- 4.2 rows 1, 3, 6: mirrors, and an 8-bit write of palette. -/
theorem test_regions : memKey .iwram 0x03008004 = 0x03000004 ∧ memKey .vram 0x06018000 = 0x06010000 ∧
    storeSpan .byte 0x05000401#32 State.reset = (0x05000400#32, 2) ∧
    (storeSpan .byte 0x06010000#32 State.reset).2 = 0 := by decide

/-- 4.2 row 20: LDR of an unmapped address rotates the open bus. -/
theorem test_open_bus : (loadValue .word 0x0100ABCD#32 State.reset).1 = 0xCCABCEAB#32 := by decide

/-- 4.4 rows 1, 5 and 12: code in ROM window 0, a palette word. -/
theorem test_costs : accessCost true .word 0x08000000#32 State.reset = 6 ∧
    accessCost true .half 0x08000000#32 State.reset = 3 ∧ accessCost false .word 0x08000000#32 State.reset = 8 ∧
    accessCost false .word 0x05000000#32 State.reset = 2 ∧ accessCost false .byte 0x0E000000#32 State.reset = 5 := by
  decide

/-- 7.1: one overflow ripples through all four timers. -/
theorem test_timers32_ripple :
    let t : Timer := { counter := 0xFFFF, reload := 0xFFFF, control := 0x00C4, phase := 0 }
    let c := { State.reset.cpu32 with timers := #v[{ t with control := 0x00C0 }, t, t, t] }
    (Cpu32.advance 1 c).timers = c.timers ∧ (Cpu32.advance 1 c).iflag = 0x0078 := by decide

/-- 7.1: the prescaler of 64. -/
theorem test_timers32_prescaler :
    let t : Timer := { counter := 0, reload := 0, control := 0x0081, phase := 0 }
    let c := { State.reset.cpu32 with timers := #v[t, Timer.reset, Timer.reset, Timer.reset] }
    (Cpu32.advance 63 c).timers[0].counter = 0 ∧ (Cpu32.advance 64 c).timers[0].counter = 1 := by decide

/-- 7.2: IF is cleared by ones, a byte at a time. -/
theorem test_if_clear : (match memWrite .cpu .byte 0x04000203#32 0x08#32
      (on32 (fun c => { c with iflag := 0x0910 }) State.reset) with
    | .next t => some t.cpu32.iflag
    | .fault _ => none
    | .refused _ => none) = some 0x0110#14 := by decide

/-! Witnesses: for every statement of Obligations.lean with hypotheses, a state and operands that meet them together,
clause by clause, at the ends of the ranges. A hypothesis that only names a result (`read8 a s = (v, s1)`) is met by that
result. -/

/-- CPU-8 code at 0xC000: HL = 0xC100, BC = 0xC200, DE = 0xC300, SP = 0xDFF0. -/
def w8 : State :=
  ready8 (fun c => { c with h := 0xC1, l := 0, b := 0xC2, c := 0, d := 0xC3, e := 0, sp := 0xDFF0 }) []

/-- The same in colour mode. -/
def w8c : State := { w8 with params := { w8.params with colorMode := true } }

/-- No write is refused outside colour mode; in it, one of HDMA5 with bit 7 clear and one of HDMA4 are not. -/
theorem witness_not_refused : (∀ a v, ¬ Claims.Refused8 w8 a v) ∧ ¬ Claims.Refused8 w8c 0xFF55#16 0x7F#8 ∧
    ¬ Claims.Refused8 w8c 0xFF54#16 0x80#8 ∧ Claims.Refused8 w8c 0xFF55#16 0x80#8 := by
  refine ⟨fun a v h => absurd h.1 (by decide), ?_, ?_, ?_⟩ <;> unfold Claims.Refused8 <;> decide

theorem witness_Cpu8RegisterLoads : R8.b ≠ .hlm ∧ R8.a ≠ .hlm ∧ R8.a ≠ .b ∧ RP.sp ≠ .hl := by decide

theorem witness_Cpu8MemoryLoads : R8.a ≠ .hlm ∧ ∀ row ∈
    [(Instr.ld_a_bcm, 0xC200#16, 0#16, 8), (.ld_a_dem, 0xC300#16, 0#16, 8), (.ld_a_cm, 0xFF00#16, 0#16, 8),
     (.ld_a_hli, 0xC100#16, 1#16, 8), (.ld_a_hld, 0xC100#16, 0xFFFF#16, 8)], row ∈
    [(Instr.ld_a_bcm, w8.cpu8.pairOf .bc, 0#16, 8), (.ld_a_dem, w8.cpu8.pairOf .de, 0#16, 8),
     (.ld_a_cm, BitVec.ofNat 16 (0xFF00 + w8.cpu8.c.toNat), 0#16, 8),
     (.ld_a_hli, w8.cpu8.pairOf .hl, 1#16, 8), (.ld_a_hld, w8.cpu8.pairOf .hl, 0xFFFF#16, 8)] := by decide

theorem witness_Cpu8MemoryStores : (R8.a ≠ .hlm ∧ ¬ Claims.Refused8 w8 (w8.cpu8.pairOf .hl) (w8.cpu8.reg .a)) ∧
    (∀ n, ¬ Claims.Refused8 w8 (w8.cpu8.pairOf .hl) n) ∧
    (∀ row ∈ [(Instr.ld_bcm_a, 0xC200#16, 0#16), (.ld_dem_a, 0xC300#16, 0#16), (.ld_cm_a, 0xFF00#16, 0#16),
        (.ld_hli_a, 0xC100#16, 1#16), (.ld_hld_a, 0xC100#16, 0xFFFF#16)],
      row ∈ [(Instr.ld_bcm_a, w8.cpu8.pairOf .bc, 0#16), (.ld_dem_a, w8.cpu8.pairOf .de, 0#16),
        (.ld_cm_a, BitVec.ofNat 16 (0xFF00 + w8.cpu8.c.toNat), 0#16), (.ld_hli_a, w8.cpu8.pairOf .hl, 1#16),
        (.ld_hld_a, w8.cpu8.pairOf .hl, 0xFFFF#16)] ∧ ¬ Claims.Refused8 w8 row.2.1 w8.cpu8.a) ∧
    (¬ Claims.Refused8 w8 0xFFFF#16 w8.cpu8.a) ∧ (¬ Claims.Refused8 w8 (BitVec.ofNat 16 (0xFF00 + 0x55)) w8.cpu8.a) ∧
    (¬ Claims.Refused8 w8 0xFFFF#16 (loByte w8.cpu8.sp) ∧ ¬ Claims.Refused8 w8 (0xFFFF#16 + 1) (hiByte w8.cpu8.sp)) := by
  have no := witness_not_refused.1
  refine ⟨⟨by decide, no _ _⟩, fun n => no _ _, fun row h => ⟨?_, no _ _⟩, no _ _, no _ _, no _ _, no _ _⟩
  revert row
  decide

/-- The pushed bytes stand in WRAM bank 1; with SP = 0 the push wraps to HRAM, where IE is no core memory byte. -/
theorem witness_Cpu8Stack : Claims.Pushes8 w8 (w8.cpu8.stackPair .af) ∧ Memory.wf w8.cpu8.mem = true ∧
    place8 w8.params.colorMode w8.cpu8 (w8.cpu8.sp - 1) = .cell 0x1DFEF ∧
    place8 w8.params.colorMode w8.cpu8 (w8.cpu8.sp - 2) = .cell 0x1DFEE :=
  ⟨⟨witness_not_refused.1 _ _, witness_not_refused.1 _ _⟩, by decide +kernel, by decide +kernel, by decide +kernel⟩

theorem witness_Cpu8IncDec : R8.b ≠ .hlm ∧ (∃ v s1, read8 (w8.cpu8.pairOf .hl) w8 = (v, s1) ∧
    ¬ Claims.Refused8 w8 (w8.cpu8.pairOf .hl) (v + 1) ∧ ¬ Claims.Refused8 w8 (w8.cpu8.pairOf .hl) (v - 1)) :=
  ⟨by decide, _, _, rfl, witness_not_refused.1 _ _, witness_not_refused.1 _ _⟩

theorem witness_Cpu8AccumulatorFlags :
    (∀ row ∈ [(Instr.rlca, Rot8.rlc), (.rrca, .rrc), (.rla, .rl), (.rra, .rr)],
      row ∈ [(Instr.rlca, Rot8.rlc), (.rrca, .rrc), (.rla, .rl), (.rra, .rr)]) ∧
    (99 < 100 ∧ 0 < 100 ∧ (ready8 (fun c => { c with a := 0x99 }) []).cpu8.a = Claims.bcd 99 ∧
      (ready8 (fun c => { c with a := 0x00 }) []).cpu8.a = Claims.bcd 0) := by decide

theorem witness_Cpu8Rotates : R8.a ≠ .hlm ∧ ∃ v s1, read8 (w8.cpu8.pairOf .hl) w8 = (v, s1) ∧
    ∀ r, ¬ Claims.Refused8 w8 (w8.cpu8.pairOf .hl) r :=
  ⟨by decide, _, _, rfl, fun _ => witness_not_refused.1 _ _⟩

theorem witness_Cpu8Bits : R8.a ≠ .hlm ∧ ∃ v s1, read8 (w8.cpu8.pairOf .hl) w8 = (v, s1) ∧
    ∀ r, ¬ Claims.Refused8 w8 (w8.cpu8.pairOf .hl) r := witness_Cpu8Rotates

/-- Each condition, met and not met; the pushes; the pop. -/
theorem witness_Cpu8ControlFlow :
    (Claims.Cond8 .nz 0x00 ∧ Claims.Cond8 .z 0x80 ∧ Claims.Cond8 .nc 0x80 ∧ Claims.Cond8 .c 0x10) ∧
    (¬ Claims.Cond8 .nz 0x80 ∧ ¬ Claims.Cond8 .z 0x10 ∧ ¬ Claims.Cond8 .nc 0x10 ∧ ¬ Claims.Cond8 .c 0x80) ∧
    (Claims.Cond8 .c w8.cpu8.f ∧ Claims.Pushes8 w8 w8.cpu8.pc) ∧ ∃ v s1, pop16 w8 = (v, s1) := by
  refine ⟨⟨rfl, rfl, rfl, rfl⟩, ⟨?_, ?_, ?_, ?_⟩, ⟨?_, witness_not_refused.1 _ _, witness_not_refused.1 _ _⟩,
    _, _, rfl⟩ <;> simp only [Claims.Cond8] <;> decide

theorem witness_Cpu8MachineControl :
    (State.resetWith { Params.default with eiDelay := false }).params.eiDelay = false ∧
    (State.resetWith { Params.default with eiDelay := true }).params.eiDelay = true ∧
    (let s := on8 (fun c => { c with speedArmed := true }) w8c;
      s.params.colorMode = true ∧ s.cpu8.speedArmed = true) ∧
    (¬ (w8.params.colorMode = true ∧ w8.cpu8.speedArmed = true)) ∧
    ((Instr.illegal_fd, 0xFD) ∈ [(Instr.illegal_d3, 0xD3), (.illegal_db, 0xDB), (.illegal_dd, 0xDD), (.illegal_e3, 0xE3),
      (.illegal_e4, 0xE4), (.illegal_eb, 0xEB), (.illegal_ec, 0xEC), (.illegal_ed, 0xED), (.illegal_f4, 0xF4),
      (.illegal_fc, 0xFC), (.illegal_fd, 0xFD)]) ∧
    (let s := ready8 id [0xD3];
      s.fault = none ∧ s.params.variant = .cpu8 ∧ s.cpu8.stopped = false ∧ s.cpu8.halted = false ∧
        s.cpu8.dispatches = false ∧ (read8 s.cpu8.pc (beginStep s)).1 = 0xD3#8) := by decide

/-- Each kind of address at both ends. -/
theorem witness_Cpu8AddressMap :
    (∀ row ∈ [(0x8000, 0x8000), (0x9FFF, 0x9FFF), (0xC000, 0xC000), (0xCFFF, 0xCFFF), (0xD000, 0x1D000),
        (0xDFFF, 0x1DFFF), (0xE000, 0xC000), (0xEFFF, 0xCFFF), (0xF000, 0x1D000), (0xFDFF, 0x1DDFF), (0xFE00, 0xFE00),
        (0xFE9F, 0xFE9F), (0xFF80, 0xFF80), (0xFFFE, 0xFFFE)], Claims.cellOf w8 row.1 = some row.2) ∧
    (0 < 0x8000 ∧ 0x7FFF < 0x8000 ∧ (0xA000 ≤ 0xA000 ∧ 0xBFFF < 0xC000)) ∧
    (Image.find? (answerRom8 0x7FFF 0x55 w8).cart8 0x7FFF = some 0x55#8 ∧ Image.find? w8.cart8 0x7FFF = none) ∧
    (0xFEA0 ≤ 0xFEA0 ∧ 0xFEFF < 0xFF00) ∧
    (¬ Claims.isIo8 w8 0xFF00 ∧ ¬ Claims.isIo8 w8 0xFF55 ∧ ¬ Claims.isIo8 w8c 0xFF56 ∧ ¬ Claims.isIo8 w8c 0xFF7F) ∧
    w8c.params.colorMode = true := by
  refine ⟨by simp only [Claims.cellOf]; decide, by decide, by decide, by decide, ⟨?_, ?_, ?_, ?_⟩, rfl⟩ <;>
    simp only [Claims.isIo8] <;> decide

/-- The first clause: a refused write, one that is not, and a byte no write of 0xFF46 reaches. The second: each row. -/
theorem witness_Cpu8AccessFrame :
    (Claims.Refused8 w8c 0xFF55#16 0xFF#8 ∧ ¬ Claims.Refused8 w8c 0xFF55#16 0x00#8) ∧
    (Memory.wf w8c.cpu8.mem = true ∧ ¬ Claims.StoresTo8 w8c 0xFF46#16 0xFDFF ∧
      ¬ Claims.StoresTo8 w8c 0xFF46#16 0xFEA0 ∧ ¬ Claims.StoresTo8 w8c 0xFF55#16 0xA000) ∧
    (∀ i ∈ [ldInstr .hlm .a, .ld_hlm_n 0, .inc_hlm, .dec_hlm, .ld_hli_a, .ld_hld_a, rotInstr .srl .hlm,
        resInstr 0 .hlm, setInstr 7 .hlm, .ld_bcm_a, .ld_dem_a, .ld_nnm_a 0xC100, .ldh_nm_a 0x80, .ld_cm_a],
      (match exec i w8 with | .next _ => true | .fault _ => false | .refused _ => false) = true) ∧
    (∃ (i : Instr) (a : Half) (t : State), (a = w8.cpu8.pairOf .hl ∧
      ((∃ src, src ≠ R8.hlm ∧ i = ldInstr .hlm src) ∨ (∃ n, i = .ld_hlm_n n) ∨ i = .inc_hlm)) ∧
      exec i w8 = .next t) := by
  refine ⟨⟨⟨rfl, rfl, rfl⟩, ?_⟩, ⟨by decide, ?_, ?_, ?_⟩, by decide,
    .inc_hlm, _, _, ⟨rfl, .inr (.inr rfl)⟩, rfl⟩
  · unfold Claims.Refused8; decide
  all_goals simp only [Claims.StoresTo8, Claims.cellOf]; decide

/-- The five interrupts pending, those from k on enabled. -/
def irq8 (k : Nat) : State :=
  on8 (fun c => { c with ime := true, ie := 0xFF#8 <<< k, iflag := 0x1F#5, halted := true }) w8

theorem witness_Cpu8Boundary :
    (∀ k : Fin 5, (irq8 k).fault = none ∧ (irq8 k).params.variant = .cpu8 ∧ (irq8 k).cpu8.stopped = false ∧
      (irq8 k).cpu8.ime = true ∧ ((irq8 k).cpu8.ie.getLsbD k = true ∧ (irq8 k).cpu8.iflag.getLsbD k = true) ∧
      (∀ j : Fin 5, j.val < k.val → ¬ ((irq8 k).cpu8.ie.getLsbD j = true ∧ (irq8 k).cpu8.iflag.getLsbD j = true))) ∧
    (∀ k, Claims.Pushes8 (irq8 k) (irq8 k).cpu8.pc) ∧
    (on8 (fun c => { c with stopped := true }) w8).cpu8.stopped = true ∧
    (let s := on8 (fun c => { c with halted := true, ie := 0xE0, iflag := 0x1F }) w8;
      s.cpu8.stopped = false ∧ s.cpu8.halted = true ∧ s.cpu8.ie.setWidth 5 &&& s.cpu8.iflag = 0#5) ∧
    (let s := on8 (fun c => { c with halted := true, ie := 0x10, iflag := 0x10 }) w8;
      s.cpu8.stopped = false ∧ s.cpu8.halted = true ∧ s.cpu8.ie.setWidth 5 &&& s.cpu8.iflag ≠ 0#5) :=
  ⟨by decide, fun _ => ⟨fun h => Bool.false_ne_true h.1, fun h => Bool.false_ne_true h.1⟩, by decide, by decide, by decide⟩

/-- Each divider bit, low and high; the timer off; and the two edges of a write. -/
theorem witness_Cpu8Timer :
    (∀ k : Fin 4, (timer8 0x0000 (BitVec.ofNat 3 (4 + k)) 0xFF 0x40).stopped = false ∧
      (timer8 0x0000 (BitVec.ofNat 3 (4 + k)) 0xFF 0x40).tac.getLsbD 2 = true ∧
      (timer8 0x0000 (BitVec.ofNat 3 (4 + k)) 0xFF 0x40).timerIn = (0x0000#16).getLsbD
        (if (4 + k.val) % 4 = 0 then 9 else if (4 + k.val) % 4 = 1 then 3 else if (4 + k.val) % 4 = 2 then 5 else 7) ∧
      ({ timer8 0xFFFF (BitVec.ofNat 3 (4 + k)) 0x00 0x40 with timerIn := true }).timerIn = (0xFFFF#16).getLsbD
        (if (4 + k.val) % 4 = 0 then 9 else if (4 + k.val) % 4 = 1 then 3 else if (4 + k.val) % 4 = 2 then 5 else 7)) ∧
    ({ timer8 0 5 0 0 with stopped := true }).stopped = true ∧
    ((timer8 0xFFFF 3 0 0).tac.getLsbD 2 = false ∧ (timer8 0xFFFF 3 0 0).timerIn = false) ∧
    ((on8 (fun c => { c with div16 := 8, tac := 5, timerIn := true }) w8).cpu8.timerIn = true ∧
      w8.cpu8.timerIn = false) := by decide

/-- The edges themselves (3.6): the write of DIV, of TAC disabling the timer, and of TAC selecting a bit that is 0. -/
theorem test_timer8_edges : ∀ n : Fin 3, out8 (fun c => (c.tima, c.iflag))
    (fun c => { c with div16 := 8, tac := 5, timerIn := true, a := if n = 2 then 4 else 1 })
    [0xE0, if n = 0 then 0x04 else 0x07] = some ((0x01, 0), 12) := by decide

/-- A byte of WRAM bank 0 from 0xC100 on. -/
theorem cellOf_wram (s : State) (a : Nat) {i : Nat} (h : a = 0xC100 + i) (hi : i < 0x800) :
    Claims.cellOf s a = some (0xC100 + i) := by
  subst h
  have h1 : ¬ (0x8000 ≤ 0xC100 + i ∧ 0xC100 + i < 0xA000) := by omega
  have h2 : 0xC000 ≤ 0xC100 + i ∧ 0xC100 + i < 0xD000 := by omega
  simp only [Claims.cellOf, if_neg h1, if_pos h2]

theorem witness_Cpu8Dma :
    (Memory.wf w8.cpu8.mem = true ∧ ∀ i, i < 160 → ∃ k, Claims.cellOf w8 ((0xC1#8).toNat * 256 + i) = some k ∧
      ¬ (0xFE00 ≤ k ∧ k < 0xFEA0)) ∧
    (let s := on8 (fun c => { c with hdma1 := 0xC1, hdma3 := 0x1F, hdma4 := 0xF }) w8c;
      Memory.wf s.cpu8.mem = true ∧ s.params.colorMode = true ∧ (0x7F#8).getLsbD 7 = false ∧
      0xC100 = s.cpu8.hdma1.toNat * 256 + s.cpu8.hdma2.toNat * 16 ∧
      0x1FF0 = s.cpu8.hdma3.toNat * 256 + s.cpu8.hdma4.toNat * 16 ∧ 0x800 = ((0x7F#8).toNat % 128 + 1) * 16 ∧
      0x8000 = s.cpu8.vbk.toNat * 0x10000 + 0x8000 ∧
      ∀ i, i < 0x800 → ∃ k, Claims.cellOf s ((0xC100 + i) % 0x10000) = some k ∧ ¬ (0x8000 ≤ k ∧ k < 0x8000 + 0x2000)) := by
  refine ⟨⟨by decide, fun i hi => ⟨0xC100 + i, ?_, by omega⟩⟩, by decide, by decide, by decide, by decide, by decide, by decide,
    by decide, fun i hi => ⟨0xC100 + i, ?_, by omega⟩⟩
  · exact cellOf_wram _ _ (by simp) (by omega)
  · exact cellOf_wram _ _ (by omega) hi

/-- SUB 6 and SET 7,(HL) at 0xC000, the latter with an EI delay pending. -/
theorem witness_Cpu8StepRunsDecoded :
    (let s := ready8 id [0xD6, 0x06];
      Claims.Fetches8 s ∧ decode .cpu8 [0xD6, 0x06] = .ok (.sub_n 6, []) ∧
        Claims.CodeAt8 { s with cycles := 0, outbox := [] } s.cpu8.pc [0xD6, 0x06]) ∧
    (let s := ready8 (fun c => { c with eiPending := true, ie := 0x1F, iflag := 0x1F }) [0xCB, 0xFE];
      Claims.Fetches8 s ∧ decode .cpu8 [0xCB, 0xFE] = .ok (.set_7_hlm, []) ∧
        Claims.CodeAt8 { s with cycles := 0, outbox := [] } s.cpu8.pc [0xCB, 0xFE]) := by
  refine ⟨⟨⟨rfl, rfl, rfl, rfl, by decide⟩, rfl, fun j b h => ?_⟩, ⟨rfl, rfl, rfl, rfl, by decide⟩, rfl, fun j b h => ?_⟩
  all_goals
    match j, h with
    | 0, h => cases h; rfl
    | 1, h => cases h; rfl
    | j + 2, h => cases h

theorem witness_Cpu8RoundTrip : ∀ i ∈ [Instr.nop, .jp_nn 0xFFFF#16, .stop 0xFF#8, .set_7_hlm, .illegal_fd],
    i.isa = .cpu8 ∧ WellFormed i = true := by decide

/-! CPU-32. In `w32` R0 = 0x11, R1 = 0x03000100 with the words of 5.5 there, R2 = 4, R13 = 0x03000110, R14 = 0x03000401. -/

def regs (c : Cpu32) : Cpu32 := x 0 0x11 (x 1 0x03000100 (x 2 4 (x 13 0x03000110 (x 14 0x03000401 (data c)))))

/-- ARM state, system mode. -/
def w32 : State := ready32 false regs 0xE1A00000

/-- THUMB state, system mode. -/
def w32t : State := ready32 true regs 0x46C0

/-- IRQ mode with I set, and this SPSR. -/
def wIrq (spsr : Nat) : State :=
  ready32 false (fun c => regs (psr 0x00000092 { c with spsrIrq := BitVec.ofNat 32 spsr })) 0xE1A00000

/-- User mode. -/
def wUsr (thumb : Bool) : State := ready32 thumb (fun c => regs (psr 0x00000010 c)) 0xE1A00000

/-- Each row of the two clauses on two modes: the pairs that share storage, and pairs that do not. -/
theorem witness_Cpu32Registers : (0#4 ≠ 15#4 ∧ 14#4 ≠ 15#4 ∧ 14#4 ≠ 0#4) ∧
    (let bank := fun (n : Mode) => if n = .sys then Mode.usr else n;
      ∀ row ∈ [(0#4, Mode.fiq, 0#4, Mode.usr), (7#4, .fiq, 7#4, .und), (8#4, .irq, 8#4, .svc), (12#4, .fiq, 12#4, .fiq),
          (13#4, .usr, 13#4, .sys), (14#4, .abt, 14#4, .abt)],
        row.1 ≠ 15#4 ∧ row.2.2.1 ≠ 15#4 ∧ (row.1 = row.2.2.1 ∧ (row.1.toNat < 8 ∨
          (row.1.toNat < 13 ∧ (row.2.1 = .fiq ↔ row.2.2.2 = .fiq)) ∨ bank row.2.1 = bank row.2.2.2))) ∧
    (let bank := fun (n : Mode) => if n = .sys then Mode.usr else n;
      ∀ row ∈ [(0#4, Mode.usr, 1#4, Mode.usr), (8#4, .fiq, 8#4, .usr), (12#4, .sys, 12#4, .fiq), (13#4, .irq, 13#4, .svc),
          (14#4, .fiq, 14#4, .usr)],
        row.1 ≠ 15#4 ∧ row.2.2.1 ≠ 15#4 ∧ ¬ (row.1 = row.2.2.1 ∧ (row.1.toNat < 8 ∨
          (row.1.toNat < 13 ∧ (row.2.1 = .fiq ↔ row.2.2.2 = .fiq)) ∨ bank row.2.1 = bank row.2.2.2))) := by decide

theorem witness_Cpu32DataOperations : (∃ r c v, addC 0x7FFFFFFF#32 1#32 true = (r, c, v)) ∧
    (∃ r c v, addC 0x80000000#32 (~~~1#32) true = (r, c, v)) ∧ (∃ r c v, addC 0#32 (~~~0#32) false = (r, c, v)) ∧
    ∀ op, ∃ r c v, dpResult op 1#32 2#32 false w32.cpu32.cpsr = (r, c, v) :=
  ⟨⟨_, _, _, rfl⟩, ⟨_, _, _, rfl⟩, ⟨_, _, _, rfl⟩, fun _ => ⟨_, _, _, rfl⟩⟩

/-- The amounts at the ends of the table's ranges; 32 and 224 are multiples of 32, 33 and 255 are not. -/
theorem witness_Cpu32Shifter : (1 ≤ 1 ∧ 1 ≤ 31 ∧ 1 ≤ 31 ∧ 31 ≤ 31) ∧ (32 ≤ 32 ∧ 32 < 256 ∧ 32 ≤ 255 ∧ 255 < 256) ∧
    (32 % 32 = 0 ∧ 224 % 32 = 0) ∧ (33 % 32 ≠ 0 ∧ 255 % 32 ≠ 0) := by decide

/-- ADDEQ and an undefined word under EQ, with Z clear; and the seven kinds of undefined word, under AL. -/
theorem witness_ArmConditions :
    (0x00811002 < 2 ^ 32 ∧ 0x00811002 / 2 ^ 28 ≠ 15 ∧ ¬ Claims.CondHolds (Cond.ofCode (0x00811002 / 2 ^ 28)) w32.cpu32.cpsr) ∧
    (0x06000010 < 2 ^ 32 ∧ 0x06000010 / 2 ^ 28 ≠ 15 ∧ ¬ Claims.CondHolds (Cond.ofCode (0x06000010 / 2 ^ 28)) w32.cpu32.cpsr) ∧
    ((0xEE000010#32).toNat / 2 ^ 28 ≠ 15 ∧
      Claims.CondHolds (Cond.ofCode ((0xEE000010#32).toNat / 2 ^ 28)) w32.cpu32.cpsr ∧
      Instr.armCdpMrcMcr 0xEE000010#32 ∈ [.armUndefStoreSignedReg 0xEE000010#32, .armUndefStoreSignedImm 0xEE000010#32,
        .armUndefMultiplySpace 0xEE000010#32, .armUndefCompareNoS 0xEE000010#32, .armUndefSpace 0xEE000010#32,
        .armLdcStc 0xEE000010#32, .armCdpMrcMcr 0xEE000010#32]) ∧
    (Instr.armCdpMrcMcr 0x0E000010#32 ∈ [.armUndefStoreSignedReg 0x0E000010#32, .armUndefStoreSignedImm 0x0E000010#32,
        .armUndefMultiplySpace 0x0E000010#32, .armUndefCompareNoS 0x0E000010#32, .armUndefSpace 0x0E000010#32,
        .armLdcStc 0x0E000010#32, .armCdpMrcMcr 0x0E000010#32] ∧ (0x0E000010#32).toNat / 2 ^ 28 ≠ 15 ∧
      ¬ Claims.CondHolds (Cond.ofCode ((0x0E000010#32).toNat / 2 ^ 28)) w32.cpu32.cpsr) ∧
    (0xF3A00001 < 2 ^ 32 ∧ 0xF3A00001 / 2 ^ 28 = 15) :=
  ⟨⟨by decide, by decide, (by decide : ¬ w32.cpu32.cpsr.z = true)⟩,
    ⟨by decide, by decide, (by decide : ¬ w32.cpu32.cpsr.z = true)⟩, ⟨by decide, trivial, by decide⟩,
    ⟨by decide, by decide, (by decide : ¬ w32.cpu32.cpsr.z = true)⟩, by decide⟩

/-- Each condition passes in some status, and each but AL fails in some. -/
theorem witness_conditions :
    (∀ row ∈ [(Cond.eq, 0x40000010), (.ne, 0x10), (.cs, 0x20000010), (.cc, 0x10), (.mi, 0x80000010), (.pl, 0x10),
      (.vs, 0x10000010), (.vc, 0x10), (.hi, 0x20000010), (.ls, 0x60000010), (.ge, 0x90000010), (.lt, 0x80000010),
      (.gt, 0x10), (.le, 0x40000010), (.al, 0x10)],
      ∃ p, Psr.ofWord? (BitVec.ofNat 32 row.2) = some p ∧ Claims.CondHolds row.1 p) ∧
    (∀ row ∈ [(Cond.eq, 0x10), (.ne, 0x40000010), (.cs, 0x10), (.cc, 0x20000010), (.mi, 0x10), (.pl, 0x80000010),
      (.vs, 0x10), (.vc, 0x10000010), (.hi, 0x60000010), (.ls, 0x20000010), (.ge, 0x80000010), (.lt, 0x90000010),
      (.gt, 0x80000010), (.le, 0x10)],
      ∃ p, Psr.ofWord? (BitVec.ofNat 32 row.2) = some p ∧ ¬ Claims.CondHolds row.1 p) := by
  refine ⟨?_, ?_⟩
  all_goals
    simp only [List.forall_mem_cons]
    repeat' apply And.intro
    all_goals first | exact ⟨_, rfl, by simp only [Claims.CondHolds]; decide⟩ | skip
  · exact ⟨_, rfl, trivial⟩
  all_goals simp

/-- Every operation has the three forms, whatever the operands. -/
theorem witness_DpForm (op : DpOp) (d : Dp) (a : Op2Imm) (b : Op2Shift) (c : Op2RegShift) (h : c.rs ≠ 15#4) (s : State) :
    (∃ v sh, Claims.DpForm op d s (dpImmInstr op d a) (readReg d.rn s) v sh 0) ∧
    (∃ v sh, Claims.DpForm op d s (dpShiftInstr op d b) (readReg d.rn s) v sh 0) ∧
    (∃ v sh, Claims.DpForm op d s (dpRegShiftInstr op d c) (readRegLate d.rn s) v sh 1) :=
  ⟨⟨_, _, .inl ⟨a, rfl, rfl, rfl, rfl⟩⟩, ⟨_, _, .inr (.inl ⟨b, rfl, rfl, rfl, rfl⟩)⟩,
    ⟨_, _, .inr (.inr ⟨c, rfl, h, rfl, rfl, rfl⟩)⟩⟩

/-- ADDS R0, R1, R2, LSL R2; MOV R0, R2; CMP R1, #4; TST with Rd = 1 and MVN with Rn = 1; and a shift by R15. -/
theorem witness_ArmDataProcessing :
    (∃ i a b r shc c v, Claims.DpForm .add ⟨.al, true, 1#4, 0#4⟩ w32 i a b shc 1 ∧ Claims.CondHolds .al w32.cpu32.cpsr ∧
      ¬ Claims.isTest .add ∧ (Claims.isMove .add → (1#4 : RegNum) = 0#4) ∧ (0#4 : RegNum) ≠ 15#4 ∧
      dpResult .add a b shc w32.cpu32.cpsr = (r, c, v)) ∧
    (∃ i a b r shc c v, Claims.DpForm .mov ⟨.al, false, 0#4, 14#4⟩ w32 i a b shc 0 ∧ ¬ Claims.isTest .mov ∧
      (Claims.isMove .mov → (0#4 : RegNum) = 0#4) ∧ (14#4 : RegNum) ≠ 15#4 ∧
      dpResult .mov a b shc w32.cpu32.cpsr = (r, c, v)) ∧
    (∃ i a b r shc c v, Claims.DpForm .cmp ⟨.al, true, 1#4, 0#4⟩ w32 i a b shc 0 ∧ Claims.isTest .cmp ∧
      (0#4 : RegNum) = 0#4 ∧ dpResult .cmp a b shc w32.cpu32.cpsr = (r, c, v)) ∧
    (∃ i a b shc, Claims.DpForm .tst ⟨.al, true, 0#4, 1#4⟩ w32 i a b shc 0 ∧ Claims.isTest .tst ∧ (1#4 : RegNum) ≠ 0#4) ∧
    (∃ i a b shc, Claims.DpForm .mvn ⟨.al, true, 1#4, 0#4⟩ w32 i a b shc 0 ∧ Claims.isMove .mvn ∧ (1#4 : RegNum) ≠ 0#4) ∧
    (Claims.CondHolds .al w32.cpu32.cpsr ∧ ({ rs := 15#4, kind := .ror, rm := 0#4 } : Op2RegShift).rs = 15#4) := by
  have form := fun op d (s : State) => witness_DpForm op d ⟨0#4, 4#8⟩ ⟨31#5, .asr, 2#4⟩ ⟨2#4, .lsl, 2#4⟩ (by decide) s
  obtain ⟨b1, c1, f1⟩ := (form .add ⟨.al, true, 1#4, 0#4⟩ w32).2.2
  obtain ⟨b2, c2, f2⟩ := (form .mov ⟨.al, false, 0#4, 14#4⟩ w32).2.1
  obtain ⟨b3, c3, f3⟩ := (form .cmp ⟨.al, true, 1#4, 0#4⟩ w32).1
  obtain ⟨b4, c4, f4⟩ := (form .tst ⟨.al, true, 0#4, 1#4⟩ w32).1
  obtain ⟨b5, c5, f5⟩ := (form .mvn ⟨.al, true, 1#4, 0#4⟩ w32).1
  refine ⟨⟨_, _, _, _, _, _, _, f1, trivial, ?_, ?_, by decide, rfl⟩, ⟨_, _, _, _, _, _, _, f2, ?_, fun _ => rfl, by decide, rfl⟩,
    ⟨_, _, _, _, _, _, _, f3, ?_, rfl, rfl⟩, ⟨_, _, _, _, f4, ?_, by decide⟩, ⟨_, _, _, _, f5, ?_, by decide⟩, trivial, rfl⟩ <;>
    simp [Claims.isTest, Claims.isMove]

/-- MOVS PC, LR and its like: without S; in IRQ mode with an SPSR that is a status and one that is not; in system mode. -/
theorem witness_ArmDataToPc :
    (∃ i a b r shc c v, Claims.DpForm .mov ⟨.al, true, 0#4, 15#4⟩ (wIrq 0x6000003F) i a b shc 0 ∧
      Claims.CondHolds .al (wIrq 0x6000003F).cpu32.cpsr ∧ ¬ Claims.isTest .mov ∧
      (Claims.isMove .mov → (0#4 : RegNum) = 0#4) ∧ dpResult .mov a b shc (wIrq 0x6000003F).cpu32.cpsr = (r, c, v)) ∧
    ((wIrq 0x6000003F).cpu32.spsr? (wIrq 0x6000003F).cpu32.cpsr.mode = some 0x6000003F#32 ∧
      (Psr.ofWord? 0x6000003F#32).isSome = true) ∧
    ((wIrq 0x60000005).cpu32.spsr? (wIrq 0x60000005).cpu32.cpsr.mode = some 0x60000005#32 ∧
      Psr.ofWord? 0x60000005#32 = none) ∧
    w32.cpu32.spsr? w32.cpu32.cpsr.mode = none := by
  refine ⟨?_, by decide, by decide, by decide⟩
  obtain ⟨b, c, f⟩ := (witness_DpForm .mov ⟨.al, true, 0#4, 15#4⟩ ⟨0#4, 0#8⟩ ⟨0#5, .lsl, 14#4⟩ ⟨0#4, .lsl, 0#4⟩ (by decide)
    (wIrq 0x6000003F)).2.1
  exact ⟨_, _, _, _, _, _, _, f, trivial, by simp [Claims.isTest], fun _ => rfl, rfl⟩

/-- The sizes of Rs at their ends. -/
theorem witness_ICycles : ∀ row ∈ [(0x000000FF#32, 1), (0xFFFFFF00#32, 1), (0x00000100#32, 2), (0xFFFFFEFF#32, 2),
    (0x0000FFFF#32, 2), (0x00010000#32, 3), (0x00FFFFFF#32, 3), (0xFF000000#32, 3), (0x01000000#32, 4),
    (0xFEFFFFFF#32, 4)], Claims.ICycles row.1 row.2 := by
  simp only [Claims.ICycles]
  decide

theorem witness_ArmMultiply :
    (∀ row ∈ [(false, (⟨.al, true, 0#4, 0#4, 2#4, 1#4⟩ : MulOps)), (true, ⟨.al, true, 0#4, 14#4, 2#4, 1#4⟩)],
      let o := row.2;
      o.rd ≠ 15#4 ∧ o.rs ≠ 15#4 ∧ o.rm ≠ 15#4 ∧ o.rd ≠ o.rm ∧ (if row.1 then o.rn ≠ 15#4 else o.rn = 0#4)) ∧
    (let o : LongMulOps := ⟨.al, true, 0#4, 14#4, 2#4, 1#4⟩;
      o.rdHi ≠ 15#4 ∧ o.rdLo ≠ 15#4 ∧ o.rs ≠ 15#4 ∧ o.rm ≠ 15#4 ∧ o.rdHi ≠ o.rdLo ∧ o.rdHi ≠ o.rm ∧ o.rdLo ≠ o.rm) ∧
    (Claims.ICycles (readReg 2#4 w32) 1) ∧
    (∃ r : Word, r.toNat = ((readReg 1#4 w32).toNat * (readReg 2#4 w32).toNat) % 2 ^ 32) ∧
    (∃ hi lo : Word, ((hi.toNat * 2 ^ 32 + lo.toNat : Nat) : Int) =
      (Claims.signed (readReg 1#4 w32) * Claims.signed (readReg 2#4 w32) +
        ((readReg 0#4 w32).toNat * 2 ^ 32 + (readReg 14#4 w32).toNat : Nat)) % 2 ^ 64) ∧
    (¬ ((0#4 : RegNum) = 15#4 ∨ (2#4 : RegNum) = 15#4 ∨ (1#4 : RegNum) = 15#4 ∨ (0#4 : RegNum) = 1#4) ∧
      (1#4 : RegNum) ≠ 0#4) := by
  refine ⟨by decide, by decide, ?_, ⟨0x0C000400#32, by decide⟩, ⟨0x11#32, 0x0F000801#32, ?_⟩, by decide⟩
  · simp only [Claims.ICycles]; decide
  · simp only [Claims.signed]; decide

theorem witness_ArmPsrTransfer :
    (Claims.CondHolds .al w32.cpu32.cpsr ∧ (0#4 : RegNum) ≠ 15#4) ∧
    ((wIrq 0x20000010).cpu32.spsr? (wIrq 0x20000010).cpu32.cpsr.mode = some 0x20000010#32) ∧
    (w32.cpu32.spsr? w32.cpu32.cpsr.mode = none) ∧
    -- MSR CPSR_fc, R0 in a privileged mode, with R0 = 0x11: FIQ mode
    (∃ i : Instr, (∃ o : MsrRegOps, i = .armMsrReg o ∧ Cond.al = o.cond ∧ false = o.spsr ∧ 9#4 = o.fields ∧ o.sbz = 0#8 ∧
        o.rm ≠ 15#4 ∧ 0x11#32 = readReg o.rm w32) ∧
      (∀ k, k < 32 → (0xFF0000FF#32).getLsbD k = ((9#4).getLsbD (k / 8) &&
        (false || decide (w32.cpu32.cpsr.mode ≠ .usr) || decide (24 ≤ k)))) ∧
      (∀ k, k < 32 → (0x00000011#32).getLsbD k =
        if (0xFF0000FF#32).getLsbD k ∧ k ≠ 5 then (0x11#32).getLsbD k else w32.cpu32.cpsr.toWord.getLsbD k) ∧
      (Psr.ofWord? 0x11#32).isSome = true) ∧
    -- MSR CPSR_c, #5: no mode
    (∃ i : Instr, (∃ o : MsrImmOps, i = .armMsrImm o ∧ Cond.al = o.cond ∧ false = o.spsr ∧ 1#4 = o.fields ∧
        0x05#32 = (rotatedImm o.op2 w32.cpu32.cpsr.c).1) ∧
      (∀ k, k < 32 → (0x000000FF#32).getLsbD k = ((1#4).getLsbD (k / 8) &&
        (false || decide (w32.cpu32.cpsr.mode ≠ .usr) || decide (24 ≤ k)))) ∧
      (∀ k, k < 32 → (0x00000005#32).getLsbD k =
        if (0x000000FF#32).getLsbD k ∧ k ≠ 5 then (0x05#32).getLsbD k else w32.cpu32.cpsr.toWord.getLsbD k) ∧
      Psr.ofWord? 0x05#32 = none) ∧
    -- all fields in user mode: the flags only
    (∀ k, k < 32 → (0xFF000000#32).getLsbD k = ((0xF#4).getLsbD (k / 8) &&
      (false || decide ((wUsr false).cpu32.cpsr.mode ≠ .usr) || decide (24 ≤ k)))) ∧
    ((0xFFF#12 : BitVec 12) ≠ 0#12 ∧ (0x01#8 : Byte) ≠ 0#8) ∧
    ((Psr.ofWord? 0xF00000DF#32).isSome = true) ∧
    (Mode.fiq ≠ .usr ∧ Mode.fiq ≠ .sys ∧ Mode.und ≠ .fiq) := by
  refine ⟨⟨trivial, by decide⟩, by decide, by decide, ⟨_, ⟨⟨.al, false, 9#4, 0#8, 0#4⟩, rfl, rfl, rfl, rfl, rfl, by decide,
    by decide⟩, by decide, by decide, by decide⟩, ⟨_, ⟨⟨.al, false, 1#4, ⟨0#4, 5#8⟩⟩, rfl, rfl, rfl, rfl, by decide⟩, by decide,
    by decide, by decide⟩, by decide, by decide, by decide, by decide⟩

theorem witness_ArmBranches : Claims.CondHolds .al w32.cpu32.cpsr ∧ Claims.CondHolds .ne w32.cpu32.cpsr := ⟨trivial, rfl⟩

theorem witness_SoftwareInterrupt :
    (∃ (i : Instr) (ret : Word), ∃ o : SwiOps, i = .armSwi o ∧ Claims.CondHolds o.cond w32.cpu32.cpsr ∧
      ret = w32.cpu32.pc + 4) ∧
    (∃ (i : Instr) (ret : Word), ∃ n : Byte, i = .thumbSwi n ∧ ret = w32t.cpu32.pc + 2) :=
  ⟨⟨_, _, ⟨.al, 0#24⟩, rfl, trivial, rfl⟩, ⟨_, _, 0#8, rfl, rfl⟩⟩

theorem witness_ExceptionReturnUndoesEntry :
    (∃ (i : Instr) (ret : Word), (∃ o : SwiOps, i = .armSwi o ∧ Claims.CondHolds o.cond w32.cpu32.cpsr ∧
      w32.cpu32.cpsr.t = false ∧ ret = w32.cpu32.pc + 4) ∧ w32.cpu32.pcAligned) ∧
    (∃ (i : Instr) (ret : Word), (∃ n : Byte, i = .thumbSwi n ∧ (wUsr true).cpu32.cpsr.t = true ∧
      ret = (wUsr true).cpu32.pc + 2) ∧ (wUsr true).cpu32.pcAligned) := by
  refine ⟨⟨_, _, ⟨⟨.al, 0#24⟩, rfl, trivial, by decide, rfl⟩, ?_⟩, ⟨_, _, ⟨0#8, rfl, by decide, rfl⟩, ?_⟩⟩ <;>
    simp only [Cpu32.pcAligned] <;> decide

/-- The hazard of R842 by computation. -/
theorem hazard_iff (s : State) (w : Width) (a : Word) :
    Claims.Hazard s w a ↔ touchesPrefetch s.cpu32 (storeSpan w a s).1 (storeSpan w a s).2 = true := by
  rw [touchesPrefetch_iff]
  unfold Claims.Hazard Claims.len32 Cpu32.codeBytes
  cases s.cpu32.cpsr.t <;> rfl

/-- Both ends of the two slots after an ARM and after a THUMB instruction at 0x03000000. -/
theorem witness_Hazard :
    (∀ row ∈ [(Width.word, 0x03000004#32), (.word, 0x03000008#32), (.byte, 0x0300000B#32), (.half, 0x0300000A#32)],
      Claims.Hazard w32 row.1 row.2) ∧
    (∀ row ∈ [(Width.word, 0x03000000#32), (.word, 0x0300000C#32), (.byte, 0x03000003#32), (.byte, 0x0300000C#32)],
      ¬ Claims.Hazard w32 row.1 row.2 ∧ region row.2 ≠ .io) ∧
    (∀ row ∈ [(Width.half, 0x03000002#32), (.half, 0x03000004#32), (.word, 0x03000000#32), (.byte, 0x03000005#32)],
      Claims.Hazard w32t row.1 row.2) ∧
    (∀ row ∈ [(Width.half, 0x03000000#32), (.half, 0x03000006#32), (.word, 0x03000008#32), (.byte, 0x03000006#32)],
      ¬ Claims.Hazard w32t row.1 row.2 ∧ region row.2 ≠ .io) := by
  simp only [hazard_iff]
  decide

/-- The BIOS at both ends; ROM below its size and past it, in the first and the last window; unmapped holes; RAM. -/
theorem witness_Cpu32LoadedValue :
    (∀ a ∈ [0x00000000#32, 0x00003FFF#32], region a = .bios) ∧
    (∀ row ∈ [(0x08000000#32, true), (0x080FFFFF#32, true), (0x08100000#32, false), (0x0DFFFFFF#32, false)],
      (4 ≤ row.1.toNat / 0x2000000 ∧ row.1.toNat / 0x2000000 ≤ 6) ∧ isEepromAddr row.1 w32 = false ∧
        (row.1.toNat / Width.word.bytes * Width.word.bytes % 0x2000000 < w32.params.rom32Size ↔ row.2 = true)) ∧
    (∀ a ∈ [0x00004000#32, 0x01FFFFFF#32, 0x04000400#32, 0x10000000#32, 0xFFFFFFFF#32], region a = .unmapped) ∧
    (w32.params.openBusDraw = false ∧ { w32.params with openBusDraw := true }.openBusDraw = true) ∧
    ∀ a ∈ [0x02000000#32, 0x0203FFFF#32, 0x03FFFFFF#32, 0x05000000#32, 0x0601FFFF#32, 0x07000000#32, 0x07FFFFFF#32],
      Claims.isRam (region a) := by
  have kind : w32.cpu32.save.kind = .unknown := rfl
  have size : w32.params.rom32Size = 0x100000 := rfl
  exact ⟨by simp [region], by simp [isEepromAddr, isEepromType, kind, size, Width.bytes], by simp [region], ⟨rfl, rfl⟩,
    by simp [Claims.isRam, region]⟩

/-- Every kind of load has its immediate form, with and without writeback, and into the PC; and the register forms. -/
theorem witness_LoadForm (s : State) (o : XferImm) (p : XferReg) (h : HalfImm) (k : HalfReg)
    (hp : p.op2.rm ≠ 15#4) (ho : o.ix.rd ≠ 15#4) (hp' : p.ix.rd ≠ 15#4) (hh : ¬ (h.ix.pre = false ∧ h.ix.wb = true))
    (hk : ¬ (k.ix.pre = false ∧ k.ix.wb = true)) (hd : h.ix.rd ≠ 15#4) (kd : k.ix.rd ≠ 15#4) (hm : k.rm ≠ 15#4) :
    (∃ v, Claims.LoadForm .word s o.ix v (.armLdrImm o)) ∧ (∃ v, Claims.LoadForm .word s p.ix v (.armLdrReg p)) ∧
    (∃ v, Claims.LoadForm .unsignedByte s o.ix v (.armLdrbImm o)) ∧
    (∃ v, Claims.LoadForm .unsignedByte s p.ix v (.armLdrbReg p)) ∧
    (∃ v, Claims.LoadForm .unsignedHalf s h.ix v (.armLdrhImm h)) ∧
    (∃ v, Claims.LoadForm .unsignedHalf s k.ix v (.armLdrhReg k)) ∧
    (∃ v, Claims.LoadForm .signedByte s h.ix v (.armLdrsbImm h)) ∧
    (∃ v, Claims.LoadForm .signedByte s k.ix v (.armLdrsbReg k)) ∧
    (∃ v, Claims.LoadForm .signedHalf s h.ix v (.armLdrshImm h)) ∧
    (∃ v, Claims.LoadForm .signedHalf s k.ix v (.armLdrshReg k)) :=
  ⟨⟨_, .inl ⟨o, rfl, rfl, rfl⟩⟩, ⟨_, .inr ⟨p, rfl, rfl, hp, rfl⟩⟩, ⟨_, .inl ⟨o, rfl, rfl, rfl⟩, ho⟩,
    ⟨_, .inr ⟨p, rfl, rfl, hp, rfl⟩, hp'⟩, ⟨_, hh, hd, .inl ⟨h, rfl, rfl, rfl⟩⟩, ⟨_, hk, kd, .inr ⟨k, rfl, rfl, hm, rfl⟩⟩,
    ⟨_, hh, hd, .inl ⟨h, rfl, rfl, rfl⟩⟩, ⟨_, hk, kd, .inr ⟨k, rfl, rfl, hm, rfl⟩⟩, ⟨_, hh, hd, .inl ⟨h, rfl, rfl, rfl⟩⟩,
    ⟨_, hk, kd, .inr ⟨k, rfl, rfl, hm, rfl⟩⟩⟩

theorem named {α β : Type} (p : α × β) : ∃ a b, p = (a, b) := ⟨p.1, p.2, rfl⟩

/-- LDR R0, [R1], #4; LDRSH R0, [R1, #0xFF]; LDR PC, [R1, #4]!. -/
theorem witness_ArmLoads :
    (∃ offset i, Claims.LoadForm .word w32 ⟨.al, false, true, false, 1#4, 0#4⟩ offset i ∧
      Claims.CondHolds .al w32.cpu32.cpsr ∧ (0#4 : RegNum) ≠ 15#4 ∧
      (Claims.writesBack ⟨.al, false, true, false, 1#4, 0#4⟩ → (1#4 : RegNum) ≠ 15#4 ∧ (1#4 : RegNum) ≠ 0#4) ∧
      (∃ v s1, loadValue .word (Claims.transferAddr ⟨.al, false, true, false, 1#4, 0#4⟩ offset w32) w32 = (v, s1)) ∧
      Claims.writesBack ⟨.al, false, true, false, 1#4, 0#4⟩) ∧
    (∃ offset i, Claims.LoadForm .signedHalf w32 ⟨.al, true, true, false, 1#4, 0#4⟩ offset i ∧
      (0#4 : RegNum) ≠ 15#4 ∧ ¬ Claims.writesBack ⟨.al, true, true, false, 1#4, 0#4⟩ ∧
      (∃ v s1, loadValue .signedHalf (Claims.transferAddr ⟨.al, true, true, false, 1#4, 0#4⟩ offset w32) w32 = (v, s1))) ∧
    (∃ offset i, Claims.LoadForm .word w32 ⟨.al, true, true, true, 1#4, 15#4⟩ offset i ∧ (15#4 : RegNum) = 15#4 ∧
      (Claims.writesBack ⟨.al, true, true, true, 1#4, 15#4⟩ → (1#4 : RegNum) ≠ 15#4) ∧
      (∃ v s1, loadValue .word (Claims.transferAddr ⟨.al, true, true, true, 1#4, 15#4⟩ offset w32) w32 = (v, s1))) := by
  refine ⟨⟨_, _, .inl ⟨⟨_, 4#12⟩, rfl, rfl, rfl⟩, trivial, by decide, fun _ => by decide, named _, .inl rfl⟩,
    ⟨_, _, ⟨by decide, by decide, .inl ⟨⟨_, 0xF#4, 0xF#4⟩, rfl, rfl, rfl⟩⟩, by decide, ?_, named _⟩,
    ⟨_, _, .inl ⟨⟨_, 4#12⟩, rfl, rfl, rfl⟩, rfl, fun _ => by decide, named _⟩⟩
  simp [Claims.writesBack]

/-- STR R0, [R1]; STRB R0, [R1, R2, LSL #0]!; STRH R0, [R1, #0xFF]; and STR R0, [PC, #-4], into the next slot. -/
theorem witness_ArmStores :
    (∃ offset i, Claims.StoreForm .word w32 ⟨.al, true, true, false, 1#4, 0#4⟩ offset i ∧
      Claims.CondHolds .al w32.cpu32.cpsr ∧
      ¬ Claims.Hazard w32 .word (Claims.transferAddr ⟨.al, true, true, false, 1#4, 0#4⟩ offset w32) ∧
      region (Claims.transferAddr ⟨.al, true, true, false, 1#4, 0#4⟩ offset w32) ≠ .io) ∧
    (∃ offset i, Claims.StoreForm .byte w32 ⟨.al, true, true, true, 1#4, 0#4⟩ offset i ∧
      (Claims.writesBack ⟨.al, true, true, true, 1#4, 0#4⟩ → (1#4 : RegNum) ≠ 15#4) ∧
      ¬ Claims.Hazard w32 .byte (Claims.transferAddr ⟨.al, true, true, true, 1#4, 0#4⟩ offset w32) ∧
      region (Claims.transferAddr ⟨.al, true, true, true, 1#4, 0#4⟩ offset w32) ≠ .io) ∧
    (∃ offset i, Claims.StoreForm .half w32 ⟨.al, true, true, false, 1#4, 0#4⟩ offset i ∧
      ¬ Claims.Hazard w32 .half (Claims.transferAddr ⟨.al, true, true, false, 1#4, 0#4⟩ offset w32) ∧
      region (Claims.transferAddr ⟨.al, true, true, false, 1#4, 0#4⟩ offset w32) ≠ .io) ∧
    (∃ offset i, Claims.StoreForm .word w32 ⟨.al, true, false, false, 15#4, 0#4⟩ offset i ∧
      ¬ Claims.writesBack ⟨.al, true, false, false, 15#4, 0#4⟩ ∧
      Claims.Hazard w32 .word (Claims.transferAddr ⟨.al, true, false, false, 15#4, 0#4⟩ offset w32)) := by
  simp only [hazard_iff]
  refine ⟨⟨_, _, .inl ⟨⟨_, 0#12⟩, rfl, rfl, rfl⟩, trivial, by decide, by decide⟩,
    ⟨_, _, .inr ⟨⟨_, ⟨0#5, .lsl, 2#4⟩⟩, rfl, rfl, by decide, rfl⟩, fun _ => by decide, by decide, by decide⟩,
    ⟨_, _, ⟨by decide, by decide, .inl ⟨⟨_, 0xF#4, 0xF#4⟩, rfl, rfl, rfl⟩⟩, by decide, by decide⟩,
    ⟨_, _, .inl ⟨⟨_, 4#12⟩, rfl, rfl, rfl⟩, ?_, by decide⟩⟩
  simp [Claims.writesBack]

/-- One word for each restriction, in the order of the statement, and the block transfers. -/
theorem witness_ArmTransferRestrictions :
    (Claims.TransferRow (.armLdrhImm ⟨⟨.al, false, true, true, 1#4, 0#4⟩, 0#4, 0#4⟩) ⟨.al, false, true, true, 1#4, 0#4⟩
      true false true false) ∧
    (Claims.TransferRow (.armStrhReg ⟨⟨.al, true, true, false, 1#4, 15#4⟩, 2#4⟩) ⟨.al, true, true, false, 1#4, 15#4⟩
      false false true (decide ((2#4 : RegNum) = 15#4))) ∧
    (Claims.TransferRow (.armLdrReg ⟨⟨.al, true, true, false, 1#4, 0#4⟩, ⟨0#5, .lsl, 15#4⟩⟩)
      ⟨.al, true, true, false, 1#4, 0#4⟩ true false false (decide ((15#4 : RegNum) = 15#4))) ∧
    (Claims.TransferRow (.armLdrbImm ⟨⟨.al, true, true, false, 1#4, 15#4⟩, 0#12⟩) ⟨.al, true, true, false, 1#4, 15#4⟩
      true true false false) ∧
    (Claims.TransferRow (.armStrImm ⟨⟨.al, true, true, true, 15#4, 0#4⟩, 0#12⟩) ⟨.al, true, true, true, 15#4, 0#4⟩
      false false false false ∧ Claims.writesBack ⟨.al, true, true, true, 15#4, 0#4⟩) ∧
    (Claims.TransferRow (.armLdrImm ⟨⟨.al, false, true, false, 1#4, 1#4⟩, 0#12⟩) ⟨.al, false, true, false, 1#4, 1#4⟩
      true false false false ∧ Claims.writesBack ⟨.al, false, true, false, 1#4, 1#4⟩) ∧
    Claims.CondHolds .al w32.cpu32.cpsr ∧
    (¬ (true = true ∧ ((0x0006#16 : BitVec 16) = 0#16 ∨ (0x0006#16).getLsbD 15 = true)) ∧
      ¬ (false = true ∧ ((0x8000#16 : BitVec 16) = 0#16 ∨ (0x8000#16).getLsbD 15 = true)) ∧
      (true = true ∧ ((0x8000#16 : BitVec 16) = 0#16 ∨ (0x8000#16).getLsbD 15 = true)) ∧
      (w32.cpu32.cpsr.mode = .usr ∨ w32.cpu32.cpsr.mode = .sys) ∧
      ((wUsr false).cpu32.cpsr.mode = .usr ∨ (wUsr false).cpu32.cpsr.mode = .sys)) := by
  refine ⟨.inr (.inr (.inl ⟨⟨_, 0#4, 0#4⟩, rfl, ?_⟩)), .inr (.inr (.inr ⟨⟨_, 2#4⟩, rfl, ?_⟩)),
    .inr (.inl ⟨⟨_, ⟨0#5, .lsl, 15#4⟩⟩, rfl, ?_⟩), .inl ⟨⟨_, 0#12⟩, rfl, ?_⟩, ⟨.inl ⟨⟨_, 0#12⟩, rfl, ?_⟩, .inr rfl⟩,
    ⟨.inl ⟨⟨_, 0#12⟩, rfl, ?_⟩, .inl rfl⟩, trivial, by decide⟩ <;> simp

/-- A store outside the two slots completes, whatever its region but IO; the regions and mirrors at their ends. -/
theorem witness_Cpu32StoreFrame :
    (Memory.wf w32.cpu32.mem = true ∧ ∀ a ∈ [0x00000000#32, 0x02000000#32, 0x03007FFC#32, 0x05000000#32, 0x0600FFFE#32,
      0x06010000#32, 0x07000000#32, 0x08000000#32, 0x0E000000#32, 0x10000000#32], region a ≠ .io ∧
      (¬ Claims.Hazard w32 .byte a → ∃ t, storeData false .byte a 0x5A#32 w32 = .next t)) ∧
    (¬ Claims.Hazard w32 .byte 0x03007FFC#32 ∧ ¬ Claims.Hazard w32 .byte 0x0600FFFE#32) ∧
    (∀ row ∈ [(0x02000000#32, Region.ewram), (0x03FFFFFF#32, .iwram), (0x05FFFFFF#32, .palette), (0x06FFFFFF#32, .vram),
      (0x07FFFFFF#32, .oam), (0x00003FFF#32, .bios), (0x00004000#32, .unmapped), (0x040003FF#32, .io),
      (0x04000400#32, .unmapped), (0x0DFFFFFF#32, .rom 2), (0x0FFFFFFF#32, .save), (0x10000000#32, .unmapped)],
      region row.1 = row.2) ∧
    (0x10000 ≤ 0x10000 % 0x20000 ∧ 0x10000 % 0x20000 < 0x18000 ∧ 0x17FFF % 0x20000 < 0x18000) ∧
    (0x0600FFFF % 0x20000 < 0x10000 ∧ 0x10000 ≤ 0x06010000 % 0x20000) := by
  refine ⟨⟨by decide, fun a ha => ?_⟩, ?_, by simp [region], by decide, by decide⟩
  · have hr : region a ≠ .io := by
      revert a
      simp [region]
    refine ⟨hr, fun h => ?_⟩
    obtain ⟨t, -⟩ | ⟨-, t, ht, -⟩ := storeData_cases false .byte a 0x5A#32 w32 hr
    · exact absurd ((hazard_iff _ _ _).2 t) h
    · exact ⟨t, ht⟩
  · simp only [hazard_iff]
    decide

/-- LDMIA R1!, {R0, R2}; in IRQ mode LDMDB R1, {R13, R14}^; LDMIA R1!, {R0, PC} and LDMIA R1!, {}; in IRQ mode
LDMIA R1!, {R0, PC}^ with an SPSR, and with one that names no mode. The j-th registers of a list. -/
theorem witness_ArmLoadMultiple :
    ((0x0005#16 ≠ 0#16 ∧ (0x0005#16).getLsbD 15 = false ∧
        Claims.BlockAllowed ⟨.al, false, true, false, true, 1#4, 0x0005#16⟩ False w32 ∧
        (0x0005#16).getLsbD (1#4).toNat = false) ∧
      ∀ j, j < Claims.listCount 0x0005#16 → Claims.isRam (region
        (Claims.blockLow ⟨.al, false, true, false, true, 1#4, 0x0005#16⟩ (readReg 1#4 w32) 8 + BitVec.ofNat 32 (4 * j)))) ∧
    (0x6000#16 ≠ 0#16 ∧ (0x6000#16).getLsbD 15 = false ∧
      Claims.BlockAllowed ⟨.al, true, false, true, false, 1#4, 0x6000#16⟩ False (wIrq 0x10)) ∧
    (((0x8001#16).getLsbD 15 = true ∧
        Claims.BlockAllowed ⟨.al, false, true, false, true, 1#4, 0x8001#16⟩ True w32) ∧
      ∀ j, j < Claims.listCount 0x8001#16 → Claims.isRam (region
        (Claims.blockLow ⟨.al, false, true, false, true, 1#4, 0x8001#16⟩ (readReg 1#4 w32) 8 + BitVec.ofNat 32 (4 * j)))) ∧
    (Claims.BlockAllowed ⟨.al, false, true, false, true, 1#4, 0#16⟩ True w32 ∧
      ∀ j, j < 1 → Claims.isRam (region
        (Claims.blockLow ⟨.al, false, true, false, true, 1#4, 0#16⟩ (readReg 1#4 w32) 0x40 + BitVec.ofNat 32 (4 * j)))) ∧
    (Claims.BlockAllowed ⟨.al, false, true, true, true, 1#4, 0x8001#16⟩ True (wIrq 0x6000003F) ∧
      ∃ w p, (wIrq 0x6000003F).cpu32.spsr? (wIrq 0x6000003F).cpu32.cpsr.mode = some w ∧ Psr.ofWord? w = some p) ∧
    (Claims.BlockAllowed ⟨.al, false, true, true, true, 1#4, 0x8001#16⟩ True (wIrq 0x05) ∧
      (wIrq 0x05).cpu32.spsr? (wIrq 0x05).cpu32.cpsr.mode = some 0x05#32 ∧ Psr.ofWord? 0x05#32 = none) ∧
    (Claims.Listed 0x8001#16 0 0#4 ∧ Claims.Listed 0x8001#16 1 15#4 ∧ Claims.Listed 0x6000#16 1 14#4) := by
  refine ⟨⟨⟨by decide, by decide, ?_, by decide⟩, ?_⟩, ⟨by decide, by decide, ?_⟩, ⟨⟨by decide, ?_⟩, ?_⟩, ⟨?_, ?_⟩,
    ⟨?_, 0x6000003F#32, _, by decide, rfl⟩, ⟨?_, by decide, by decide⟩, ?_⟩
  · exact ⟨trivial, by decide, by decide, by decide⟩
  · simp only [Claims.isRam]; decide
  · exact ⟨trivial, by decide, by decide, by decide⟩
  · exact ⟨trivial, by decide, by decide, by decide⟩
  · simp only [Claims.isRam]; decide
  · exact ⟨trivial, by decide, by decide, by decide⟩
  · simp only [Claims.isRam]; decide
  · exact ⟨trivial, by decide, fun _ _ => trivial, by decide⟩
  · exact ⟨trivial, by decide, fun _ _ => trivial, by decide⟩
  · simp only [Claims.Listed]; decide

/-- R1 and R13 at, and just above, an instruction at 0x03000000. -/
def wNear (thumb : Bool) : State := ready32 thumb (fun c => x 1 0x03000000 (x 13 0x03000008 (regs c))) 0xE1A00000

/-- The j-th address of a block transfer. -/
def blockAt (o : BlockOps) (s : State) (size j : Nat) : Word :=
  Claims.blockLow o (readReg o.rn s) size + BitVec.ofNat 32 (4 * j)

/-- STMIA R1!, {R0, R1, PC}; STMDB R1!, {}; in IRQ mode STMIB R1, {R13, R14}^; and STMIA R1, {R0, R1} onto the next
instruction. -/
theorem witness_ArmStoreMultiple :
    (∀ s ∈ [w32, wIrq 0x10], Memory.wf s.cpu32.mem = true) ∧
    (let o : BlockOps := ⟨.al, false, true, false, true, 1#4, 0x8003#16⟩
     Claims.BlockAllowed o False w32 ∧ ∀ j, j < Claims.listCount o.list → region (blockAt o w32 12 j) = .iwram ∧
       ¬ Claims.Hazard w32 .word (Claims.wordAt (blockAt o w32 12 j))) ∧
    (let o : BlockOps := ⟨.al, true, false, false, true, 1#4, 0#16⟩
     Claims.BlockAllowed o False w32 ∧ ∀ j, j < 1 → region (blockAt o w32 0x40 j) = .iwram ∧
       ¬ Claims.Hazard w32 .word (Claims.wordAt (blockAt o w32 0x40 j))) ∧
    (let o : BlockOps := ⟨.al, true, true, true, false, 1#4, 0x6000#16⟩
     Claims.BlockAllowed o False (wIrq 0x10) ∧ ∀ j, j < Claims.listCount o.list → region (blockAt o (wIrq 0x10) 8 j) = .iwram ∧
       ¬ Claims.Hazard (wIrq 0x10) .word (Claims.wordAt (blockAt o (wIrq 0x10) 8 j))) ∧
    (let o : BlockOps := ⟨.al, false, true, false, false, 1#4, 0x0003#16⟩
     Claims.BlockAllowed o False (wNear false) ∧
       (∀ j, j < Claims.listCount o.list → region (blockAt o (wNear false) 8 j) = .iwram) ∧
       ∃ j, j < Claims.listCount o.list ∧ Claims.Hazard (wNear false) .word (Claims.wordAt (blockAt o (wNear false) 8 j))) := by
  simp only [hazard_iff]
  refine ⟨by decide, ⟨⟨trivial, by decide, by decide, by decide⟩, by decide⟩,
    ⟨⟨trivial, by decide, by decide, by decide⟩, by decide⟩, ⟨⟨trivial, by decide, by decide, by decide⟩, by decide⟩,
    ⟨⟨trivial, by decide, by decide, by decide⟩, by decide, 1, by decide, by decide⟩⟩

/-- SWP R0, R2, [R1], each restriction, and SWP onto the next instruction. -/
theorem witness_ArmSwap : Claims.CondHolds .al w32.cpu32.cpsr ∧
    (let o : SwapOps := ⟨.al, 1#4, 0#4, 2#4⟩;
      ¬ (o.rn = 15#4 ∨ o.rd = 15#4 ∨ o.rm = 15#4 ∨ o.rn = o.rd ∨ o.rn = o.rm) ∧
      (∃ v s1, loadValue .word (readReg o.rn w32) w32 = (v, s1)) ∧
      ¬ Claims.Hazard w32 .word (readReg o.rn w32) ∧ region (readReg o.rn w32) ≠ .io) ∧
    (∀ o ∈ [(⟨.al, 15#4, 0#4, 2#4⟩ : SwapOps), ⟨.al, 1#4, 15#4, 2#4⟩, ⟨.al, 1#4, 0#4, 15#4⟩, ⟨.al, 1#4, 1#4, 2#4⟩,
      ⟨.al, 1#4, 0#4, 1#4⟩], o.rn = 15#4 ∨ o.rd = 15#4 ∨ o.rm = 15#4 ∨ o.rn = o.rd ∨ o.rn = o.rm) ∧
    (Claims.Hazard (on32 (x 1 0x03000007) w32) .byte (readReg 1#4 (on32 (x 1 0x03000007) w32)) ∧
      ∃ v s1, loadValue .unsignedByte (readReg 1#4 (on32 (x 1 0x03000007) w32)) (on32 (x 1 0x03000007) w32) = (v, s1)) := by
  simp only [hazard_iff]
  exact ⟨trivial, ⟨by decide, named _, by decide, by decide⟩, by decide, by decide, named _⟩

/-! THUMB. -/

theorem witness_ThumbArithmetic :
    (∃ i a b, (∃ rs rn, a = Claims.lowReg w32t rs ∧ b = Claims.lowReg w32t rn ∧
      (i, DpOp.sub) ∈ [(Instr.thumbAddReg 7#3 rs rn, DpOp.add), (.thumbSubReg 7#3 rs rn, .sub)])) ∧
    (∃ i a b, (∃ rs, ∃ imm : BitVec 3, a = Claims.lowReg w32t rs ∧ b = BitVec.ofNat 32 imm.toNat ∧
      (i, DpOp.add) ∈ [(Instr.thumbAddImm3 7#3 rs imm, DpOp.add), (.thumbSubImm3 7#3 rs imm, .sub)])) ∧
    (∃ i a b, ∃ imm : Byte, a = Claims.lowReg w32t 7#3 ∧ b = BitVec.ofNat 32 imm.toNat ∧
      (i, DpOp.cmp) ∈ [(Instr.thumbMovImm 7#3 imm, DpOp.mov), (.thumbCmpImm 7#3 imm, .cmp), (.thumbAddImm8 7#3 imm, .add),
        (.thumbSubImm8 7#3 imm, .sub)]) ∧
    (∃ i a b, ∃ rs, a = Claims.lowReg w32t 7#3 ∧ b = Claims.lowReg w32t rs ∧
      (i, DpOp.mvn) ∈ [(Instr.thumbAnd 7#3 rs, DpOp.and), (.thumbEor 7#3 rs, .eor), (.thumbAdc 7#3 rs, .adc),
        (.thumbSbc 7#3 rs, .sbc), (.thumbTst 7#3 rs, .tst), (.thumbCmp 7#3 rs, .cmp), (.thumbCmn 7#3 rs, .cmn),
        (.thumbOrr 7#3 rs, .orr), (.thumbBic 7#3 rs, .bic), (.thumbMvn 7#3 rs, .mvn)]) ∧
    (∃ i a b, ∃ rs, a = Claims.lowReg w32t rs ∧ b = 0#32 ∧ i = Instr.thumbNeg 7#3 rs ∧ DpOp.rsb = .rsb) ∧
    (∀ op a b, ∃ r c v, dpResult op a b w32t.cpu32.cpsr.c w32t.cpu32.cpsr = (r, c, v)) ∧
    ¬ Claims.isTest .sub ∧ Claims.isTest .cmp :=
  ⟨⟨_, _, _, 1#3, 2#3, rfl, rfl, by simp; rfl⟩, ⟨_, _, _, 1#3, 7#3, rfl, rfl, by simp; rfl⟩,
    ⟨_, _, _, 0xFF#8, rfl, rfl, by simp; rfl⟩, ⟨_, _, _, 1#3, rfl, rfl, by simp; rfl⟩, ⟨_, _, _, 1#3, rfl, rfl, rfl, rfl⟩,
    fun _ _ _ => ⟨_, _, _, rfl⟩, by simp [Claims.isTest], by simp [Claims.isTest]⟩

theorem witness_ThumbShiftsMultiply :
    (∀ row ∈ [(Instr.thumbLslImm 0#3 1#3 0#5, Shift.lsl), (.thumbLsrImm 0#3 1#3 0#5, .lsr),
      (.thumbAsrImm 0#3 1#3 0#5, .asr)], row ∈ [(Instr.thumbLslImm 0#3 1#3 0#5, Shift.lsl),
      (.thumbLsrImm 0#3 1#3 0#5, .lsr), (.thumbAsrImm 0#3 1#3 0#5, .asr)]) ∧
    (∀ row ∈ [(Instr.thumbLsl 0#3 2#3, Shift.lsl), (.thumbLsr 0#3 2#3, .lsr), (.thumbAsr 0#3 2#3, .asr),
      (.thumbRor 0#3 2#3, .ror)], row ∈ [(Instr.thumbLsl 0#3 2#3, Shift.lsl), (.thumbLsr 0#3 2#3, .lsr),
      (.thumbAsr 0#3 2#3, .asr), (.thumbRor 0#3 2#3, .ror)]) ∧
    (0x0C000400#32).toNat = ((Claims.lowReg w32t 1#3).toNat * (Claims.lowReg w32t 2#3).toNat) % 2 ^ 32 ∧
    Claims.ICycles (Claims.lowReg w32t 2#3) 1 := by
  refine ⟨by decide, by decide, by decide, ?_⟩
  simp only [Claims.ICycles]
  decide

theorem witness_ThumbHighRegisters :
    (8 ≤ (8#4).toNat ∨ 8 ≤ (0#4).toNat) ∧ (8 ≤ (7#4).toNat ∨ 8 ≤ (15#4).toNat) ∧ (8#4 ≠ 15#4 ∧ 15#4 = 15#4) ∧
    ((7#4).toNat < 8 ∧ (0#4).toNat < 8) ∧
    (∃ r c v, addC (readReg 8#4 w32t) (~~~(readReg 0#4 w32t)) true = (r, c, v)) :=
  ⟨by decide, by decide, by decide, by decide, _, _, _, rfl⟩

theorem witness_ThumbLoads :
    (∃ a i, Claims.ThumbLoadForm .word 0#3 a i w32t ∧ ∃ v s1, loadValue .word a w32t = (v, s1)) ∧
    (∃ a, Claims.ThumbLoadForm .signedHalf 0#3 a (.thumbLdshReg 0#3 1#3 2#3) w32t) ∧
    (∃ a, Claims.ThumbLoadForm .unsignedHalf 0#3 a (.thumbLdrhImm 0#3 1#3 31#5) w32t) ∧
    (∃ a, Claims.ThumbLoadForm .word 0#3 a (.thumbLdrSp 0#3 0xFF#8) w32t) :=
  ⟨⟨_, _, .inl ⟨0xFF#8, rfl, rfl, rfl⟩, named _⟩, ⟨_, .inr (.inl ⟨1#3, 2#3, rfl, by simp⟩)⟩,
    ⟨_, .inr (.inr (.inl ⟨1#3, 31#5, 2, rfl, by simp⟩))⟩, ⟨_, .inr (.inr (.inr ⟨0xFF#8, rfl, rfl, rfl⟩))⟩⟩

/-- A store of each form, none into the two slots; and one into them, at PC + 2. -/
theorem witness_ThumbStores :
    (∃ a, Claims.ThumbStoreForm .half 0#3 a (.thumbStrhReg 0#3 1#3 2#3) w32t ∧ ¬ Claims.Hazard w32t .half a ∧
      region a ≠ .io) ∧
    (∃ a, Claims.ThumbStoreForm .byte 0#3 a (.thumbStrbImm 0#3 1#3 31#5) w32t ∧ ¬ Claims.Hazard w32t .byte a ∧
      region a ≠ .io) ∧
    (∃ a, Claims.ThumbStoreForm .word 0#3 a (.thumbStrSp 0#3 0xFF#8) w32t ∧ ¬ Claims.Hazard w32t .word a ∧
      region a ≠ .io) ∧
    (∃ (s : State) (a : Word), Claims.ThumbStoreForm .byte 0#3 a (.thumbStrbImm 0#3 1#3 2#5) s ∧
      Claims.Hazard s .byte a) := by
  simp only [hazard_iff]
  exact ⟨⟨0x03000104#32, .inl ⟨1#3, 2#3, by decide, by simp⟩, by decide, by decide⟩,
    ⟨0x0300011F#32, .inr (.inl ⟨1#3, 31#5, 1, by decide, by simp⟩), by decide, by decide⟩,
    ⟨0x0300050C#32, .inr (.inr ⟨0xFF#8, rfl, rfl, by decide⟩), by decide, by decide⟩,
    ⟨ready32 true (x 1 0x03000000) 0x46C0, 0x03000002#32, .inr (.inl ⟨1#3, 2#5, 1, by decide, by simp⟩), by decide⟩⟩

theorem witness_ThumbLoadMultiple :
    ((0x81#8 : Byte) ≠ 0#8 ∧ (0x81#8).getLsbD (1#3).toNat = false ∧
      ∀ j, j < Claims.listCount (Claims.thumbList 0x81#8 0#16) →
        Claims.isRam (region (Claims.lowReg w32t 1#3 + BitVec.ofNat 32 (4 * j)))) ∧
    ((true = true ∨ (0#8 : Byte) ≠ 0#8) ∧ (false = true ∨ (0x80#8 : Byte) ≠ 0#8) ∧
      ∀ j, j < Claims.listCount (Claims.thumbList 0xFF#8 0x8000#16) →
        Claims.isRam (region (readReg 13#4 w32t + BitVec.ofNat 32 (4 * j)))) ∧
    (Claims.Listed (Claims.thumbList 0x81#8 0x8000#16) 1 7#4 ∧ Claims.Listed (Claims.thumbList 0x81#8 0x8000#16) 2 15#4) := by
  simp only [Claims.isRam, Claims.Listed]
  decide

/-- PUSH {R0, R7, LR} and STMIA R1!, {R0, R1}; STMIA R1!, {R0, R1} and PUSH {R0, R1} onto the next instruction. -/
theorem witness_ThumbStoreMultiple :
    (∃ (lr : Bool) (list : Byte), (lr = true ∨ list ≠ 0#8) ∧ Instr.thumbPush true 0x81#8 = .thumbPush lr list ∧
      0x4081#16 = Claims.thumbList list (if lr then 0x4000#16 else 0#16) ∧ 13#4 = (13#4 : RegNum) ∧
      0x03000104#32 = readReg 13#4 w32t - BitVec.ofNat 32 (4 * Claims.listCount 0x4081#16) ∧
      0x03000104#32 = 0x03000104#32) ∧
    (∃ (rb : LowReg) (list : Byte), list ≠ 0#8 ∧ Instr.thumbStmia 1#3 0x03#8 = .thumbStmia rb list ∧
      0x0003#16 = Claims.thumbList list 0#16 ∧ 1#4 = rb.setWidth 4 ∧ 0x03000100#32 = Claims.lowReg w32t rb ∧
      0x03000108#32 = 0x03000100#32 + BitVec.ofNat 32 (4 * Claims.listCount 0x0003#16)) ∧
    (Memory.wf w32t.cpu32.mem = true ∧
      (∀ j, j < Claims.listCount 0x4081#16 → region (0x03000104#32 + BitVec.ofNat 32 (4 * j)) = .iwram ∧
        ¬ Claims.Hazard w32t .word (Claims.wordAt (0x03000104#32 + BitVec.ofNat 32 (4 * j)))) ∧
      ∀ j, j < Claims.listCount 0x0003#16 → region (0x03000100#32 + BitVec.ofNat 32 (4 * j)) = .iwram ∧
        ¬ Claims.Hazard w32t .word (Claims.wordAt (0x03000100#32 + BitVec.ofNat 32 (4 * j)))) ∧
    (Claims.lowReg (wNear true) 1#3 = 0x03000000#32 ∧
      readReg 13#4 (wNear true) - BitVec.ofNat 32 (4 * Claims.listCount 0x0003#16) = 0x03000000#32 ∧
      (∀ j, j < Claims.listCount 0x0003#16 → region (0x03000000#32 + BitVec.ofNat 32 (4 * j)) = .iwram) ∧
      ∃ j, j < Claims.listCount 0x0003#16 ∧
        Claims.Hazard (wNear true) .word (Claims.wordAt (0x03000000#32 + BitVec.ofNat 32 (4 * j)))) := by
  simp only [hazard_iff]
  refine ⟨⟨true, 0x81#8, .inl rfl, rfl, by decide, trivial, by decide, trivial⟩, ⟨1#3, 0x03#8, by decide, rfl, by decide, by decide,
    by decide, by decide⟩, ⟨by decide, by decide, by decide⟩, by decide, by decide, by decide, 0, by decide, by decide⟩

theorem witness_ThumbBranches : (Claims.CondHolds .ne w32t.cpu32.cpsr ∧ ¬ Claims.CondHolds .eq w32t.cpu32.cpsr) ∧
    (w32t.cpu32.cpsr.t = true ∧ w32t.cpu32.pc &&& 1#32 = 0#32) :=
  ⟨⟨rfl, (by decide : ¬ w32t.cpu32.cpsr.z = true)⟩, by decide, by decide⟩

/-- Each undefined space, at its first and last word. -/
theorem witness_ThumbStops :
    (Instr.thumbUndefB1 0xB1FF#16 ∈ [.thumbUndefBlx 0xB1FF#16, .thumbUndefB1 0xB1FF#16, .thumbUndefB2 0xB1FF#16,
      .thumbUndefB6 0xB1FF#16, .thumbUndefB8 0xB1FF#16, .thumbUndefBE 0xB1FF#16, .thumbUndefCond14 0xB1FF#16,
      .thumbUndefE8 0xB1FF#16]) ∧
    (∀ row ∈ [(0x4780, 128, 0x8F), (0x47FF, 128, 0x8F), (0xB100, 256, 0xB1), (0xB1FF, 256, 0xB1), (0xB200, 512, 0x59),
      (0xB3FF, 512, 0x59), (0xB600, 512, 0x5B), (0xB7FF, 512, 0x5B), (0xB800, 1024, 0x2E), (0xBBFF, 1024, 0x2E),
      (0xBE00, 512, 0x5F), (0xBFFF, 512, 0x5F), (0xDE00, 256, 0xDE), (0xDEFF, 256, 0xDE), (0xE800, 2048, 0x1D),
      (0xEFFF, 2048, 0x1D)], row.1 < 2 ^ 16 ∧ row.1 / row.2.1 = row.2.2) := by decide

/-! The machine around the instructions. -/

/-- R64: KEYINPUT after reset, and a write of it. -/
theorem test_keyinput : (memRead .half 0x04000130#32 w32).1 = 0x03FF#32 ∧
    memWrite .cpu .half 0x04000130#32 0#32 w32 = .next w32 := ⟨by decide, rfl⟩

/-- The rows of the lists at their first and last entries; each write at the boundary of what is refused. -/
theorem witness_Cpu32IoRegisters :
    (∀ row ∈ [(0x200, 0x3FFF#16), (0x202, 0x3FFF#16), (0x204, 0xDFFF#16), (0x208, 0x0001#16)],
      ∃ value t, Claims.PlainIo w32 0xFFFF#16 row.1 row.2 value t) ∧
    (∃ t, memWrite .cpu .half (BitVec.ofNat 32 (0x040000B0 + 12 * 3 + 10)) 0x7FFF#32 w32 = .next t) ∧
    (∀ row ∈ [(0x04000201#32, 0x200), (0x04000208#32, 0x208), (0x0400010F#32, 0x10E), (0x040000B0#32, 0xB0),
      (0x040000DF#32, 0xDE)], ∃ stored, Claims.MergedIo w32 row.2 stored ∧ row.1.toNat / 2 * 2 = 0x04000000 + row.2) ∧
    (region 0x04000200#32 = .io ∧ region 0x040003FF#32 = .io) ∧
    ((0x7F#32).getLsbD 7 = false ∧ (0x80#32).getLsbD 7 = true ∧ (0x7FFF#32).getLsbD 15 = false ∧
      (0x8000#32).getLsbD 15 = true) ∧
    (∀ o ∈ [0x000, 0x0AE, 0x0E0, 0x0FE, 0x110, 0x132, 0x206, 0x302, 0x3FE], o < 0x400 ∧ o % 2 = 0 ∧
      ¬ (0xB0 ≤ o ∧ o < 0xE0) ∧ ¬ (0x100 ≤ o ∧ o < 0x110) ∧ o ∉ [0x130, 0x200, 0x202, 0x204, 0x208, 0x20A, 0x300]) ∧
    (w32.cpu32.dma[(0 : Fin 4)].control.getLsbD 15 = false ∧ (0x8180#16).getLsbD 15 = true ∧
      (0x8180#16).toNat / 128 % 4 = 3) ∧
    ((0x09FFFFFF#32).toNat / 0x1000000 = 9 + 2 * 0 ∧ (0x0DFFFFFF#32).toNat / 0x1000000 = 9 + 2 * 2 ∧
      (0x0FFFFFFF#32).toNat / 0x1000000 = 15 ∧ (0x02FFFFFF#32).toNat / 0x1000000 = 2 ∧
      (0x06000000#32).toNat / 0x1000000 = 6 ∧ 16 ≤ (0x10000000#32).toNat / 0x1000000) ∧
    (region 0x040000DF#32 = .io ∧ (0x040000DF#32 ≠ 0x04000301#32 ∨ (0x80#32).getLsbD 7 = false) ∧
      ∀ n : Fin 4, (0x040000DF#32).toNat = 0x040000BB + 12 * n.val → (0x80#32).getLsbD 7 = true →
        w32.cpu32.dma[n].control.getLsbD 15 = true ∨
          ¬ ((0x80#32).getLsbD 0 = true ∧ w32.cpu32.dma[n].control.getLsbD 7 = true)) ∧
    (let ok := fun (a v : Word) => (a.toNat / 2 * 2 ≠ 0x04000300 ∨ v.getLsbD 15 = false) ∧
      ∀ n : Fin 4, a.toNat / 2 * 2 = 0x040000BA + 12 * n.val → v.getLsbD 15 = true →
        w32.cpu32.dma[n].control.getLsbD 15 = true ∨ v.toNat / 128 % 4 ≠ 3
     ok 0x04000301#32 0x7FFF#32 ∧ ok 0x040000DE#32 0x8100#32) ∧
    (let ok := fun (a v : Word) => (a.toNat / 4 * 4 ≠ 0x04000300 ∨ v.getLsbD 15 = false) ∧
      ∀ n : Fin 4, a.toNat / 4 * 4 = 0x040000B8 + 12 * n.val → v.getLsbD 31 = true →
        w32.cpu32.dma[n].control.getLsbD 15 = true ∨ v.toNat / 0x800000 % 4 ≠ 3
     ok 0x04000303#32 0xFFFF7FFF#32 ∧ ok 0x040000DC#32 0x81000000#32) := by
  refine ⟨?_, ⟨_, rfl⟩, ?_, ⟨by simp [region], by simp [region]⟩, by decide, by decide, by decide, by decide,
    ⟨by simp [region], by decide, by decide⟩, ⟨⟨by decide, by decide⟩, by decide, by decide⟩,
    ⟨by decide, by decide⟩, by decide, by decide⟩
  · simp only [Claims.PlainIo, List.forall_mem_cons]
    exact ⟨⟨_, _, .head _⟩, ⟨_, _, .tail _ (.head _)⟩, ⟨_, _, .tail _ (.tail _ (.head _))⟩,
      ⟨_, _, .tail _ (.tail _ (.tail _ (.head _)))⟩, by simp⟩
  · simp only [Claims.MergedIo, List.forall_mem_cons]
    exact ⟨⟨_, .inl (.head _), by decide⟩, ⟨_, .inl (.tail _ (.tail _ (.head _))), by decide⟩,
      ⟨_, .inr ⟨3, .tail _ (.head _)⟩, by decide⟩, ⟨_, .inr ⟨0, .tail _ (.tail _ (.head _))⟩, by decide⟩,
      ⟨_, .inr ⟨3, .tail _ (.tail _ (.tail _ (.tail _ (.tail _ (.tail _ (.tail _ (.head _)))))))⟩, by decide⟩, by simp⟩

/-- Timer 0 interrupting, enabled and pending, with this CPSR.I. -/
def irq32 (i halted : Bool) : State :=
  on32 (fun c => { c with ime := true, ie := 0x0008, iflag := 0x3FFF, halted := halted, cpsr := { c.cpsr with i := i } }) w32

theorem witness_Cpu32Interrupts :
    (∀ i h, Claims.Boundary32 (irq32 i h)) ∧ Claims.Boundary32 (on32 (fun c => { c with halted := true }) w32) ∧
    (let s := on32 (fun c => { c with halted := true }) w32; s.cpu32.halted = true ∧ s.cpu32.ie &&& s.cpu32.iflag = 0#14) ∧
    ((irq32 true true).cpu32.halted = true ∧ (irq32 true true).cpu32.ie &&& (irq32 true true).cpu32.iflag ≠ 0#14) ∧
    Claims.Irq32 (irq32 false false) ∧ Claims.Irq32 (irq32 false true) ∧ ¬ Claims.Irq32 (irq32 true false) := by
  simp only [Claims.Boundary32, Claims.Irq32]
  decide

/-- A timer with this prescaler, one cycle before its count. -/
def lateTimer (control counter : Half) (phase : Nat) : Timer :=
  { counter := counter, reload := 0x1234, control := control, phase := phase }

/-- Every divisor at its last phase and before; the first and the last timer; a chained timer and one that is not. -/
theorem witness_Cpu32Timers :
    (∀ row ∈ [(0x0080#16, 0, 1), (0x0081#16, 63, 64), (0x0082#16, 255, 256), (0x00C3#16, 1023, 1024)],
      (let t := lateTimer row.1 0xFFFF row.2.1;
        (match t.control.toNat % 4 with | 0 => 1 | 1 => 64 | 2 => 256 | _ => 1024) = row.2.2 ∧
          t.control.getLsbD 7 = true ∧ t.control.getLsbD 2 = false ∧ t.phase + 1 = row.2.2)) ∧
    ((lateTimer 0x0081 0 62).phase + 1 ≠ 64 ∧ (lateTimer 0x0081 0xFFFE 63).counter ≠ 0xFFFF#16) ∧
    (¬ ((lateTimer 0x0084 0 0).control.getLsbD 7 = true ∧ ((1 : Fin 4).val = 0 ∨ (lateTimer 0x0084 0 0).control.getLsbD 2 = false)) ∧
      ((lateTimer 0x0084 0 0).control.getLsbD 7 = true ∧ ((0 : Fin 4).val = 0 ∨ (lateTimer 0x0084 0 0).control.getLsbD 2 = false))) ∧
    (let c := { w32.cpu32 with timers := #v[lateTimer 0x0081 0xFFFE 63, Timer.reset, Timer.reset, Timer.reset] };
      c.timers[0].control.getLsbD 7 = true ∧ c.timers[0].control.toNat % 4 = 1 ∧
        (∀ n : Fin 4, n ≠ 0 → c.timers[n].control.getLsbD 7 = false) ∧ c.timers[0].phase < 64 ∧
        c.timers[0].counter.toNat + (c.timers[0].phase + 64) / 64 < 0x10000) ∧
    (w32.cpu32.timers[3].control.getLsbD 7 = false ∧ (0x0080#16).getLsbD 7 = true) := by decide

/-- Three timers about to overflow into the last, with this control of the third. -/
def chain32 (third : Half) : Cpu32 :=
  { w32.cpu32 with
    timers := #v[lateTimer 0x00C0 0xFFFF 0, lateTimer 0x00C4 0xFFFF 0, lateTimer third 0xFFFF 0, lateTimer 0x00C4 0 0] }

/-- A chain from the first timer to the last, and one that the third timer, not enabled, breaks. -/
theorem witness_Cpu32Timers_chain :
    (Claims.Ticks (chain32 0x00C4) 0 0 ∧ Claims.Ticks (chain32 0x00C4) 0 3) ∧
      ¬ Claims.Ticks (chain32 0x0004) 0 2 ∧ ¬ Claims.Ticks (chain32 0x0004) 0 3 := by
  unfold Claims.Ticks
  decide

/-- A DMA channel from palette to EWRAM: control 0x8400 moves 32-bit units, 0x8000 16-bit ones. -/
def dma32 (control : Half) (count : Nat) : DmaChannel :=
  { DmaChannel.reset with control := control, isrc := 0x05008000, idst := 0x02008000, icount := count, pending := true }

def wDma (n : Fin 4) (control : Half) (count : Nat) : State :=
  on32 (fun c => { c with dma := c.dma.set n (dma32 control count) }) w32

/-- Addresses of a region within 0x8000 of its middle. -/
theorem region_near (base : Nat) (r : Region) (a : Word) (w : Width) (control k : Nat) (hk : k * w.bytes ≤ 0x8000)
    (h : (base, r) = (0x05008000, .palette) ∨ (base, r) = (0x02008000, .ewram)) (ha : a = BitVec.ofNat 32 base) :
    region (a + BitVec.ofNat 32 k * Claims.dmaMove control w) = r := by
  have m : BitVec.ofNat 32 k * Claims.dmaMove control w = BitVec.ofNat 32 (k * w.bytes) ∨
      BitVec.ofNat 32 k * Claims.dmaMove control w = -BitVec.ofNat 32 (k * w.bytes) ∨
      BitVec.ofNat 32 k * Claims.dmaMove control w = 0#32 := by
    unfold Claims.dmaMove
    split
    · exact .inr (.inl (by rw [BitVec.mul_neg, BitVec.ofNat_mul]))
    split
    · exact .inr (.inr (by simp))
    · exact .inl (by rw [BitVec.ofNat_mul])
  have e : (a + BitVec.ofNat 32 k * Claims.dmaMove control w).toNat / 0x1000000 = base / 0x1000000 := by
    subst ha
    generalize k * w.bytes = n at hk m
    obtain h | h := h <;> cases h <;> obtain m | m | m := m <;> rw [m] <;>
      simp [BitVec.toNat_add, BitVec.toNat_ofNat] <;> omega
  obtain h | h := h <;> cases h <;> simp only [region, e]

/-- 0x2000 words up on channel 3, 0x4000 halfwords down to a fixed place on channel 0, inc-reload on channel 2, and no unit
at all. -/
theorem witness_Cpu32DmaRun :
    (∀ row ∈ [((3 : Fin 4), 0x8400#16, 0x2000, Width.word), (0, 0x80C0#16, 0x4000, .half), (2, 0x9660#16, 0x2000, .word),
        (1, 0x8120#16, 0, .half)],
      let s := wDma row.1 row.2.1 row.2.2.1;
      let d := dma32 row.2.1 row.2.2.1;
      let w := row.2.2.2;
      Memory.wf s.cpu32.mem = true ∧ s.cpu32.dma[row.1] = d ∧ w = (if d.control.getLsbD 10 then Width.word else .half) ∧
        d.control.toNat / 128 % 4 ≠ 3 ∧ Region.palette ≠ .ewram ∧ d.icount * w.bytes ≤ 0x8000) ∧
    (Claims.isRam .palette ∧ ∀ (control : Half) (count k move : Nat) (w : Width), k * w.bytes ≤ 0x8000 →
      region ((dma32 control count).isrc + BitVec.ofNat 32 k * Claims.dmaMove move w) = .palette ∧
      region ((dma32 control count).idst + BitVec.ofNat 32 k * Claims.dmaMove move w) = .ewram) ∧
    ((wDma 3 0x8400 1).fault = none ∧ (wDma 3 0x8400 1).params.variant = .cpu32 ∧
      (wDma 3 0x8400 1).cpu32.dma[(3 : Fin 4)].pending = true ∧
      ∀ m : Fin 4, m.val < (3 : Fin 4).val → (wDma 3 0x8400 1).cpu32.dma[m].pending = false) ∧
    (¬ w32.cpu32.dma[(3 : Fin 4)].control.getLsbD 15 = true ∧ (0x8100#16).getLsbD 15 = true ∧
      (0x8100#16).toNat / 128 % 4 ≠ 3 ∧ (0x7FFF#16).getLsbD 15 = false ∧
      (wDma 3 0x8400 1).cpu32.dma[(3 : Fin 4)].control.getLsbD 15 = true) := by
  refine ⟨by decide +kernel, ⟨by simp [Claims.isRam], fun _ _ k move w h => ⟨?_, ?_⟩⟩, by decide, by decide⟩
  · exact region_near 0x05008000 .palette _ w move k h (.inl rfl) rfl
  · exact region_near 0x02008000 .ewram _ w move k h (.inr rfl) rfl

/-- Whether a step goes on. -/
def goesOn (r : Res) : Bool :=
  match r with
  | .next _ => true
  | .fault _ => false
  | .refused _ => false

theorem exists_next {r : Res} (h : goesOn r = true) : ∃ t, r = .next t := by
  cases r with
  | next t => exact ⟨t, rfl⟩
  | fault _ => cases h
  | refused _ => cases h

/-- The state with this save type. -/
def wSave (k : SaveType) : State := on32 (fun c => { c with save := { c.save with kind := k } }) w32

theorem witness_SaveMemories :
    (Memory.wf (wSave .sram).cpu32.mem = true ∧ (wSave .sram).cpu32.save.kind = .sram) ∧
    ((wSave .unknown).cpu32.save.kind = .unknown ∧ ¬ (true = true ∧ (0xAA#8 : Byte) = 0xAA#8 ∧ 0x0E005556 % 0x10000 = 0x5555) ∧
      ¬ (false = true ∧ (0xAA#8 : Byte) = 0xAA#8 ∧ 0x0E005555 % 0x10000 = 0x5555)) ∧
    ((wSave .unknown).cpu32.save.fcmd = .none ∧ (wSave .unknown).cpu32.save.fstage = .s0) ∧
    (∀ k ∈ [SaveType.flash64, .flash128], Memory.wf (wSave k).cpu32.mem = true ∧ 0xFFFF < 0x10000 ∧
      ((wSave k).cpu32.save.kind = .flash64 ∨ (wSave k).cpu32.save.kind = .flash128) ∧
      (wSave k).cpu32.save.fcmd = .none ∧ (wSave k).cpu32.save.fstage = .s0 ∧ 0x5554 ≠ 0x5555) ∧
    (∀ row ∈ [(SaveType.eeprom512, 64), (.eeprom8k, 1024)], Memory.wf (wSave row.1).cpu32.mem = true ∧
      (wSave row.1).cpu32.save.kind = row.1 ∧ (wSave row.1).cpu32.save.ein = [] ∧ row.2 - 1 < row.2) ∧
    ((wSave .unknown).cpu32.save.ein = [] ∧ (0x0D000000#32).toNat / 0x1000000 = 0xD ∧
      (0x0DFFFFFE#32).toNat / 0x1000000 = 0xD) ∧
    (let s := on32 (fun c => { c with dma := c.dma.set 3 { dma32 0x8000 9 with idst := 0x0D000000 } }) (wSave .unknown);
      s.cpu32.save.kind = .unknown ∧ s.cpu32.dma[(3 : Fin 4)].control.getLsbD 10 = false ∧
        s.cpu32.dma[(3 : Fin 4)].icount ≠ 0 ∧ s.cpu32.dma[(3 : Fin 4)].idst.toNat / 0x1000000 = 0xD ∧
        ∃ u, dmaRun 3 s = .next u) ∧
    (region 0x0E000000#32 = .save ∧ region 0x0FFFFFFF#32 = .save ∧ saveRead 0x0E000000 (wSave .sram) = some 0#8 ∧
      ∃ t, memWrite .cpu .word 0x0FFFFFFF#32 0#32 (wSave .sram) = .next t) ∧
    (isEepromAddr 0x0D000000#32 (wSave .eeprom512) = true ∧ isEepromAddr 0x0DFFFFFF#32 (wSave .eeprom8k) = true ∧
      (wSave .eeprom512).cpu32.save.eout = [] ∧ Width.byte ≠ .half ∧
      ∃ b rest, (onSave (fun v => { v with eout := [true] }) (wSave .eeprom512)).cpu32.save.eout = b :: rest) ∧
    (4 ≤ (0x08000000#32).toNat / 0x2000000 ∧ (0x0CFFFFFF#32).toNat / 0x2000000 ≤ 6 ∧
      isEepromAddr 0x0CFFFFFF#32 (wSave .eeprom512) = false ∧ isEepromAddr 0x0DFFFFFF#32 (wSave .unknown) = false ∧
      ¬ (Width.word = .half ∧ (0x0DFFFFFF#32).toNat / 0x1000000 = 0xD ∧ (wSave .unknown).cpu32.save.kind = .unknown)) :=
  ⟨by decide, by decide, by decide, by decide, by decide, by decide,
    ⟨rfl, by decide, by decide, by decide, exists_next (by decide +kernel)⟩, ⟨by simp [region], by simp [region], by decide, _, rfl⟩,
    ⟨by decide, by decide, rfl, by decide, _, _, rfl⟩, by decide⟩

/-- SUB R0, R1, R2 in ARM state and EOR R0, R0 in THUMB state. -/
theorem witness_Cpu32StepRunsDecoded :
    (let s := ready32 false id 0xE0410002;
      Claims.Boundary32 s ∧ s.cpu32.halted = false ∧ ¬ Claims.Irq32 s ∧
        (∃ i, decode (if s.cpu32.cpsr.t then .thumb else .arm) [0x02, 0x00, 0x41, 0xE0] = .ok (i, [])) ∧
        Claims.CodeAt32 { s with cycles := 0, outbox := [] } (ofLeBytes [0x02, 0x00, 0x41, 0xE0])) ∧
    (let s := ready32 true id 0x4040;
      Claims.Boundary32 s ∧ s.cpu32.halted = false ∧ ¬ Claims.Irq32 s ∧
        (∃ i, decode (if s.cpu32.cpsr.t then .thumb else .arm) [0x40, 0x40] = .ok (i, [])) ∧
        Claims.CodeAt32 { s with cycles := 0, outbox := [] } (ofLeBytes [0x40, 0x40])) := by
  refine ⟨⟨?_, by decide, ?_, ⟨_, rfl⟩, ⟨_, Prod.ext ?_ rfl, rfl⟩⟩, ⟨?_, by decide, ?_, ⟨_, rfl⟩, ⟨_, Prod.ext ?_ rfl, rfl⟩⟩⟩
  all_goals first | (simp only [Claims.Boundary32]; decide) | (simp only [Claims.Irq32]; decide)

theorem witness_Cpu32RoundTrip :
    (∀ i ∈ [Instr.armBx ⟨.le, 15#4⟩, .armUndefSpace 0xE7FFFFFF#32, .armReservedCond 0xFFFFFFFF#32, .thumbBx 15#4,
      .thumbBlLo 0x7FF#11], i.isa ≠ .cpu8 ∧ WellFormed i = true) ∧
    (0xFFFFFFFF < 2 ^ 32 ∧ 0xFFFF < 2 ^ 16) ∧ (¬ (0x4778 / 128 = 0x8E ∧ 0x4778 % 8 ≠ 0) ∧
      ¬ (0x4780 / 128 = 0x8E ∧ 0x4780 % 8 ≠ 0)) := by decide

theorem witness_StepKeepsShape :
    (∀ s ∈ [w8, w8c, w32, w32t, wIrq 0x10, wUsr true], s.wf) ∧
    (∀ s ∈ [ready8 id [0xF5], ready32 false regs 0xE8A10003], s.wf ∧ ∃ t, step s = .next t) := by
  have wf : ∀ s ∈ [w8, w8c, w32, w32t, wIrq 0x10, wUsr true, ready8 id [0xF5], ready32 false regs 0xE8A10003], s.wf := by
    simp only [State.wf, Cpu8.wf, Cpu32.wf, Cpu32.pcAligned, Cpu32.spsrsMasked, Save.buffersBounded]
    decide
  simp only [List.forall_mem_cons] at wf ⊢
  obtain ⟨a, b, c, d, e, f, g, h, -⟩ := wf
  exact ⟨⟨a, b, c, d, e, f, by simp⟩, ⟨g, exists_next (by decide)⟩, ⟨h, exists_next (by decide)⟩, by simp⟩

/-- Parameters with the default registers, and two states that differ in the CPU alone. -/
theorem witness_ResetState : Params.default.resetRegs = .zero ∧
    (let t := on8 (fun c => { c with a := 0x77 }) w8;
      w8 ≠ t ∧ w8.params = t.params ∧ w8.cart8 = t.cart8 ∧ w8.draws = t.draws ∧ w8.outbox = t.outbox ∧
        w8.callback = t.callback) ∧ (0x02000000 < 0x0E000000 ∧ 0x0E000000 ≤ 0x0E000000) := by decide

/-- RAM_INIT and SAVE_INIT reach their own bytes only (R7, R801). -/
theorem test_reset_images :
    let p := { Params.default with ramInit32 := [(0x02000000, 5), (0x0E000000, 7)], saveBytes := [(0x0E000000, 9)] }
    Memory.read (State.resetWith p).cpu32.mem 0x02000000 = 5#8 ∧ Memory.read (State.resetWith p).cpu32.mem 0x0E000000 = 9#8 := by
  decide

theorem witness_VariantsSeparate :
    (∃ t, step (ready8 id [0x00]) = .next t) ∧ (∃ t, step (ready32 true id 0x4040) = .next t) ∧
    (ready8 id [0x00]).params.variant = .cpu8 ∧ (ready32 true id 0x4040).params.variant = .cpu32 ∧
    ({ w8 with fault := some (.undefinedOpcode 0xD3 0xC000) } : State).fault = some (.undefinedOpcode 0xD3 0xC000) :=
  ⟨exists_next (by decide), exists_next (by decide), rfl, rfl, rfl⟩

/-- MSR CPSR_fc, R0 and THUMB POP {PC} in user mode; R13 of IRQ mode shares no slot with user mode. -/
theorem witness_UserModeConfined :
    ((wUsr false).cpu32.cpsr.mode = .usr ∧ (wUsr true).cpu32.cpsr.mode = .usr) ∧
    (∃ t, exec (.armMsrReg ⟨.al, false, 9#4, 0#8, 0#4⟩) (wUsr false) = .next t) ∧
    (∃ t, exec (.thumbPop true 0#8) (wUsr true) = .next t) ∧
    (∀ o, Instr.armMsrReg ⟨.al, false, 9#4, 0#8, 0#4⟩ ≠ .armSwi o) ∧ (∀ n, Instr.thumbPop true 0#8 ≠ .thumbSwi n) ∧
    (∀ k : RegNum, k ≠ 15#4 → slotOf 13#4 .irq ≠ slotOf k .usr) :=
  ⟨by decide, exists_next (by decide), exists_next (by decide), fun _ => nofun, fun _ => nofun, by decide⟩

/-- A CPU-8 state whose callback flags VBlank after this step, in memory that holds NOPs and with IME set (R795). -/
def w8cb : State :=
  { ready8 (fun c => { c with ime := true, ie := 0x01, iflag := 0 }) [0x00, 0x00] with callback := some [[.flagInterrupt 0]] }

/-- The callback's interrupt is dispatched by the very next step (R795, R821). -/
theorem test_callback_interrupts :
    (match thenRes (thenRes (step w8cb) cycleCallback) step with
      | .next t => (t.cpu8.pc, t.cpu8.ime, t.cycles, t.callback)
      | _ => (0, true, 0, none)) = (0x0040#16, false, 20, some []) := by decide

/-- R794: no run before any reset, and one step of four cycles for a budget of one. -/
theorem test_run_needs_reset :
    run 1 (State.powerOn Params.default) = .refused .hostMisuse ∧
    (match runBudget 1 1 w8cb with | .next t => t.cpu8.iflag | _ => 0) = 1#5 := ⟨rfl, by decide⟩

theorem witness_HostCalls :
    ((State.powerOn Params.default).wasReset = false ∧ w8.wasReset = true) ∧
    ((0 = 0 ∨ w8.fault ≠ none ∨ (w8.params.variant = .cpu8 ∧ w8.cpu8.stopped = true))) ∧
    (4 ≠ 0 ∧ w8cb.fault = none ∧ ¬ (w8cb.params.variant = .cpu8 ∧ w8cb.cpu8.stopped = true)) ∧
    (∃ t u, step w8cb = .next t ∧ cycleCallback t = .next u) ∧ (∃ f, step (ready8 id [0xD3]) = .fault f) ∧
    (w8cb.params.variant = .cpu8 ∧ w8cb.callback = some ([.flagInterrupt 0] :: []) ∧ 0 < 5) ∧
    (w8.callback = none ∨ w8.params.variant = .cpu32) ∧
    (((List.replicate 512 0x5A#8).length, SaveType.eeprom512) ∈ [(0, SaveType.unknown), (512, .eeprom512), (8192, .eeprom8k),
      (32768, .sram), (65536, .flash64), (131072, .flash128)] ∧
      (List.replicate 511 0x5A#8).length ∉ [0, 512, 8192, 32768, 65536, 131072]) ∧
    (w8.params.variant = .cpu8 ∧ 4 < 5) ∧ (w32.params.variant = .cpu32 ∧ 13 < 14) ∧
    ((w8.params.variant = .cpu8 ∧ 5 ≤ 5) ∨ (w8.params.variant = .cpu32 ∧ 14 ≤ 5)) ∧
    ((w32.params.variant = .cpu8 ∧ 5 ≤ 14) ∨ (w32.params.variant = .cpu32 ∧ 14 ≤ 14)) ∧ 0x3FF < 0x400 ∧ 0x400 ≤ 0x400 ∧
    (DmaEvent.hblank, 2) ∈ [(DmaEvent.vblank, 1), (.hblank, 2)] :=
  ⟨by decide, by decide, by decide, ⟨_, _, rfl, rfl⟩, ⟨_, rfl⟩, by decide, by decide, by simp, by decide, by decide, by decide,
    by decide, by decide, by decide, by decide⟩

end Sys2Proof.Tests
end

section
/-! PROOFS. How a CPU-32 instruction ends, in the words of the statements: what `retire` and `jumpTo` answer, once for
every instruction. -/

namespace Sys2Proof.Proofs

open Sys2Proof.Machine Sys2Proof.Claims

/-! The tests of the model and those of the statements. -/

theorem condPasses_iff (cond : Cond) (p : Psr) : condPasses cond p = true ↔ CondHolds cond p := by
  cases cond <;> simp [condPasses, CondHolds]

theorem condPasses_eq_false_iff (cond : Cond) (p : Psr) : condPasses cond p = false ↔ ¬ CondHolds cond p := by
  rw [← condPasses_iff, Bool.not_eq_true]

theorem isTestOp_iff (op : DpOp) : isTestOp op = true ↔ isTest op := by
  cases op <;> simp [isTestOp, isTest]

theorem ignoresRn_iff (op : DpOp) : ignoresRn op = true ↔ isMove op := by
  cases op <;> simp [ignoresRn, isMove]

/-! PC and costs. -/

theorem codeBytes_eq_len32 (s : State) : BitVec.ofNat 32 s.cpu32.codeBytes = len32 s := by
  unfold Cpu32.codeBytes len32
  split <;> rfl

theorem codeCost_true_eq_sCost (s : State) : codeCost true s = sCost s := by
  unfold codeCost sCost
  rw [codeBytes_eq_len32]
  rfl

theorem refillCost_eq_refill (s : State) : refillCost s = refill s := by
  unfold refillCost refill
  rw [← codeCost_true_eq_sCost]
  rfl

/-- A CPU-32 half that fetches the next instruction as `d` does: PC, T and WAITCNT (R830). -/
def SameFetch (c d : Cpu32) : Prop := c.pc = d.pc ∧ c.cpsr.t = d.cpsr.t ∧ c.waitcnt = d.waitcnt

theorem SameFetch.rfl {c : Cpu32} : SameFetch c c := ⟨Eq.refl _, Eq.refl _, Eq.refl _⟩

theorem sameFetch_setX (s : State) (i : RegNum) (v : Word) : SameFetch (setX s i v) s.cpu32 := SameFetch.rfl

theorem sCost_withCpu32 {s : State} {c : Cpu32} (h : SameFetch c s.cpu32) : sCost { s with cpu32 := c } = sCost s := by
  obtain ⟨hp, ht, hw⟩ := h
  rw [← codeCost_true_eq_sCost, ← codeCost_true_eq_sCost]
  exact codeCost_congr true hw hp ht

/-! The endings. -/

/-- An instruction that does not write R15 ends past itself, at `Sc` and its internal cycles (R831, R832). -/
theorem retire_withCpu32 {s : State} {c : Cpu32} (h : SameFetch c s.cpu32) (extra : Nat) :
    retire extra { s with cpu32 := c } = .next (past s c (sCost s + extra)) := by
  have hs := sCost_withCpu32 h
  obtain ⟨hp, ht, -⟩ := h
  have hl : len32 { s with cpu32 := c } = len32 s := by simp only [len32, ht]
  simp only [retire, advancePc, on32, charge, codeCost_true_eq_sCost, hs, past]
  rw [show BitVec.ofNat 32 c.codeBytes = len32 s from (codeBytes_eq_len32 { s with cpu32 := c }).trans hl, hp]

theorem retire_self (s : State) (extra : Nat) : retire extra s = .next (past s s.cpu32 (sCost s + extra)) :=
  retire_withCpu32 (c := s.cpu32) SameFetch.rfl extra

theorem retire_writeReg (rd : RegNum) (v : Word) (s : State) (extra : Nat) :
    retire extra (writeReg rd v s) = .next (past s (setX s rd v) (sCost s + extra)) :=
  retire_withCpu32 (sameFetch_setX s rd v) extra

/-- An instruction that writes R15 ends there, at `Sc + Nt + St` and its internal cycles (R835). -/
theorem jumpTo_withCpu32 {s : State} {c : Cpu32} (h : SameFetch c s.cpu32) (t : Bool) (v : Word) (extra : Nat) :
    jumpTo t v (charge extra { s with cpu32 := c }) = .next (jumped s c t v extra) := by
  have hs : sCost (charge extra { s with cpu32 := c }) = sCost s := sCost_withCpu32 h
  simp only [jumpTo, codeCost_true_eq_sCost, refillCost_eq_refill, hs]
  simp only [setPc, charge, on32, jumped, Nat.add_assoc]
  rfl

theorem jumpTo_self (s : State) (t : Bool) (v : Word) : jumpTo t v s = .next (jumped s s.cpu32 t v 0) :=
  jumpTo_withCpu32 (c := s.cpu32) SameFetch.rfl t v 0

theorem writePcValue_charge (s : State) (v : Word) (extra : Nat) :
    writePcValue v (charge extra s) =
      .next (jumped s s.cpu32 (if s.params.interwork then v.getLsbD 0 else s.cpu32.cpsr.t) v extra) :=
  jumpTo_withCpu32 (c := s.cpu32) SameFetch.rfl _ v extra

theorem writePcValue_self (s : State) (v : Word) :
    writePcValue v s = .next (jumped s s.cpu32 (if s.params.interwork then v.getLsbD 0 else s.cpu32.cpsr.t) v 0) :=
  writePcValue_charge s v 0

end Sys2Proof.Proofs
end

section
/-! PROOFS. ARM data processing (R505). -/

namespace Sys2Proof.Proofs

open Sys2Proof.Machine Sys2Proof.Claims

/-- Every row of data processing ends in `dpFinish` on its operands, once its condition passes (R501 to R505). -/
theorem exec_of_dpForm {op : DpOp} {d : Dp} {s : State} {i : Instr} {a b : Word} {shc : Bool} {extra : Nat}
    (h : DpForm op d s i a b shc extra) (hc : CondHolds d.cond s.cpu32.cpsr) :
    exec i s = dpFinish op (dpOf op d) a b shc extra s := by
  have hd : (dpOf op d).cond = d.cond ∧ (dpOf op d).rn = d.rn := by
    unfold dpOf
    split <;> exact ⟨rfl, rfl⟩
  obtain ⟨hcond, hrn⟩ := hd
  have hpass : condPasses (dpOf op d).cond s.cpu32.cpsr = true := hcond ▸ (condPasses_iff _ _).mpr hc
  rcases h with ⟨x, rfl, rfl, hx, rfl⟩ | ⟨x, rfl, rfl, hx, rfl⟩ | ⟨x, rfl, hrs, rfl, hx, rfl⟩
  · rw [exec_dpImmInstr, dpImm, ifCond_pass hpass, ← hx, hrn]
  · rw [exec_dpShiftInstr, dpShift, ifCond_pass hpass, ← hx, hrn]
  · rw [exec_dpRegShiftInstr, dpRegShift, ifCond_pass hpass, if_neg hrs, ← hx, hrn]

theorem dpOf_of_not_isTest {op : DpOp} (h : ¬ isTest op) (d : Dp) : dpOf op d = d :=
  if_neg fun e => h ((isTestOp_iff op).mp e)

/-- An operation that is no test, into R15: an exception return with S, a write of PC without (R505, R747). -/
theorem dpFinish_toPc {op : DpOp} {d : Dp} {s : State} {a b r : Word} {shc c v : Bool} (extra : Nat)
    (ht : ¬ isTest op) (hm : isMove op → d.rn = 0#4) (hd : d.rd = 15#4)
    (hr : dpResult op a b shc s.cpu32.cpsr = (r, c, v)) :
    dpFinish op d a b shc extra s =
      if d.s then returnTo r (charge extra s) else writePcValue r (charge extra s) := by
  have htest : ¬ isTestOp op = true := fun e => ht ((isTestOp_iff op).mp e)
  have hmove : ¬ (ignoresRn op = true ∧ d.rn ≠ 0#4) := fun ⟨e, hn⟩ => hn (hm ((ignoresRn_iff op).mp e))
  simp only [dpFinish, if_neg htest, if_neg hmove, if_pos hd, hr]

/-- An exception return whose SPSR holds a mode: CPSR is the SPSR, and PC is aligned to the restored state (R58). -/
theorem returnTo_restores {s : State} {w : Word} {p : Psr} (r : Word)
    (hw : s.cpu32.spsr? s.cpu32.cpsr.mode = some w) (hp : Psr.ofWord? w = some p) :
    ∃ u, returnTo r s = .next u ∧
      u = { s with cpu32 := { s.cpu32 with cpsr := p, pc := aligned p.t r }, cycles := u.cycles } := by
  have hres := restoreCpsr_eq_next.mpr ⟨w, p, hw, hp, rfl⟩
  simp only [returnTo, hres, thenRes_next]
  exact ⟨_, rfl, rfl⟩

theorem returnTo_noSpsr {s : State} (r : Word) (h : s.cpu32.spsr? s.cpu32.cpsr.mode = none) :
    returnTo r s = unpredictable .noSpsr s := by
  simp only [returnTo, restoreCpsr, h]
  rfl

theorem returnTo_invalidMode {s : State} {w : Word} (r : Word) (hw : s.cpu32.spsr? s.cpu32.cpsr.mode = some w)
    (hp : Psr.ofWord? w = none) : returnTo r s = unpredictable .invalidMode s := by
  simp only [returnTo, restoreCpsr, hw, hp]
  rfl

/-- Settles O25: each row is `dpFinish` on its operands; into R15 that is `writePcValue` or `returnTo`. -/
theorem armDataToPc : Obligations.ArmDataToPc := by
  intro op d s i a b r shc c v extra hform hcond ht hm hd hr
  have hexec : exec i s = if d.s then returnTo r (charge extra s) else writePcValue r (charge extra s) := by
    rw [exec_of_dpForm hform hcond, dpOf_of_not_isTest ht, dpFinish_toPc extra ht hm hd hr]
  refine ⟨fun hs => ?_, fun hs w hw => ⟨fun p hp => ?_, fun hp => ?_⟩, fun hs hn => ?_⟩
  · rw [hexec, hs]
    exact writePcValue_charge s r extra
  · rw [hexec, hs]
    exact returnTo_restores (s := charge extra s) r hw hp
  · rw [hexec, hs]
    exact returnTo_invalidMode (s := charge extra s) r hw hp
  · rw [hexec, hs]
    exact returnTo_noSpsr (s := charge extra s) r hn

end Sys2Proof.Proofs
end

section
/-! PROOFS. THUMB format 5 and the address arithmetic of formats 12 and 13 (R658 to R660, R679 to R681). -/

namespace Sys2Proof.Proofs

open Sys2Proof.Machine Sys2Proof.Claims

theorem highChecked_high {hd hs : RegNum} (h : 8 ≤ hd.toNat ∨ 8 ≤ hs.toNat) (body : State → Res) (s : State) :
    highChecked hd hs body s = body s :=
  if_neg fun ⟨hl, hr⟩ => by omega

theorem highChecked_low {hd hs : RegNum} (hl : hd.toNat < 8) (hr : hs.toNat < 8) (body : State → Res) (s : State) :
    highChecked hd hs body s = unpredictable .twoLowRegisters s :=
  if_pos ⟨hl, hr⟩

theorem writeHigh_reg {hd : RegNum} (h : hd ≠ 15#4) (v : Word) (s : State) :
    writeHigh hd v s = .next (past s (setX s hd v) (sCost s)) :=
  (if_neg h).trans (retire_writeReg hd v s 0)

theorem writeHigh_pc (v : Word) (s : State) : writeHigh 15#4 v s =
    .next (jumped s s.cpu32 (if s.params.interwork then v.getLsbD 0 else s.cpu32.cpsr.t) v 0) :=
  (if_pos rfl).trans (writePcValue_self s v)

theorem exec_thumbAddHi (hd hs : RegNum) (s : State) : exec (.thumbAddHi hd hs) s =
    highChecked hd hs (fun s => writeHigh hd (readReg hd s + readReg hs s) s) s := rfl

theorem exec_thumbCmpHi (hd hs : RegNum) (s : State) : exec (.thumbCmpHi hd hs) s =
    highChecked hd hs (fun s => thumbTest (addC (readReg hd s) (~~~(readReg hs s)) true) s) s := rfl

theorem exec_thumbMovHi (hd hs : RegNum) (s : State) : exec (.thumbMovHi hd hs) s =
    highChecked hd hs (fun s => writeHigh hd (readReg hs s) s) s := rfl

/-- A test changes the flags and PC only. -/
theorem thumbTest_eq (r : Word) (c v : Bool) (s : State) :
    thumbTest (r, c, v) s = .next (past s { s.cpu32 with cpsr := withFlags s.cpu32.cpsr r c v } (sCost s)) :=
  retire_withCpu32 (c := { s.cpu32 with cpsr := withFlags s.cpu32.cpsr r c v }) ⟨rfl, rfl, rfl⟩ 0

/-- A field times four, on numbers (R221). -/
theorem setWidth_shiftLeft_two {n : Nat} (x : BitVec n) (h : n ≤ 8) :
    (x.setWidth 32 <<< 2 : Word) = BitVec.ofNat 32 (4 * x.toNat) := by
  have hx : x.toNat < 2 ^ 8 := x.isLt.trans_le (Nat.pow_le_pow_right (by decide) h)
  apply BitVec.eq_of_toNat_eq
  simp only [BitVec.toNat_shiftLeft, BitVec.toNat_setWidth, BitVec.toNat_ofNat, Nat.shiftLeft_eq]
  omega

/-- The word-aligned PC of format 12 (R679). -/
theorem thumbPcBase_eq (s : State) : thumbPcBase s = (s.cpu32.pc + 4) &&& 0xFFFFFFFC#32 := rfl

/-- Settles O41: a high register is written by `writeHigh`, which is a register write or a jump. -/
theorem thumbHighRegisters : Obligations.ThumbHighRegisters := by
  refine ⟨fun hd hs s => ⟨fun hhigh => ⟨fun i v hi => ?_, fun r c v hr => ?_⟩, fun hl hr i hi => ?_⟩,
    fun rd imm down k s => ⟨?_, ?_, ?_⟩⟩
  · have hexec : exec i s = writeHigh hd v s := by
      simp only [List.mem_cons, List.not_mem_nil, or_false, Prod.mk.injEq] at hi
      obtain ⟨rfl, rfl⟩ | ⟨rfl, rfl⟩ := hi
      · rw [exec_thumbAddHi, highChecked_high hhigh]
      · rw [exec_thumbMovHi, highChecked_high hhigh]
    refine ⟨fun hne => ?_, fun hpc => ?_⟩
    · rw [hexec, writeHigh_reg hne]
    · subst hpc
      rw [hexec, writeHigh_pc]
  · rw [exec_thumbCmpHi, highChecked_high hhigh, hr, thumbTest_eq]
  · simp only [List.mem_cons, List.not_mem_nil, or_false] at hi
    obtain rfl | rfl | rfl := hi
    · rw [exec_thumbAddHi, highChecked_low hl hr, unpredictable]
    · rw [exec_thumbCmpHi, highChecked_low hl hr, unpredictable]
    · rw [exec_thumbMovHi, highChecked_low hl hr, unpredictable]
  · rw [← setWidth_shiftLeft_two imm (by decide), ← thumbPcBase_eq]
    exact retire_writeReg (low rd) (thumbPcBase s + scaled4 imm) s 0
  · rw [← setWidth_shiftLeft_two imm (by decide)]
    exact retire_writeReg (low rd) (readReg 13#4 s + scaled4 imm) s 0
  · rw [← setWidth_shiftLeft_two k (by decide)]
    exact retire_writeReg 13#4 _ s 0

end Sys2Proof.Proofs
end

section
/-! PROOFS. The THUMB branches (R661, R686, R688 to R690). -/

namespace Sys2Proof.Proofs

open Sys2Proof.Machine Sys2Proof.Claims

/-- A sign-extended field shifted left, on numbers (R686, R688, R689). -/
theorem signExtend_shiftLeft {n k : Nat} (x : BitVec (n + 1)) (h : k + (n + 1) ≤ 32) :
    (x.signExtend 32 <<< k : Word) = BitVec.ofNat 32
      (if x.toNat < 2 ^ n then 2 ^ k * x.toNat else 2 ^ 32 - 2 ^ k * (2 ^ (n + 1) - x.toNat)) := by
  have hx := x.isLt
  have hpow : 2 ^ (n + 1) ≤ 2 ^ 32 := Nat.pow_le_pow_right (by decide) (by omega)
  apply BitVec.eq_of_toNat_eq
  rw [BitVec.toNat_shiftLeft, BitVec.toNat_signExtend, BitVec.toNat_setWidth, BitVec.msb_eq_decide, BitVec.toNat_ofNat,
    Nat.shiftLeft_eq, Nat.mod_eq_of_lt (hx.trans_le hpow), Nat.add_sub_cancel]
  by_cases hlow : x.toNat < 2 ^ n
  · rw [if_pos hlow, if_neg (by simpa using hlow), Nat.add_zero, Nat.mul_comm]
  · have hk : 2 ^ k * (2 ^ (n + 1) - x.toNat) ≤ 2 ^ 32 :=
      calc 2 ^ k * (2 ^ (n + 1) - x.toNat) ≤ 2 ^ k * 2 ^ (n + 1) := Nat.mul_le_mul_left _ (Nat.sub_le _ _)
        _ = 2 ^ (k + (n + 1)) := (pow_add _ _ _).symm
        _ ≤ 2 ^ 32 := Nat.pow_le_pow_right (by decide) h
    have hsum : (x.toNat + (2 ^ 32 - 2 ^ (n + 1))) * 2 ^ k + 2 ^ k * (2 ^ (n + 1) - x.toNat) = 2 ^ 32 * 2 ^ k := by
      rw [Nat.mul_comm _ (2 ^ k), ← Nat.mul_add, Nat.mul_comm (2 ^ 32)]
      congr 1
      omega
    have hone : 1 ≤ 2 ^ k := Nat.one_le_two_pow
    rw [if_neg hlow, if_pos (by simpa using hlow)]
    generalize 2 ^ k * (2 ^ (n + 1) - x.toNat) = y at *
    omega

theorem past_cpu32 (s : State) (c : Cpu32) (cost : Nat) :
    (past s c cost).cpu32 = { c with pc := s.cpu32.pc + len32 s } := rfl

theorem jumped_cpu32 (s : State) (c : Cpu32) (t : Bool) (v : Word) (extra : Nat) :
    (jumped s c t v extra).cpu32 = { c with pc := aligned t v, cpsr := { c.cpsr with t := t } } := rfl

/-- An even address is a THUMB PC as it stands (R53). -/
theorem aligned_true_of_even {v : Word} (h : v &&& 1#32 = 0#32) : aligned true v = v := by
  have hsplit : v &&& (0xFFFFFFFE#32 ||| 1#32) = v := BitVec.and_allOnes
  rw [BitVec.and_or_distrib_left, h, BitVec.or_zero] at hsplit
  exact hsplit

theorem and_one_eq_zero_iff (v : Word) : v &&& 1#32 = 0#32 ↔ v.toNat % 2 = 0 := by
  rw [← BitVec.toNat_inj, BitVec.toNat_and]
  exact Eq.congr_left (Nat.and_one_is_mod _)

theorem even_add {v w : Word} (hv : v &&& 1#32 = 0#32) (hw : w &&& 1#32 = 0#32) : (v + w) &&& 1#32 = 0#32 := by
  rw [and_one_eq_zero_iff] at *
  rw [BitVec.toNat_add]
  omega

theorem even_shiftLeft_succ (v : Word) (k : Nat) : (v <<< (k + 1)) &&& 1#32 = 0#32 := by
  rw [and_one_eq_zero_iff, BitVec.toNat_shiftLeft, Nat.shiftLeft_eq, Nat.pow_succ, ← Nat.mul_assoc]
  omega

/-- The two halves of BL share one offset (R689, R690). -/
theorem add_two_offsets (a : Word) (p : Prop) [Decidable p] (m n k : Nat) :
    a + BitVec.ofNat 32 (if p then m else n) + BitVec.ofNat 32 k = a + BitVec.ofNat 32 (if p then m + k else n + k) := by
  rw [BitVec.add_assoc, ← BitVec.ofNat_add]
  split <;> rfl

theorem exec_thumbB (offset : BitVec 11) (s : State) : exec (.thumbB offset) s = .next (jumped s s.cpu32 s.cpu32.cpsr.t
    (s.cpu32.pc + 4 + (offset.signExtend 32 <<< 1)) 0) := jumpTo_self s _ _

theorem exec_thumbBCond (cond : Cond) (offset : Byte) (s : State) : exec (.thumbBCond cond offset) s =
    ifCond cond (fun s => jumpTo s.cpu32.cpsr.t (s.cpu32.pc + 4 + (offset.signExtend 32 <<< 1)) s) s := rfl

theorem exec_thumbBlHi (offset : BitVec 11) (s : State) : exec (.thumbBlHi offset) s = .next (past s (setX s 14#4
    (s.cpu32.pc + 4 + (offset.signExtend 32 <<< 12))) (sCost s)) := retire_writeReg 14#4 _ s 0

theorem exec_thumbBlLo (offset : BitVec 11) (s : State) : exec (.thumbBlLo offset) s = .next (jumped s
    (setX s 14#4 ((s.cpu32.pc + 2) ||| 1#32)) s.cpu32.cpsr.t
    (readReg 14#4 s + (offset.setWidth 32 <<< 1)) 0) :=
  jumpTo_withCpu32 (sameFetch_setX s 14#4 _) _ _ 0

theorem setWidth_shiftLeft_one (x : BitVec 11) : (x.setWidth 32 <<< 1 : Word) = BitVec.ofNat 32 (2 * x.toNat) := by
  have hx := x.isLt
  apply BitVec.eq_of_toNat_eq
  simp only [BitVec.toNat_shiftLeft, BitVec.toNat_setWidth, BitVec.toNat_ofNat, Nat.shiftLeft_eq]
  omega

theorem readReg_past_setX {i : RegNum} (h : i ≠ 15#4) (s : State) (v : Word) (cost : Nat) :
    readReg i (past s (setX s i v) cost) = v :=
  (if_neg h).trans (regIn_setRegIn_same _ _ _ _)

theorem readReg_jumped_setX {i : RegNum} (h : i ≠ 15#4) (s : State) (v : Word) (t : Bool) (a : Word) (extra : Nat) :
    readReg i (jumped s (setX s i v) t a extra) = v :=
  (if_neg h).trans (regIn_setRegIn_same _ _ _ _)

/-- BL's two halves in THUMB state: the jump by the joined offset, and the return address (R689, R690). -/
theorem exec_thumbBl (hi lo : BitVec 11) (s : State) (ht : s.cpu32.cpsr.t = true) (hpc : s.cpu32.pc &&& 1#32 = 0#32) :
    ∃ t u, exec (.thumbBlHi hi) s = .next t ∧ exec (.thumbBlLo lo) t = .next u ∧
      u.cpu32.pc = s.cpu32.pc + 4 + (hi.signExtend 32 <<< 12) + (lo.setWidth 32 <<< 1) ∧
      readReg 14#4 u = (s.cpu32.pc + 4) ||| 1#32 ∧ u.cpu32.cpsr = s.cpu32.cpsr := by
  refine ⟨_, _, exec_thumbBlHi hi s, exec_thumbBlLo lo _, ?_, ?_, rfl⟩
  · have heven := even_add (even_add (even_add hpc (by decide : 4#32 &&& 1#32 = 0#32))
      (even_shiftLeft_succ (hi.signExtend 32) 11)) (even_shiftLeft_succ (lo.setWidth 32) 0)
    rw [jumped_cpu32, readReg_past_setX (by decide), past_cpu32]
    exact (congrArg (aligned · _) ht).trans (aligned_true_of_even heven)
  · rw [readReg_jumped_setX (by decide), past_cpu32, len32, if_pos ht, BitVec.add_assoc]
    rfl

/-- Settles O46: every branch is one `jumpTo`; an even address is a THUMB PC as it stands, so BL's target is the sum. -/
theorem thumbBranches : Obligations.ThumbBranches := by
  refine ⟨fun offset s => ?_, fun cond offset s => ⟨fun hc => ?_, fun hc => ?_⟩, fun offset s => ?_, fun offset s => ?_,
    fun hi lo s ht hpc => ?_, fun hs s => jumpTo_self s _ _⟩
  · rw [exec_thumbB, signExtend_shiftLeft (n := 10) offset (by decide)]
    rfl
  · rw [exec_thumbBCond, ifCond_pass ((condPasses_iff _ _).mpr hc), jumpTo_self,
      signExtend_shiftLeft (n := 7) offset (by decide)]
    rfl
  · rw [exec_thumbBCond, ifCond_fail ((condPasses_eq_false_iff _ _).mpr hc)]
    exact retire_self s 0
  · rw [exec_thumbBlHi, signExtend_shiftLeft (n := 10) offset (by decide)]
    rfl
  · rw [exec_thumbBlLo, setWidth_shiftLeft_one]
  · obtain ⟨t, u, hhi, hlo, hupc, hlr, hpsr⟩ := exec_thumbBl hi lo s ht hpc
    refine ⟨t, u, hhi, hlo, ?_, hlr, hpsr⟩
    rw [hupc, signExtend_shiftLeft (n := 10) hi (by decide), setWidth_shiftLeft_one, add_two_offsets]
    rfl

end Sys2Proof.Proofs
end

section
/-! PROOFS. What a meaning leaves unchanged: a view of the state that every answer keeps. -/

namespace Sys2Proof.Proofs

open Sys2Proof.Machine

/-- The parameters, the mapper's answers, the latched fault, the callback, and whether the machine was ever reset:
what no step changes, on either variant. -/
abbrev HostPart : Type := Params × Image × Option Fault × Option Callback × Bool

/-- The host's part of a state. -/
def hostPart (s : State) : HostPart :=
  (s.params, s.cart8, s.fault, s.callback, s.wasReset)

/-- What a CPU-8 step leaves unchanged. -/
def outside8 (s : State) : HostPart × Cpu32 := (hostPart s, s.cpu32)

/-- What a CPU-32 step leaves unchanged. -/
def outside32 (s : State) : HostPart × Cpu8 := (hostPart s, s.cpu8)

/-- If the answer is a next state, the view is there as it is in `s`. -/
def Keeps {α : Type} (view : State → α) (s : State) (r : Res) : Prop := ∀ t, r = .next t → view t = view s

section
variable {α : Type} {view : State → α} {s : State}

theorem Keeps.next {t : State} (h : view t = view s) : Keeps view s (.next t) := by
  rintro _ ⟨⟩
  exact h

theorem Keeps.fault {f : Fault} : Keeps view s (.fault f) := fun _ h => by cases h

theorem Keeps.refused {q : Refusal} : Keeps view s (.refused q) := fun _ h => by cases h

theorem Keeps.thenRes {r : Res} {k : State → Res} (h : Keeps view s r) (hk : ∀ t, Keeps view t (k t)) :
    Keeps view s (thenRes r k) := by
  intro t ht
  obtain ⟨u, hu, ht⟩ := thenRes_eq_next.mp ht
  exact (hk u t ht).trans (h u hu)

/-- A meaning may begin in any state with the same view. -/
theorem Keeps.of_view_eq {u : State} {r : Res} (hu : view u = view s) (h : Keeps view u r) : Keeps view s r :=
  fun t ht => (h t ht).trans hu

end

end Sys2Proof.Proofs
end

section
/-! PROOFS. No CPU-8 meaning changes anything outside the CPU-8 half, the cycles, the draws and the outbox. -/

namespace Sys2Proof.Proofs

open Sys2Proof.Machine

@[simp] theorem outside8_on8 (f : Cpu8 → Cpu8) (s : State) : outside8 (on8 f s) = outside8 s := rfl
@[simp] theorem outside8_charge (k : Nat) (s : State) : outside8 (charge k s) = outside8 s := rfl
@[simp] theorem outside8_deliver (d : Delivery) (s : State) : outside8 (deliver d s) = outside8 s := rfl
@[simp] theorem outside8_setCell8 (key : Nat) (v : Byte) (s : State) : outside8 (setCell8 key v s) = outside8 s := rfl
@[simp] theorem outside8_setPc8 (a : Half) (s : State) : outside8 (setPc8 a s) = outside8 s := rfl
@[simp] theorem outside8_beginStep (s : State) : outside8 (beginStep s) = outside8 s := rfl

/-! The bus. -/

@[simp] theorem outside8_read8 (a : Half) (s : State) : outside8 (read8 a s).2 = outside8 s := by
  rcases read8_state a s with h | h <;> rw [h]
  rfl

@[simp] theorem outside8_readOperand8 (k : R8) (s : State) : outside8 (readOperand8 k s).2 = outside8 s := by
  unfold readOperand8
  split
  · exact outside8_read8 _ s
  · rfl

@[simp] theorem outside8_fetchByte (s : State) : outside8 (fetchByte s).2 = outside8 s := outside8_read8 _ s

@[simp] theorem outside8_pop16 (s : State) : outside8 (pop16 s).2 = outside8 s := by simp [pop16]

@[simp] theorem outside8_popPc (s : State) : outside8 (popPc s) = outside8 s := by simp [popPc]

@[simp] theorem outside8_oamCopy (page : Byte) (n : Nat) (s : State) : outside8 (oamCopy page n s) = outside8 s := by
  induction n with
  | zero => rfl
  | succ n ih => simp [oamCopy, ih]

@[simp] theorem outside8_hdmaCopy (src dst : Half) (n : Nat) (s : State) :
    outside8 (hdmaCopy src dst n s) = outside8 s := by
  induction n with
  | zero => rfl
  | succ n ih => simp [hdmaCopy, ih]

theorem writeHdma5_keeps (v : Byte) (s : State) : Keeps outside8 s (writeHdma5 v s) := by
  unfold writeHdma5
  split
  · exact .refused
  · exact .next (outside8_hdmaCopy _ _ _ s)

theorem writeIo8_keeps (r : Io8) (a : Half) (v : Byte) (s : State) : Keeps outside8 s (writeIo8 r a v s) := by
  cases r with
  | dma => exact .next (outside8_oamCopy v 160 _)
  | hdma5 => exact writeHdma5_keeps v s
  | _ => exact .next rfl

theorem write8_keeps (a : Half) (v : Byte) (s : State) : Keeps outside8 s (write8 a v s) := by
  unfold write8
  split
  case h_4 => exact writeIo8_keeps _ a v s
  all_goals exact .next rfl

theorem writeOperand8_keeps (k : R8) (v : Byte) (s : State) : Keeps outside8 s (writeOperand8 k v s) := by
  unfold writeOperand8
  split
  · exact write8_keeps _ v s
  · exact .next rfl

/-- An operand is read, an operand is written, and the instruction goes on. -/
theorem readThenWrite_keeps (src dst : R8) (v : Byte) (s : State) {k : State → Res} (hk : ∀ t, Keeps outside8 t (k t)) :
    Keeps outside8 s (thenRes (writeOperand8 dst v (readOperand8 src s).2) k) :=
  .thenRes (.of_view_eq (outside8_readOperand8 src s) (writeOperand8_keeps dst v _)) hk

theorem push16_keeps (v : Half) (s : State) : Keeps outside8 s (push16 v s) :=
  .thenRes (.of_view_eq (outside8_on8 _ s) (write8_keeps _ _ _)) fun t =>
    .of_view_eq (outside8_on8 _ t) (write8_keeps _ _ _)

theorem finish8_keeps {s t : State} (clocks : Nat) (h : outside8 t = outside8 s) :
    Keeps outside8 s (finish8 clocks t) := .next h

theorem finish8_on8_keeps {s t : State} (clocks : Nat) (f : Cpu8 → Cpu8) (h : outside8 t = outside8 s) :
    Keeps outside8 s (finish8 clocks (on8 f t)) := .next h

/-! Loads, stores and stack. -/

theorem load8_keeps (dst src : R8) (s : State) : Keeps outside8 s (load8 dst src s) :=
  readThenWrite_keeps src dst _ s fun _ => finish8_keeps _ rfl

theorem loadImm_keeps (dst : R8) (n : Byte) (s : State) : Keeps outside8 s (loadImm dst n s) :=
  .thenRes (writeOperand8_keeps dst n s) fun _ => finish8_keeps _ rfl

theorem loadAAt_keeps (p : RP) (delta : Half) (s : State) : Keeps outside8 s (loadAAt p delta s) :=
  finish8_on8_keeps 8 _ (outside8_read8 _ s)

theorem storeAAt_keeps (p : RP) (delta : Half) (s : State) : Keeps outside8 s (storeAAt p delta s) :=
  .thenRes (write8_keeps _ _ s) fun _ => finish8_keeps _ rfl

theorem loadAFrom_keeps (a : Half) (clocks : Nat) (s : State) : Keeps outside8 s (loadAFrom a clocks s) :=
  finish8_on8_keeps clocks _ (outside8_read8 a s)

theorem storeATo_keeps (a : Half) (clocks : Nat) (s : State) : Keeps outside8 s (storeATo a clocks s) :=
  .thenRes (write8_keeps a _ s) fun _ => finish8_keeps _ rfl

theorem storeSp_keeps (nn : Half) (s : State) : Keeps outside8 s (storeSp nn s) :=
  .thenRes (write8_keeps nn _ s) fun t => .thenRes (write8_keeps _ _ t) fun _ => finish8_keeps _ rfl

theorem pushPair_keeps (q : QQ) (s : State) : Keeps outside8 s (pushPair q s) :=
  .thenRes (push16_keeps _ s) fun _ => finish8_keeps _ rfl

theorem popPair_keeps (q : QQ) (s : State) : Keeps outside8 s (popPair q s) := finish8_on8_keeps 12 _ (outside8_pop16 s)

/-! Arithmetic. -/

theorem alu8_keeps (op : Alu8) (k : R8) (s : State) : Keeps outside8 s (alu8 op k s) :=
  finish8_on8_keeps _ _ (outside8_readOperand8 k s)

theorem inc8_keeps (k : R8) (s : State) : Keeps outside8 s (inc8 k s) :=
  readThenWrite_keeps k k _ s fun _ => finish8_keeps _ rfl

theorem dec8_keeps (k : R8) (s : State) : Keeps outside8 s (dec8 k s) :=
  readThenWrite_keeps k k _ s fun _ => finish8_keeps _ rfl

theorem cbRotate_keeps (op : Rot8) (k : R8) (s : State) : Keeps outside8 s (cbRotate op k s) :=
  readThenWrite_keeps k k _ s fun _ => finish8_keeps _ rfl

theorem cbBit_keeps (b : BitVec 3) (k : R8) (s : State) : Keeps outside8 s (cbBit b k s) :=
  finish8_on8_keeps _ _ (outside8_readOperand8 k s)

theorem cbRes_keeps (b : BitVec 3) (k : R8) (s : State) : Keeps outside8 s (cbRes b k s) :=
  readThenWrite_keeps k k _ s fun _ => finish8_keeps _ rfl

theorem cbSet_keeps (b : BitVec 3) (k : R8) (s : State) : Keeps outside8 s (cbSet b k s) :=
  readThenWrite_keeps k k _ s fun _ => finish8_keeps _ rfl

theorem cbOperation_keeps (op2 : Byte) (s : State) : Keeps outside8 s (cbOperation op2 s) := by
  unfold cbOperation
  split
  · exact cbRotate_keeps _ _ s
  · exact cbBit_keeps _ _ s
  · exact cbRes_keeps _ _ s
  · exact cbSet_keeps _ _ s

/-! Control. -/

theorem callTo_keeps (a : Half) (clocks : Nat) (s : State) : Keeps outside8 s (callTo a clocks s) :=
  .thenRes (push16_keeps _ s) fun _ => finish8_keeps _ rfl

theorem jumpRelIf_keeps (cc : Cc) (e : Byte) (s : State) : Keeps outside8 s (jumpRelIf cc e s) := by
  unfold jumpRelIf
  split <;> exact finish8_keeps _ rfl

theorem jumpIf_keeps (cc : Cc) (nn : Half) (s : State) : Keeps outside8 s (jumpIf cc nn s) := by
  unfold jumpIf
  split <;> exact finish8_keeps _ rfl

theorem callIf_keeps (cc : Cc) (nn : Half) (s : State) : Keeps outside8 s (callIf cc nn s) := by
  unfold callIf
  split
  · exact callTo_keeps nn 24 s
  · exact finish8_keeps _ rfl

theorem returnIf_keeps (cc : Cc) (s : State) : Keeps outside8 s (returnIf cc s) := by
  unfold returnIf
  split
  · exact finish8_keeps _ (outside8_popPc s)
  · exact finish8_keeps _ rfl

theorem return8_keeps (s : State) : Keeps outside8 s (return8 s) := finish8_keeps _ (outside8_popPc s)

theorem returnInterrupt_keeps (s : State) : Keeps outside8 s (returnInterrupt s) :=
  finish8_on8_keeps 16 _ (outside8_popPc s)

/-! The instructions the decoder answers, by the rows of its maps (R204, R205). -/

theorem exec_ldInstr_keeps (dst src : R8) (s : State) : Keeps outside8 s (exec (ldInstr dst src) s) := by
  by_cases h : dst = .hlm ∧ src = .hlm
  · obtain ⟨rfl, rfl⟩ := h
    exact finish8_keeps 4 rfl
  · rw [exec_ldInstr s (not_and_or.mp h)]
    exact load8_keeps dst src s

theorem exec_rotateAInstr_keeps (y : Nat) (s : State) : Keeps outside8 s (exec (rotateAInstr y) s) := by
  unfold rotateAInstr
  split <;> exact finish8_keeps 4 rfl

theorem exec_decodeBlock0_keeps (y z : Nat) (n : Byte) (nn : Half) (s : State) :
    Keeps outside8 s (exec (decodeBlock0 y z n nn) s) := by
  unfold decodeBlock0
  split
  · exact finish8_keeps 4 rfl
  · exact storeSp_keeps nn s
  · exact finish8_keeps 4 rfl
  · exact finish8_keeps 12 rfl
  · rw [exec_jrInstr]; exact jumpRelIf_keeps _ n s
  · split
    · rw [exec_ldPairInstr]; exact finish8_keeps 12 rfl
    · rw [exec_addHlInstr]; exact finish8_keeps 8 rfl
  · exact storeAAt_keeps .bc 0 s
  · exact loadAAt_keeps .bc 0 s
  · exact storeAAt_keeps .de 0 s
  · exact loadAAt_keeps .de 0 s
  · exact storeAAt_keeps .hl 1 s
  · exact loadAAt_keeps .hl 1 s
  · exact storeAAt_keeps .hl (-1) s
  · exact loadAAt_keeps .hl (-1) s
  · split
    · rw [exec_incPairInstr]; exact finish8_keeps 8 rfl
    · rw [exec_decPairInstr]; exact finish8_keeps 8 rfl
  · rw [exec_incInstr]; exact inc8_keeps _ s
  · rw [exec_decInstr]; exact dec8_keeps _ s
  · rw [exec_ldImmInstr]; exact loadImm_keeps _ n s
  · exact exec_rotateAInstr_keeps y s

theorem exec_decodeBlock3_keeps (y z : Nat) (n : Byte) (nn : Half) (s : State) :
    Keeps outside8 s (exec (decodeBlock3 y z n nn) s) := by
  unfold decodeBlock3
  split
  · exact storeATo_keeps (highPage n) 12 s
  · exact finish8_keeps 16 rfl
  · exact loadAFrom_keeps (highPage n) 12 s
  · exact finish8_keeps 12 rfl
  · rw [exec_retInstr]; exact returnIf_keeps _ s
  · exact return8_keeps s
  · exact returnInterrupt_keeps s
  · exact finish8_keeps 4 rfl
  · exact finish8_keeps 8 rfl
  · rw [exec_popInstr]; exact popPair_keeps _ s
  · exact storeATo_keeps (highPage s.cpu8.c) 8 s
  · exact storeATo_keeps nn 16 s
  · exact loadAFrom_keeps (highPage s.cpu8.c) 8 s
  · exact loadAFrom_keeps nn 16 s
  · rw [exec_jpInstr]; exact jumpIf_keeps _ nn s
  · exact finish8_keeps 16 rfl
  · exact cbOperation_keeps n s
  · exact .fault
  · exact .fault
  · exact .fault
  · exact .fault
  · exact finish8_keeps 4 rfl
  · exact finish8_keeps 4 rfl
  · exact .fault
  · exact .fault
  · exact .fault
  · exact .fault
  · rw [exec_callInstr]; exact callIf_keeps _ nn s
  · exact callTo_keeps nn 24 s
  · exact .fault
  · exact .fault
  · exact .fault
  · rw [exec_pushInstr]; exact pushPair_keeps _ s
  · rw [exec_aluImmInstr]; exact finish8_keeps 8 rfl
  · rw [exec_rstInstr]; exact callTo_keeps _ 16 s

theorem exec_decodePrimary_keeps (op : Nat) (n : Byte) (nn : Half) (s : State) :
    Keeps outside8 s (exec (decodePrimary op n nn) s) := by
  unfold decodePrimary
  split
  · exact exec_decodeBlock0_keeps _ _ n nn s
  · exact exec_ldInstr_keeps _ _ s
  · rw [exec_aluInstr]; exact alu8_keeps _ _ s
  · exact exec_decodeBlock3_keeps _ _ n nn s

theorem exec_decodeCb_keeps (op : Nat) (s : State) : Keeps outside8 s (exec (decodeCb op) s) := by
  unfold decodeCb
  split
  · rw [exec_rotInstr]; exact cbRotate_keeps _ _ s
  · rw [exec_bitInstr]; exact cbBit_keeps _ _ s
  · rw [exec_resInstr]; exact cbRes_keeps _ _ s
  · rw [exec_setInstr]; exact cbSet_keeps _ _ s

/-! The step. -/

@[simp] theorem outside8_fetch8 (s : State) : outside8 (fetch8 s).2 = outside8 s := by
  unfold fetch8
  dsimp only
  split <;> simp

theorem exec_fetch8_keeps (s t : State) : Keeps outside8 t (exec (fetch8 s).1 t) := by
  unfold fetch8
  dsimp only
  split
  · split
    · exact exec_decodeCb_keeps _ t
    · exact exec_decodePrimary_keeps _ _ _ t
  · exact exec_decodePrimary_keeps _ _ _ t
  · exact exec_decodePrimary_keeps _ _ _ t

theorem finishStep8_keeps (s : State) : Keeps outside8 s (finishStep8 s) := .next rfl

@[simp] theorem outside8_completeEi (pend : Bool) (s : State) : outside8 (completeEi pend s) = outside8 s := by
  unfold completeEi
  split <;> rfl

theorem runInstruction8_keeps (s : State) : Keeps outside8 s (runInstruction8 s) :=
  .thenRes (.of_view_eq (outside8_fetch8 s) (exec_fetch8_keeps s _)) fun t =>
    .of_view_eq (outside8_completeEi _ t) (finishStep8_keeps _)

theorem dispatch8_keeps (s : State) : Keeps outside8 s (dispatch8 s) :=
  .thenRes (.of_view_eq (outside8_on8 _ s) (push16_keeps _ _)) fun _ => .next rfl

theorem boundary8_keeps (s : State) : Keeps outside8 s (boundary8 s) := by
  unfold boundary8
  split
  · exact .thenRes (dispatch8_keeps s) finishStep8_keeps
  · exact runInstruction8_keeps s

/-- A CPU-8 step changes nothing of the CPU-32 half or of what the host set (R2, R810). -/
theorem step8_keeps (s : State) : Keeps outside8 s (step8 s) := by
  refine .of_view_eq (outside8_beginStep s) ?_
  unfold step8
  dsimp only
  generalize beginStep s = u
  split
  · exact .next rfl
  split
  · split
    · exact .of_view_eq (outside8_charge 4 u) (finishStep8_keeps _)
    · exact .of_view_eq (outside8_on8 _ u) (boundary8_keeps _)
  · exact boundary8_keeps u

end Sys2Proof.Proofs
end

section
/-! PROOFS. No CPU-32 meaning changes anything outside the CPU-32 half, the cycles, the draws and the outbox. -/

namespace Sys2Proof.Proofs

open Sys2Proof.Machine

@[simp] theorem outside32_on32 (f : Cpu32 → Cpu32) (s : State) : outside32 (on32 f s) = outside32 s := rfl
@[simp] theorem outside32_charge (k : Nat) (s : State) : outside32 (charge k s) = outside32 s := rfl
@[simp] theorem outside32_deliver (d : Delivery) (s : State) : outside32 (deliver d s) = outside32 s := rfl
@[simp] theorem outside32_setPsr (f : Psr → Psr) (s : State) : outside32 (setPsr f s) = outside32 s := rfl
@[simp] theorem outside32_writeReg (i : RegNum) (v : Word) (s : State) : outside32 (writeReg i v s) = outside32 s := rfl
@[simp] theorem outside32_writeUser (i : RegNum) (v : Word) (s : State) : outside32 (writeUser i v s) = outside32 s := rfl
@[simp] theorem outside32_recordAccess (a : Word) (w : Width) (code : Bool) (s : State) :
    outside32 (recordAccess a w code s) = outside32 s := rfl
@[simp] theorem outside32_beginStep (s : State) : outside32 (beginStep s) = outside32 s := rfl
@[simp] theorem outside32_passCycles (k : Nat) (s : State) : outside32 (passCycles k s) = outside32 s := rfl

/-! The bus. -/

theorem outside32_of_readsTo {s t : State} (h : ReadsTo s t) : outside32 t = outside32 s := by
  obtain ⟨d, e, rfl⟩ := h
  rfl

theorem outside32_of_writesTo {s t : State} (h : WritesTo s t) : outside32 t = outside32 s :=
  (congrArg outside32 h.1).trans rfl

@[simp] theorem outside32_memRead (w : Width) (a : Word) (s : State) : outside32 (memRead w a s).2 = outside32 s :=
  outside32_of_readsTo (memRead_readsTo w a s)

@[simp] theorem outside32_loadData (seq : Bool) (w : Width) (a : Word) (s : State) :
    outside32 (loadData seq w a s).2 = outside32 s :=
  (outside32_of_readsTo (loadData_readsTo seq w a s)).trans rfl

@[simp] theorem outside32_loadValue (k : LoadKind) (a : Word) (s : State) :
    outside32 (loadValue k a s).2 = outside32 s := by
  unfold loadValue
  split
  case h_5 => split <;> exact outside32_loadData _ _ a s
  all_goals exact outside32_loadData _ _ a s

@[simp] theorem outside32_stored16 (r : Io32) (s : State) : outside32 (stored16 r s).2 = outside32 s := by
  cases r <;> rfl

theorem writeDmaControl_keeps (n : Fin 4) (v : Half) (s : State) : Keeps outside32 s (writeDmaControl n v s) := by
  unfold writeDmaControl
  dsimp only
  split
  · exact .next rfl
  split
  · exact .next rfl
  split
  · exact .refused
  · exact .next rfl

theorem writePostHalt_keeps (v mask : Half) (s : State) : Keeps outside32 s (writePostHalt v mask s) := by
  have hpost : ∀ f : Cpu32 → Cpu32, outside32 (if mask.getLsbD 0 then on32 f s else s) = outside32 s := by
    intro f
    split <;> rfl
  unfold writePostHalt
  dsimp only
  split
  · split
    · exact .refused
    · exact .next ((outside32_on32 _ _).trans (hpost _))
  · exact .next (hpost _)

theorem ioWrite16_keeps (r : Io32) (o : Nat) (v mask : Half) (s : State) :
    Keeps outside32 s (ioWrite16 r o v mask s) := by
  cases r with
  | dmaControl n => exact writeDmaControl_keeps n v s
  | postHalt => exact writePostHalt_keeps v mask s
  | _ => exact .next rfl

theorem ioWrite_keeps (w : Width) (a v : Word) (s : State) : Keeps outside32 s (ioWrite w a v s) := by
  cases w with
  | byte => exact .of_view_eq (outside32_stored16 _ s) (ioWrite16_keeps _ _ _ _ _)
  | half => exact ioWrite16_keeps _ _ _ _ s
  | word => exact .thenRes (ioWrite16_keeps _ _ _ _ s) fun t => ioWrite16_keeps _ _ _ _ t

theorem memWrite_keeps (m : Master) (w : Width) (a v : Word) (s : State) : Keeps outside32 s (memWrite m w a v s) := by
  by_cases h : region a = .io
  · unfold memWrite
    rw [h]
    exact ioWrite_keeps w a v s
  · obtain ⟨t, ht, hw⟩ := memWrite_writesTo m w a v s h
    rw [ht]
    exact .next (outside32_of_writesTo hw)

theorem storeData_keeps (seq : Bool) (w : Width) (a v : Word) (s : State) :
    Keeps outside32 s (storeData seq w a v s) := by
  unfold storeData
  dsimp only
  split
  · exact .fault
  · exact .of_view_eq rfl (memWrite_keeps .cpu w a v _)

/-! The endings. -/

theorem retire_keeps {s t : State} (extra : Nat) (h : outside32 t = outside32 s) :
    Keeps outside32 s (retire extra t) := .next h

theorem retireStore_keeps {s t : State} (h : outside32 t = outside32 s) : Keeps outside32 s (retireStore t) := .next h

theorem jumpTo_keeps {s u : State} (t : Bool) (v : Word) (h : outside32 u = outside32 s) :
    Keeps outside32 s (jumpTo t v u) := .next h

theorem writePcValue_keeps {s u : State} (v : Word) (h : outside32 u = outside32 s) :
    Keeps outside32 s (writePcValue v u) := jumpTo_keeps _ v h

theorem restoreCpsr_keeps (s : State) : Keeps outside32 s (restoreCpsr s) := by
  intro t ht
  obtain ⟨w, p, -, -, rfl⟩ := restoreCpsr_eq_next.mp ht
  rfl

theorem returnTo_keeps {s u : State} (v : Word) (h : outside32 u = outside32 s) : Keeps outside32 s (returnTo v u) :=
  .of_view_eq h (.thenRes (restoreCpsr_keeps u) fun _ => .next rfl)

theorem enterAt_keeps (m : Mode) (vector lr : Word) (s : State) : Keeps outside32 s (enterAt m vector lr s) := .next rfl

theorem finishLoad_keeps {s u : State} (rd : RegNum) (v : Word) (h : outside32 u = outside32 s) :
    Keeps outside32 s (finishLoad rd v u) := by
  unfold finishLoad
  split
  · exact writePcValue_keeps v h
  · exact retire_keeps 1 h

theorem ifCond_keeps {cond : Cond} {body : State → Res} {s : State} (h : Keeps outside32 s (body s)) :
    Keeps outside32 s (ifCond cond body s) := by
  unfold ifCond
  split
  · exact h
  · exact retire_keeps 0 rfl

theorem undefinedIfCond_keeps (w : Word) (s : State) : Keeps outside32 s (undefinedIfCond w s) := ifCond_keeps .fault

/-! Transfers of a register list. -/

theorem outside32_loadRegs {put : RegNum → Word → State → State} {wb : State → State}
    (hput : ∀ i v s, outside32 (put i v s) = outside32 s) (hwb : ∀ s, outside32 (wb s) = outside32 s)
    (regs : List RegNum) (first : Bool) (a : Word) (s : State) :
    outside32 (loadRegs put wb first regs a s).2 = outside32 s := by
  induction regs generalizing first a s with
  | nil => rfl
  | cons i rest ih =>
    have hbase : ∀ t, outside32 (if first then wb t else t) = outside32 t := by
      intro t
      split
      · exact hwb t
      · rfl
    unfold loadRegs
    dsimp only
    split
    · rw [hbase, outside32_loadData]
    · rw [ih, hput, hbase, outside32_loadData]

theorem storeRegs_keeps {get : RegNum → State → Word} {wb : State → State} (hwb : ∀ s, outside32 (wb s) = outside32 s)
    (regs : List RegNum) (first : Bool) (a : Word) (s : State) :
    Keeps outside32 s (storeRegs get wb first regs a s) := by
  induction regs generalizing first a s with
  | nil => exact .next rfl
  | cons i rest ih =>
    refine .thenRes (storeData_keeps _ _ _ _ s) fun t => .of_view_eq ?_ (ih false _ _)
    split
    · exact hwb t
    · rfl

/-! ARM data processing and multiply. -/

theorem dpFinish_keeps (op : DpOp) (d : Dp) (a b : Word) (shc : Bool) (extra : Nat) (s : State) :
    Keeps outside32 s (dpFinish op d a b shc extra s) := by
  unfold dpFinish
  dsimp only
  split
  · split
    · exact .fault
    · exact retire_keeps extra rfl
  split
  · exact .fault
  split
  · split
    · exact returnTo_keeps _ (outside32_charge extra s)
    · exact writePcValue_keeps _ (outside32_charge extra s)
  · refine retire_keeps extra ?_
    split <;> rfl

theorem dpImm_keeps (op : DpOp) (d : Dp) (x : Op2Imm) (s : State) : Keeps outside32 s (dpImm op d x s) :=
  ifCond_keeps (dpFinish_keeps op d _ _ _ 0 s)

theorem dpShift_keeps (op : DpOp) (d : Dp) (x : Op2Shift) (s : State) : Keeps outside32 s (dpShift op d x s) :=
  ifCond_keeps (dpFinish_keeps op d _ _ _ 0 s)

theorem dpRegShift_keeps (op : DpOp) (d : Dp) (x : Op2RegShift) (s : State) :
    Keeps outside32 s (dpRegShift op d x s) := by
  refine ifCond_keeps ?_
  split
  · exact .fault
  · exact dpFinish_keeps op d _ _ _ 1 s

theorem multiplyFinish_keeps (o : MulOps) (acc : Word) (extra : Nat) (s : State) :
    Keeps outside32 s (multiplyFinish o acc extra s) := by
  unfold multiplyFinish
  refine retire_keeps _ ?_
  split <;> rfl

theorem multiply_keeps (o : MulOps) (s : State) : Keeps outside32 s (multiply o s) := by
  refine ifCond_keeps ?_
  split
  · exact .fault
  split
  · exact .fault
  · exact multiplyFinish_keeps o 0 0 s

theorem multiplyAccumulate_keeps (o : MulOps) (s : State) : Keeps outside32 s (multiplyAccumulate o s) := by
  refine ifCond_keeps ?_
  split
  · exact .fault
  · exact multiplyFinish_keeps o _ 1 s

theorem multiplyLong_keeps (signed acc : Bool) (o : LongMulOps) (s : State) :
    Keeps outside32 s (multiplyLong signed acc o s) := by
  refine ifCond_keeps ?_
  split
  · exact .fault
  · refine retire_keeps _ ?_
    split <;> rfl

/-! ARM loads and stores. -/

@[simp] theorem outside32_writeBack (ix : Index) (a : Word) (s : State) :
    outside32 (Index.writeBack ix a s) = outside32 s := by
  unfold Index.writeBack
  split <;> rfl

theorem loadIndexed_keeps (k : LoadKind) (ix : Index) (offset : Word) (s : State) :
    Keeps outside32 s (loadIndexed k ix offset s) := by
  unfold loadIndexed
  split
  · exact .fault
  split
  · exact .fault
  · exact finishLoad_keeps _ _ ((outside32_writeBack _ _ _).trans (outside32_loadValue _ _ _))

theorem storeIndexed_keeps (w : Width) (ix : Index) (offset : Word) (s : State) :
    Keeps outside32 s (storeIndexed w ix offset s) := by
  unfold storeIndexed
  split
  · exact .fault
  · exact .thenRes (storeData_keeps _ _ _ _ s) fun t => retireStore_keeps (outside32_writeBack _ _ t)

theorem loadSingle_keeps (k : LoadKind) (ix : Index) (offset : Word) (s : State) :
    Keeps outside32 s (loadSingle k ix offset s) := by
  unfold loadSingle
  split
  · exact .fault
  · exact loadIndexed_keeps k ix offset s

theorem loadSingleImm_keeps (k : LoadKind) (o : XferImm) (s : State) : Keeps outside32 s (loadSingleImm k o s) :=
  ifCond_keeps (loadSingle_keeps k o.ix _ s)

theorem loadSingleReg_keeps (k : LoadKind) (o : XferReg) (s : State) : Keeps outside32 s (loadSingleReg k o s) := by
  refine ifCond_keeps ?_
  split
  · exact .fault
  · exact loadSingle_keeps k o.ix _ s

theorem storeSingleImm_keeps (w : Width) (o : XferImm) (s : State) : Keeps outside32 s (storeSingleImm w o s) :=
  ifCond_keeps (storeIndexed_keeps w o.ix _ s)

theorem storeSingleReg_keeps (w : Width) (o : XferReg) (s : State) : Keeps outside32 s (storeSingleReg w o s) := by
  refine ifCond_keeps ?_
  split
  · exact .fault
  · exact storeIndexed_keeps w o.ix _ s

theorem halfChecked_keeps {ix : Index} {body : State → Res} {s : State} (h : Keeps outside32 s (body s)) :
    Keeps outside32 s (halfChecked ix body s) := by
  unfold halfChecked
  split
  · exact .fault
  split
  · exact .fault
  · exact h

theorem loadHalfReg_keeps (k : LoadKind) (o : HalfReg) (s : State) : Keeps outside32 s (loadHalfReg k o s) := by
  refine ifCond_keeps (halfChecked_keeps ?_)
  split
  · exact .fault
  · exact loadIndexed_keeps k o.ix _ s

theorem loadHalfImm_keeps (k : LoadKind) (o : HalfImm) (s : State) : Keeps outside32 s (loadHalfImm k o s) :=
  ifCond_keeps (halfChecked_keeps (loadIndexed_keeps k o.ix _ s))

theorem storeHalfReg_keeps (o : HalfReg) (s : State) : Keeps outside32 s (storeHalfReg o s) := by
  refine ifCond_keeps (halfChecked_keeps ?_)
  split
  · exact .fault
  · exact storeIndexed_keeps .half o.ix _ s

theorem storeHalfImm_keeps (o : HalfImm) (s : State) : Keeps outside32 s (storeHalfImm o s) :=
  ifCond_keeps (halfChecked_keeps (storeIndexed_keeps .half o.ix _ s))

theorem blockChecked_keeps {o : BlockOps} {restores : Bool} {body : State → Res} {s : State}
    (h : Keeps outside32 s (body s)) : Keeps outside32 s (blockChecked o restores body s) := by
  unfold blockChecked
  split
  · exact .fault
  split
  · exact .fault
  split
  · exact .fault
  · exact h

theorem outside32_writeReg_if (c : Prop) [Decidable c] (i : RegNum) (v : Word) (s : State) :
    outside32 (if c then writeReg i v s else s) = outside32 s := by
  split <;> rfl

theorem blockLoad_keeps (o : BlockOps) (s : State) : Keeps outside32 s (blockLoad o s) := by
  have hput : ∀ (i : RegNum) (v : Word) (t : State),
      outside32 ((if o.s then writeUser else writeReg) i v t) = outside32 t := by
    intro i v t
    split <;> rfl
  refine ifCond_keeps (blockChecked_keeps ?_)
  dsimp only
  have htransfer := outside32_loadRegs hput
    (outside32_writeReg_if (o.wb = true ∧ o.rn ∉ blockRegs o.list) o.rn (blockNewBase o (readReg o.rn s)))
    (blockRegs o.list) true (blockStart o (readReg o.rn s)) s
  generalize loadRegs _ _ _ _ _ _ = r at htransfer ⊢
  split
  · exact retire_keeps 1 htransfer
  split
  · exact returnTo_keeps _ htransfer
  · exact writePcValue_keeps _ htransfer

theorem blockStore_keeps (o : BlockOps) (s : State) : Keeps outside32 s (blockStore o s) :=
  ifCond_keeps (blockChecked_keeps
    (.thenRes (storeRegs_keeps (outside32_writeReg_if _ _ _) _ _ _ s) fun _ => retireStore_keeps rfl))

theorem swap_keeps (w : Width) (o : SwapOps) (s : State) : Keeps outside32 s (swap w o s) := by
  refine ifCond_keeps ?_
  split
  · exact .fault
  · exact .thenRes (.of_view_eq (outside32_loadValue _ _ s) (storeData_keeps _ _ _ _ _)) fun _ => retire_keeps 1 rfl

end Sys2Proof.Proofs
end

section
/-! PROOFS. The ARM branches and status transfers, the THUMB rows, the decoders, DMA and the step: they too keep what
stands outside the CPU-32 half; and with it the two variants are separate. -/

namespace Sys2Proof.Proofs

open Sys2Proof.Machine

/-! ARM branches and status transfers. -/

theorem branch_keeps (link : Bool) (o : BranchOps) (s : State) : Keeps outside32 s (branch link o s) := by
  refine ifCond_keeps (jumpTo_keeps _ _ ?_)
  split <;> rfl

theorem armBranchExchange_keeps (o : BranchExchange) (s : State) : Keeps outside32 s (armBranchExchange o s) :=
  ifCond_keeps (jumpTo_keeps _ _ rfl)

theorem softwareInterrupt_keeps (o : SwiOps) (s : State) : Keeps outside32 s (softwareInterrupt o s) :=
  ifCond_keeps (enterAt_keeps _ _ _ s)

theorem writePsr_keeps (spsr : Bool) (fields : BitVec 4) (v : Word) (s : State) :
    Keeps outside32 s (writePsr spsr fields v s) := by
  unfold writePsr
  dsimp only
  split
  · split
    · exact .fault
    · exact .next rfl
  · split
    · exact .fault
    · exact .next rfl

theorem moveFromPsr_keeps (o : MrsOps) (s : State) : Keeps outside32 s (moveFromPsr o s) := by
  refine ifCond_keeps ?_
  split
  · exact .fault
  split
  · exact .fault
  split
  · split
    · exact .fault
    · exact retire_keeps 0 rfl
  · exact retire_keeps 0 rfl

theorem moveToPsrReg_keeps (o : MsrRegOps) (s : State) : Keeps outside32 s (moveToPsrReg o s) := by
  refine ifCond_keeps ?_
  split
  · exact .fault
  split
  · exact .fault
  · exact .thenRes (writePsr_keeps _ _ _ s) fun _ => retire_keeps 0 rfl

theorem moveToPsrImm_keeps (o : MsrImmOps) (s : State) : Keeps outside32 s (moveToPsrImm o s) :=
  ifCond_keeps (.thenRes (writePsr_keeps _ _ _ s) fun _ => retire_keeps 0 rfl)

/-! The ARM decoder, by the rows of R212. -/

theorem exec_mulInstr_keeps (w : Nat) (s : State) : Keeps outside32 s (exec (mulInstr w) s) := by
  unfold mulInstr
  split
  · exact multiplyAccumulate_keeps _ s
  · exact multiply_keeps _ s

theorem exec_longMulInstr_keeps (w : Nat) (s : State) : Keeps outside32 s (exec (longMulInstr w) s) := by
  unfold longMulInstr
  split
  · exact multiplyLong_keeps false false _ s
  · exact multiplyLong_keeps false true _ s
  · exact multiplyLong_keeps true false _ s
  · exact multiplyLong_keeps true true _ s

theorem exec_halfRegInstr_keeps (w : Nat) (s : State) : Keeps outside32 s (exec (halfRegInstr w) s) := by
  unfold halfRegInstr
  split
  · exact undefinedIfCond_keeps _ s
  split
  · exact storeHalfReg_keeps _ s
  split
  · exact loadHalfReg_keeps .unsignedHalf _ s
  · exact loadHalfReg_keeps .signedByte _ s
  · exact loadHalfReg_keeps .signedHalf _ s

theorem exec_halfImmInstr_keeps (w : Nat) (s : State) : Keeps outside32 s (exec (halfImmInstr w) s) := by
  unfold halfImmInstr
  split
  · exact undefinedIfCond_keeps _ s
  split
  · exact storeHalfImm_keeps _ s
  split
  · exact loadHalfImm_keeps .unsignedHalf _ s
  · exact loadHalfImm_keeps .signedByte _ s
  · exact loadHalfImm_keeps .signedHalf _ s

theorem exec_dataProcInstr_keeps (w : Nat) (s : State) : Keeps outside32 s (exec (dataProcInstr w) s) := by
  unfold dataProcInstr
  split
  · rw [exec_dpImmInstr]; exact dpImm_keeps _ _ _ s
  split
  · rw [exec_dpShiftInstr]; exact dpShift_keeps _ _ _ s
  · rw [exec_dpRegShiftInstr]; exact dpRegShift_keeps _ _ _ s

theorem exec_singleInstr_keeps (w : Nat) (s : State) : Keeps outside32 s (exec (singleInstr w) s) := by
  unfold singleInstr
  split
  · split
    · exact storeSingleReg_keeps .word _ s
    · exact loadSingleReg_keeps .word _ s
    · exact storeSingleReg_keeps .byte _ s
    · exact loadSingleReg_keeps .unsignedByte _ s
  · split
    · exact storeSingleImm_keeps .word _ s
    · exact loadSingleImm_keeps .word _ s
    · exact storeSingleImm_keeps .byte _ s
    · exact loadSingleImm_keeps .unsignedByte _ s

theorem exec_ite_keeps {c : Prop} [Decidable c] {i j : Instr} {s : State} (hi : Keeps outside32 s (exec i s))
    (hj : Keeps outside32 s (exec j s)) : Keeps outside32 s (exec (if c then i else j) s) := by
  split
  · exact hi
  · exact hj

theorem exec_decodeArmWord_keeps (w : Nat) (s : State) : Keeps outside32 s (exec (decodeArmWord w) s) := by
  unfold decodeArmWord
  refine exec_ite_keeps .fault ?_
  refine exec_ite_keeps (armBranchExchange_keeps _ s) ?_
  refine exec_ite_keeps (exec_mulInstr_keeps w s) ?_
  refine exec_ite_keeps (exec_longMulInstr_keeps w s) ?_
  refine exec_ite_keeps (exec_ite_keeps (swap_keeps .byte _ s) (swap_keeps .word _ s)) ?_
  refine exec_ite_keeps (exec_halfRegInstr_keeps w s) ?_
  refine exec_ite_keeps (exec_halfImmInstr_keeps w s) ?_
  refine exec_ite_keeps (undefinedIfCond_keeps _ s) ?_
  refine exec_ite_keeps (moveFromPsr_keeps _ s) ?_
  refine exec_ite_keeps (moveToPsrReg_keeps _ s) ?_
  refine exec_ite_keeps (moveToPsrImm_keeps _ s) ?_
  refine exec_ite_keeps (undefinedIfCond_keeps _ s) ?_
  refine exec_ite_keeps (exec_dataProcInstr_keeps w s) ?_
  refine exec_ite_keeps (undefinedIfCond_keeps _ s) ?_
  split
  · exact exec_singleInstr_keeps w s
  · exact exec_singleInstr_keeps w s
  · exact exec_ite_keeps (blockLoad_keeps _ s) (blockStore_keeps _ s)
  · exact exec_ite_keeps (branch_keeps true _ s) (branch_keeps false _ s)
  · exact undefinedIfCond_keeps _ s
  · exact exec_ite_keeps (undefinedIfCond_keeps _ s) (softwareInterrupt_keeps _ s)

/-! THUMB. -/

theorem thumbResult_keeps (rd : LowReg) (r : Word × Bool × Bool) (extra : Nat) (s : State) :
    Keeps outside32 s (thumbResult rd r extra s) := retire_keeps extra rfl

theorem thumbTest_keeps (r : Word × Bool × Bool) (s : State) : Keeps outside32 s (thumbTest r s) := retire_keeps 0 rfl

theorem thumbImm8_keeps (op : DpOp) (rd : LowReg) (imm : Byte) (s : State) :
    Keeps outside32 s (thumbImm8 op rd imm s) := by
  unfold thumbImm8
  dsimp only
  split
  · exact thumbTest_keeps _ s
  · exact thumbResult_keeps rd _ 0 s

theorem thumbAlu_keeps (op : DpOp) (rd rs : LowReg) (s : State) : Keeps outside32 s (thumbAlu op rd rs s) := by
  unfold thumbAlu
  dsimp only
  split
  · exact thumbTest_keeps _ s
  · exact thumbResult_keeps rd _ 0 s

theorem thumbShiftImm_keeps (kind : Shift) (rd rs : LowReg) (amount : BitVec 5) (s : State) :
    Keeps outside32 s (thumbShiftImm kind rd rs amount s) := thumbResult_keeps rd _ 0 s

theorem thumbAddSubReg_keeps (op : DpOp) (rd rs rn : LowReg) (s : State) :
    Keeps outside32 s (thumbAddSubReg op rd rs rn s) := thumbResult_keeps rd _ 0 s

theorem thumbAddSubImm_keeps (op : DpOp) (rd rs : LowReg) (imm : BitVec 3) (s : State) :
    Keeps outside32 s (thumbAddSubImm op rd rs imm s) := thumbResult_keeps rd _ 0 s

theorem thumbShiftReg_keeps (kind : Shift) (rd rs : LowReg) (s : State) :
    Keeps outside32 s (thumbShiftReg kind rd rs s) := thumbResult_keeps rd _ 1 s

theorem thumbNegate_keeps (rd rs : LowReg) (s : State) : Keeps outside32 s (thumbNegate rd rs s) :=
  thumbResult_keeps rd _ 0 s

theorem thumbMultiply_keeps (rd rs : LowReg) (s : State) : Keeps outside32 s (thumbMultiply rd rs s) :=
  thumbResult_keeps rd _ _ s

theorem highChecked_keeps {hd hs : RegNum} {body : State → Res} {s : State} (h : Keeps outside32 s (body s)) :
    Keeps outside32 s (highChecked hd hs body s) := by
  unfold highChecked
  split
  · exact .fault
  · exact h

theorem writeHigh_keeps (hd : RegNum) (v : Word) (s : State) : Keeps outside32 s (writeHigh hd v s) := by
  unfold writeHigh
  split
  · exact writePcValue_keeps v rfl
  · exact retire_keeps 0 rfl

theorem thumbAddHigh_keeps (hd hs : RegNum) (s : State) : Keeps outside32 s (thumbAddHigh hd hs s) :=
  highChecked_keeps (writeHigh_keeps hd _ s)

theorem thumbCompareHigh_keeps (hd hs : RegNum) (s : State) : Keeps outside32 s (thumbCompareHigh hd hs s) :=
  highChecked_keeps (thumbTest_keeps _ s)

theorem thumbMoveHigh_keeps (hd hs : RegNum) (s : State) : Keeps outside32 s (thumbMoveHigh hd hs s) :=
  highChecked_keeps (writeHigh_keeps hd _ s)

theorem thumbLoad_keeps (k : LoadKind) (rd : LowReg) (a : Word) (s : State) :
    Keeps outside32 s (thumbLoad k rd a s) := finishLoad_keeps _ _ (outside32_loadValue k a s)

theorem thumbStore_keeps (w : Width) (rd : LowReg) (a : Word) (s : State) :
    Keeps outside32 s (thumbStore w rd a s) :=
  .thenRes (storeData_keeps _ w a _ s) fun _ => retireStore_keeps rfl

theorem listChecked_keeps {regs : List RegNum} {body : State → Res} {s : State} (h : Keeps outside32 s (body s)) :
    Keeps outside32 s (listChecked regs body s) := by
  unfold listChecked
  split
  · exact .fault
  · exact h

theorem thumbPushRegs_keeps (lr : Bool) (list : Byte) (s : State) : Keeps outside32 s (thumbPushRegs lr list s) := by
  unfold thumbPushRegs
  exact listChecked_keeps (.thenRes (storeRegs_keeps (fun _ => rfl) _ _ _ s) fun _ => retireStore_keeps rfl)

theorem outside32_loadRegs_writeReg (regs : List RegNum) (a : Word) (s : State) :
    outside32 (loadRegs writeReg (fun s => s) true regs a s).2 = outside32 s :=
  outside32_loadRegs outside32_writeReg (fun _ => rfl) regs true a s

theorem thumbPopRegs_keeps (toPc : Bool) (list : Byte) (s : State) : Keeps outside32 s (thumbPopRegs toPc list s) := by
  unfold thumbPopRegs
  refine listChecked_keeps ?_
  have htransfer := outside32_loadRegs_writeReg (popList toPc list) (readReg 13#4 s) s
  dsimp only
  generalize loadRegs _ _ _ _ _ _ = r at htransfer ⊢
  split
  · exact writePcValue_keeps _ htransfer
  · exact retire_keeps 0 htransfer

theorem thumbStoreMultiple_keeps (rb : LowReg) (list : Byte) (s : State) :
    Keeps outside32 s (thumbStoreMultiple rb list s) := by
  unfold thumbStoreMultiple
  exact listChecked_keeps (.thenRes (storeRegs_keeps (outside32_writeReg _ _) _ _ _ s) fun _ => retireStore_keeps rfl)

theorem thumbLoadMultiple_keeps (rb : LowReg) (list : Byte) (s : State) :
    Keeps outside32 s (thumbLoadMultiple rb list s) := by
  unfold thumbLoadMultiple
  refine listChecked_keeps ?_
  have htransfer := outside32_loadRegs_writeReg (listedRegs list.toNat) (readReg (low rb) s) s
  dsimp only
  generalize loadRegs _ _ _ _ _ _ = r at htransfer ⊢
  refine retire_keeps 1 ?_
  split
  · exact htransfer
  · exact htransfer

theorem thumbBranchCond_keeps (cond : Cond) (offset : Byte) (s : State) :
    Keeps outside32 s (thumbBranchCond cond offset s) := ifCond_keeps (jumpTo_keeps _ _ rfl)

/-! The THUMB decoder, by the formats of R220. -/

theorem exec_thumbAluInstr_keeps (op : Nat) (rd rs : LowReg) (s : State) :
    Keeps outside32 s (exec (thumbAluInstr op rd rs) s) := by
  unfold thumbAluInstr
  split
  · exact thumbAlu_keeps .and rd rs s
  · exact thumbAlu_keeps .eor rd rs s
  · exact thumbShiftReg_keeps .lsl rd rs s
  · exact thumbShiftReg_keeps .lsr rd rs s
  · exact thumbShiftReg_keeps .asr rd rs s
  · exact thumbAlu_keeps .adc rd rs s
  · exact thumbAlu_keeps .sbc rd rs s
  · exact thumbShiftReg_keeps .ror rd rs s
  · exact thumbAlu_keeps .tst rd rs s
  · exact thumbNegate_keeps rd rs s
  · exact thumbAlu_keeps .cmp rd rs s
  · exact thumbAlu_keeps .cmn rd rs s
  · exact thumbAlu_keeps .orr rd rs s
  · exact thumbMultiply_keeps rd rs s
  · exact thumbAlu_keeps .bic rd rs s
  · exact thumbAlu_keeps .mvn rd rs s

theorem exec_thumbRegXferInstr_keeps (op : Nat) (rd rb ro : LowReg) (s : State) :
    Keeps outside32 s (exec (thumbRegXferInstr op rd rb ro) s) := by
  unfold thumbRegXferInstr
  split
  · exact thumbStore_keeps .word rd _ s
  · exact thumbStore_keeps .half rd _ s
  · exact thumbStore_keeps .byte rd _ s
  · exact thumbLoad_keeps .signedByte rd _ s
  · exact thumbLoad_keeps .word rd _ s
  · exact thumbLoad_keeps .unsignedHalf rd _ s
  · exact thumbLoad_keeps .unsignedByte rd _ s
  · exact thumbLoad_keeps .signedHalf rd _ s

theorem exec_thumbAluSpace_keeps (w : Nat) (s : State) : Keeps outside32 s (exec (thumbAluSpace w) s) := by
  unfold thumbAluSpace
  split
  · exact thumbAddHigh_keeps _ _ s
  · exact thumbCompareHigh_keeps _ _ s
  · exact thumbMoveHigh_keeps _ _ s
  · split
    · exact .fault
    · exact jumpTo_keeps _ _ rfl
  · exact exec_thumbAluInstr_keeps _ _ _ s

theorem exec_thumbMiscSpace_keeps (w : Nat) (s : State) : Keeps outside32 s (exec (thumbMiscSpace w) s) := by
  unfold thumbMiscSpace
  split
  · exact retire_keeps 0 rfl
  · exact .fault
  · exact .fault
  · exact .fault
  · exact thumbPushRegs_keeps false _ s
  · exact thumbPushRegs_keeps true _ s
  · exact .fault
  · exact .fault
  · exact thumbPopRegs_keeps false _ s
  · exact thumbPopRegs_keeps true _ s
  · exact .fault
  · exact .fault
  · exact .fault

theorem exec_thumbCondSpace_keeps (w : Nat) (s : State) : Keeps outside32 s (exec (thumbCondSpace w) s) := by
  unfold thumbCondSpace
  split
  · exact .fault
  · exact enterAt_keeps _ _ _ s
  · exact thumbBranchCond_keeps _ _ s

theorem exec_thumbAddSubSpace_keeps (w : Nat) (s : State) : Keeps outside32 s (exec (thumbAddSubSpace w) s) := by
  unfold thumbAddSubSpace
  split
  · exact thumbAddSubReg_keeps .add _ _ _ s
  · exact thumbAddSubReg_keeps .sub _ _ _ s
  · exact thumbAddSubImm_keeps .add _ _ _ s
  · exact thumbAddSubImm_keeps .sub _ _ _ s

theorem exec_decodeThumbWord_keeps (w : Nat) (s : State) : Keeps outside32 s (exec (decodeThumbWord w) s) := by
  unfold decodeThumbWord
  split
  · exact thumbShiftImm_keeps .lsl _ _ _ s
  · exact thumbShiftImm_keeps .lsr _ _ _ s
  · exact thumbShiftImm_keeps .asr _ _ _ s
  · exact exec_thumbAddSubSpace_keeps w s
  · exact thumbImm8_keeps .mov _ _ s
  · exact thumbImm8_keeps .cmp _ _ s
  · exact thumbImm8_keeps .add _ _ s
  · exact thumbImm8_keeps .sub _ _ s
  · exact exec_thumbAluSpace_keeps w s
  · exact thumbLoad_keeps .word _ _ s
  · exact exec_thumbRegXferInstr_keeps _ _ _ _ s
  · exact exec_thumbRegXferInstr_keeps _ _ _ _ s
  · exact thumbStore_keeps .word _ _ s
  · exact thumbLoad_keeps .word _ _ s
  · exact thumbStore_keeps .byte _ _ s
  · exact thumbLoad_keeps .unsignedByte _ _ s
  · exact thumbStore_keeps .half _ _ s
  · exact thumbLoad_keeps .unsignedHalf _ _ s
  · exact thumbStore_keeps .word _ _ s
  · exact thumbLoad_keeps .word _ _ s
  · exact retire_keeps 0 rfl
  · exact retire_keeps 0 rfl
  · exact exec_thumbMiscSpace_keeps w s
  · exact exec_thumbMiscSpace_keeps w s
  · exact thumbStoreMultiple_keeps _ _ s
  · exact thumbLoadMultiple_keeps _ _ s
  · exact exec_thumbCondSpace_keeps w s
  · exact exec_thumbCondSpace_keeps w s
  · exact jumpTo_keeps _ _ rfl
  · exact .fault
  · exact retire_keeps 0 rfl
  · exact jumpTo_keeps _ _ rfl

/-! DMA. -/

theorem dmaUnit_keeps (n : Fin 4) (w : Width) (count : Nat) (s : State) : Keeps outside32 s (dmaUnit n w count s) := by
  unfold dmaUnit
  dsimp only
  split
  · exact .refused
  · refine .thenRes (.of_view_eq ?_ (memWrite_keeps _ _ _ _ _)) fun _ => .next rfl
    rw [outside32_recordAccess, outside32_memRead, outside32_recordAccess]

theorem dmaTransfer_keeps (n : Fin 4) (w : Width) (count k : Nat) (s : State) :
    Keeps outside32 s (dmaTransfer n w count k s) := by
  induction k generalizing s with
  | zero => exact .next rfl
  | succ k ih => exact .thenRes (dmaUnit_keeps n w count s) ih

theorem dmaRun_keeps (n : Fin 4) (s : State) : Keeps outside32 s (dmaRun n s) := by
  refine .thenRes (dmaTransfer_keeps n _ _ _ s) fun t => .next ?_
  rw [outside32_passCycles]
  split <;> rfl

theorem dmaPhase_keeps (fuel : Nat) (s : State) : Keeps outside32 s (dmaPhase fuel s) := by
  induction fuel generalizing s with
  | zero => exact .next rfl
  | succ fuel ih =>
    cases h : s.cpu32.lowestPending with
    | none =>
      rw [dmaPhase_idle _ h]
      exact .next rfl
    | some n =>
      rw [dmaPhase_pending _ h]
      exact .thenRes (dmaRun_keeps n s) ih

/-! The step. -/

@[simp] theorem outside32_fetch32 (s : State) : outside32 (fetch32 s).2 = outside32 s :=
  (outside32_memRead _ _ _).trans (outside32_recordAccess _ _ _ s)

theorem exec_fetch32_keeps (s t : State) : Keeps outside32 t (exec (fetch32 s).1 t) := by
  unfold fetch32
  dsimp only
  split
  · exact exec_decodeThumbWord_keeps _ t
  · exact exec_decodeArmWord_keeps _ t

theorem runInstruction32_keeps (s : State) : Keeps outside32 s (runInstruction32 s) :=
  .thenRes (.of_view_eq (outside32_fetch32 s) (exec_fetch32_keeps s _)) fun _ => .next rfl

theorem boundary32_keeps (s : State) : Keeps outside32 s (boundary32 s) := by
  unfold boundary32
  split
  · exact .next rfl
  · exact runInstruction32_keeps s

theorem afterDma_keeps (s : State) : Keeps outside32 s (afterDma s) := by
  unfold afterDma
  split
  · exact .next rfl
  split
  · split
    · exact .next rfl
    · exact .of_view_eq (outside32_on32 _ s) (boundary32_keeps _)
  · exact boundary32_keeps s

/-- A CPU-32 step changes nothing of the CPU-8 half or of what the host set (R2, R811). -/
theorem step32_keeps (s : State) : Keeps outside32 s (step32 s) :=
  .thenRes (.of_view_eq (outside32_beginStep s) (dmaPhase_keeps _ _)) afterDma_keeps

/-- A machine that steps has not faulted, and its step is its variant's (R2, R13). -/
theorem step_eq_next {s t : State} (h : step s = .next t) : s.fault = none ∧
    ((s.params.variant = .cpu8 ∧ step8 s = .next t) ∨ (s.params.variant = .cpu32 ∧ step32 s = .next t)) := by
  unfold step at h
  split at h
  · cases h
  · rename_i hf
    split at h
    · rename_i hv
      exact ⟨hf, .inl ⟨hv, h⟩⟩
    · rename_i hv
      exact ⟨hf, .inr ⟨hv, h⟩⟩

/-- Settles O58: each variant's step keeps what stands outside its half. -/
theorem variantsSeparate : Obligations.VariantsSeparate := by
  refine ⟨fun s t h => ?_, fun s f hf => ?_⟩
  · obtain ⟨hf, ⟨hv, h8⟩ | ⟨hv, h32⟩⟩ := step_eq_next h
    · have hkeep := step8_keeps s t h8
      simp only [outside8, hostPart, Prod.mk.injEq] at hkeep
      obtain ⟨⟨hparams, hcart, hfault, hcallback, hreset⟩, hcpu32⟩ := hkeep
      exact ⟨hparams, hcart, hfault.trans hf, hcallback, hreset, fun _ => hcpu32, fun e => by simp [hv] at e⟩
    · have hkeep := step32_keeps s t h32
      simp only [outside32, hostPart, Prod.mk.injEq] at hkeep
      obtain ⟨⟨hparams, hcart, hfault, hcallback, hreset⟩, hcpu8⟩ := hkeep
      exact ⟨hparams, hcart, hfault.trans hf, hcallback, hreset, fun e => by simp [hv] at e, fun _ => hcpu8⟩
  · unfold step
    rw [hf]

end Sys2Proof.Proofs
end

section
/-! PROOFS. What a meaning's answer may be, as a relation between the state before and after; and the shape of the CPU-8
half, which every CPU-8 meaning keeps (R32). -/

namespace Sys2Proof.Proofs

open Sys2Proof.Machine

/-- If the answer is a next state, it stands in this relation to `s`. -/
def Answers (R : State → State → Prop) (s : State) (r : Res) : Prop := ∀ t, r = .next t → R s t

section
variable {R : State → State → Prop} {s : State}

theorem Answers.next {t : State} (h : R s t) : Answers R s (.next t) := by
  rintro _ ⟨⟩
  exact h

theorem Answers.fault {f : Fault} : Answers R s (.fault f) := fun _ h => by cases h

theorem Answers.refused {q : Refusal} : Answers R s (.refused q) := fun _ h => by cases h

/-- The relation of a sequence, where it is transitive. -/
theorem Answers.seq (trans : ∀ a b c : State, R a b → R b c → R a c) {r : Res} {k : State → Res}
    (h : Answers R s r) (hk : ∀ t, Answers R t (k t)) : Answers R s (thenRes r k) := by
  intro t ht
  obtain ⟨u, hu, ht⟩ := thenRes_eq_next.mp ht
  exact trans _ _ _ (h u hu) (hk u t ht)

/-- A meaning may begin in a state that is already related to the first. -/
theorem Answers.of_rel (trans : ∀ a b c : State, R a b → R b c → R a c) {u : State} {r : Res} (hu : R s u)
    (h : Answers R u r) : Answers R s r := fun t ht => trans _ _ _ hu (h t ht)

end

/-! The shape of the CPU-8 half. -/

/-- The shape of the CPU-8 half is kept from one state to the other. -/
def KeepsWf8 (s t : State) : Prop := s.cpu8.wf → t.cpu8.wf

theorem KeepsWf8.trans {s t u : State} (h : KeepsWf8 s t) (h' : KeepsWf8 t u) : KeepsWf8 s u := fun w => h' (h w)

theorem thenRes_wf8 {s : State} {r : Res} {k : State → Res} (h : Answers KeepsWf8 s r)
    (hk : ∀ t, Answers KeepsWf8 t (k t)) : Answers KeepsWf8 s (thenRes r k) :=
  .seq (R := KeepsWf8) (fun _ _ _ => .trans) h hk

theorem KeepsWf8.andThen {s u : State} {r : Res} (h : KeepsWf8 s u) (hr : Answers KeepsWf8 u r) :
    Answers KeepsWf8 s r := .of_rel (R := KeepsWf8) (fun _ _ _ => .trans) h hr

theorem KeepsWf8.of_eq {s t : State} (hf : t.cpu8.f = s.cpu8.f) (hm : t.cpu8.mem = s.cpu8.mem) : KeepsWf8 s t := by
  intro h
  rw [Cpu8.wf, hf, hm]
  exact h

/-- A masked F has the shape, whatever it was (R32). -/
theorem KeepsWf8.of_masked {s t : State} {v : Byte} (hf : t.cpu8.f = v &&& 0xF0#8) (hm : t.cpu8.mem = s.cpu8.mem) :
    KeepsWf8 s t := by
  intro h
  rw [Cpu8.wf, hf, hm]
  exact ⟨low_of_mask v, h.2⟩

theorem keepsWf8_of_cpu8 {s t : State} (h : t.cpu8 = s.cpu8) : KeepsWf8 s t := .of_eq (by rw [h]) (by rw [h])

theorem keepsWf8_setF (v : Byte) (s : State) : KeepsWf8 s (on8 (fun c => c.setF v) s) := .of_masked rfl rfl

theorem keepsWf8_setCell8 (key : Nat) (v : Byte) (s : State) : KeepsWf8 s (setCell8 key v s) :=
  fun h => ⟨h.1, Memory.wf_write key v h.2⟩

theorem keepsWf8_setReg (k : R8) (v : Byte) (s : State) : KeepsWf8 s (on8 (fun c => c.setReg k v) s) :=
  .of_eq (setReg_f _ k v) (setReg_mem _ k v)

theorem keepsWf8_setPair (p : RP) (f : Cpu8 → Half) (s : State) : KeepsWf8 s (on8 (fun c => c.setPair p (f c)) s) :=
  .of_eq (setPair_f _ p _) (setPair_mem _ p _)

/-- The timer leaves F and memory alone (R820). -/
theorem keepsWf8_of_timerOnly {s : State} {f : Cpu8 → Cpu8} (h : TimerOnly8 s.cpu8 (f s.cpu8)) :
    KeepsWf8 s (on8 f s) := by
  refine .of_eq ?_ ?_
  · rw [on8_cpu8, h]
  · rw [on8_cpu8, h]

/-! The bus. -/

theorem keepsWf8_read8 (a : Half) (s : State) : KeepsWf8 s (read8 a s).2 := keepsWf8_of_cpu8 (read8_cpu8 a s)

theorem keepsWf8_readOperand8 (k : R8) (s : State) : KeepsWf8 s (readOperand8 k s).2 :=
  keepsWf8_of_cpu8 (readOperand8_cpu8 k s)

theorem keepsWf8_fetchByte (s : State) : KeepsWf8 s (fetchByte s).2 :=
  (keepsWf8_read8 _ s).trans (.of_eq rfl rfl)

theorem keepsWf8_pop16 (s : State) : KeepsWf8 s (pop16 s).2 :=
  .of_eq (by simp [pop16]) (by simp [pop16])

theorem keepsWf8_popPc (s : State) : KeepsWf8 s (popPc s) := (keepsWf8_pop16 s).trans (.of_eq rfl rfl)

/-- One byte of a DMA copy: a read, then a store into core memory. -/
theorem keepsWf8_copyByte (a : Half) (s : State) (key : Nat) :
    KeepsWf8 s (setCell8 key (read8 a s).1 (read8 a s).2) :=
  (keepsWf8_read8 a s).trans (keepsWf8_setCell8 _ _ _)

theorem keepsWf8_oamCopy (page : Byte) (n : Nat) (s : State) : KeepsWf8 s (oamCopy page n s) := by
  induction n with
  | zero => exact id
  | succ n ih => exact ih.trans (keepsWf8_copyByte _ _ _)

theorem keepsWf8_hdmaCopy (src dst : Half) (n : Nat) (s : State) : KeepsWf8 s (hdmaCopy src dst n s) := by
  induction n with
  | zero => exact id
  | succ n ih => exact ih.trans (keepsWf8_copyByte _ _ _)

theorem writeHdma5_wf8 (v : Byte) (s : State) : Answers KeepsWf8 s (writeHdma5 v s) := by
  unfold writeHdma5
  split
  · exact .refused
  · exact .next (keepsWf8_hdmaCopy _ _ _ s)

theorem writeIo8_wf8 (r : Io8) (a : Half) (v : Byte) (s : State) : Answers KeepsWf8 s (writeIo8 r a v s) := by
  cases r with
  | div => exact .next (KeepsWf8.trans (t := on8 (fun c => { c with div16 := 0 }) s) (.of_eq rfl rfl)
      (keepsWf8_of_timerOnly (updateTimerIn_timerOnly _)))
  | tac => exact .next (KeepsWf8.trans (t := on8 (fun c => { c with tac := v.setWidth 3 }) s) (.of_eq rfl rfl)
      (keepsWf8_of_timerOnly (updateTimerIn_timerOnly _)))
  | dma => exact .next (keepsWf8_oamCopy v 160 (on8 (fun c => { c with oamDma := v }) s))
  | hdma5 => exact writeHdma5_wf8 v s
  | _ => exact .next (.of_eq rfl rfl)

theorem write8_wf8 (a : Half) (v : Byte) (s : State) : Answers KeepsWf8 s (write8 a v s) := by
  unfold write8
  split
  · exact .next (.of_eq rfl rfl)
  · exact .next (keepsWf8_setCell8 _ v s)
  · exact .next id
  · exact writeIo8_wf8 _ a v s
  · exact .next (.of_eq rfl rfl)

theorem writeOperand8_wf8 (k : R8) (v : Byte) (s : State) : Answers KeepsWf8 s (writeOperand8 k v s) := by
  unfold writeOperand8
  split
  · exact write8_wf8 _ v s
  · exact .next (keepsWf8_setReg k v s)

/-- An operand is read, an operand is written, and the instruction goes on. -/
theorem readThenWrite_wf8 (src dst : R8) (v : Byte) (s : State) {k : State → Res} (hk : ∀ t, Answers KeepsWf8 t (k t)) :
    Answers KeepsWf8 s (thenRes (writeOperand8 dst v (readOperand8 src s).2) k) :=
  thenRes_wf8 ((keepsWf8_readOperand8 src s).andThen (writeOperand8_wf8 dst v _)) hk

theorem keepsWf8_moveSp (f : Cpu8 → Half) (s : State) : KeepsWf8 s (on8 (fun c => { c with sp := f c }) s) :=
  .of_eq rfl rfl

theorem push16_wf8 (v : Half) (s : State) : Answers KeepsWf8 s (push16 v s) :=
  thenRes_wf8 ((keepsWf8_moveSp _ s).andThen (write8_wf8 _ _ _)) fun t =>
    (keepsWf8_moveSp _ t).andThen (write8_wf8 _ _ _)

/-! The meanings. -/

theorem finish8_wf8 {s t : State} (clocks : Nat) (h : KeepsWf8 s t) : Answers KeepsWf8 s (finish8 clocks t) := .next h

/-- An instruction that ends with flags. -/
theorem finish8_wf8_setF {s t : State} (clocks : Nat) (v : Byte) (h : KeepsWf8 s t) :
    Answers KeepsWf8 s (finish8 clocks (on8 (fun c => c.setF v) t)) := .next (h.trans (keepsWf8_setF v t))

theorem load8_wf8 (dst src : R8) (s : State) : Answers KeepsWf8 s (load8 dst src s) :=
  readThenWrite_wf8 src dst _ s fun _ => finish8_wf8 _ id

theorem loadImm_wf8 (dst : R8) (n : Byte) (s : State) : Answers KeepsWf8 s (loadImm dst n s) :=
  thenRes_wf8 (writeOperand8_wf8 dst n s) fun _ => finish8_wf8 _ id

theorem loadPairImm_wf8 (p : RP) (nn : Half) (s : State) : Answers KeepsWf8 s (loadPairImm p nn s) :=
  finish8_wf8 12 (keepsWf8_setPair p _ s)

theorem loadAAt_wf8 (p : RP) (delta : Half) (s : State) : Answers KeepsWf8 s (loadAAt p delta s) := by
  refine finish8_wf8 8 ((keepsWf8_read8 (s.cpu8.pairOf p) s).trans (.of_eq ?_ ?_))
  · exact setPair_f _ p _
  · exact setPair_mem _ p _

theorem storeAAt_wf8 (p : RP) (delta : Half) (s : State) : Answers KeepsWf8 s (storeAAt p delta s) :=
  thenRes_wf8 (write8_wf8 _ _ s) fun t => finish8_wf8 8 (keepsWf8_setPair p _ t)

theorem loadAFrom_wf8 (a : Half) (clocks : Nat) (s : State) : Answers KeepsWf8 s (loadAFrom a clocks s) :=
  finish8_wf8 clocks ((keepsWf8_read8 a s).trans (.of_eq rfl rfl))

theorem storeATo_wf8 (a : Half) (clocks : Nat) (s : State) : Answers KeepsWf8 s (storeATo a clocks s) :=
  thenRes_wf8 (write8_wf8 a _ s) fun _ => finish8_wf8 _ id

theorem storeSp_wf8 (nn : Half) (s : State) : Answers KeepsWf8 s (storeSp nn s) :=
  thenRes_wf8 (write8_wf8 nn _ s) fun t =>
    thenRes_wf8 (write8_wf8 _ _ t) fun _ => finish8_wf8 _ id

theorem loadHlSp_wf8 (e : Byte) (s : State) : Answers KeepsWf8 s (loadHlSp e s) := finish8_wf8 12 (.of_masked rfl rfl)

theorem pushPair_wf8 (q : QQ) (s : State) : Answers KeepsWf8 s (pushPair q s) :=
  thenRes_wf8 (push16_wf8 _ s) fun _ => finish8_wf8 _ id

/-- POP AF masks F (R326). -/
theorem keepsWf8_setStackPair (q : QQ) (v : Half) (s : State) : KeepsWf8 s (on8 (fun c => c.setStackPair q v) s) := by
  cases q with
  | af => exact .of_masked rfl rfl
  | _ => exact .of_eq rfl rfl

theorem popPair_wf8 (q : QQ) (s : State) : Answers KeepsWf8 s (popPair q s) :=
  finish8_wf8 12 ((keepsWf8_pop16 s).trans (keepsWf8_setStackPair q _ _))

theorem keepsWf8_setAlu (op : Alu8) (b : Byte) (s : State) :
    KeepsWf8 s (on8 (fun c => c.setAlu op (aluResult8 op c.a b c.f)) s) := by
  cases op with
  | _ => exact .of_masked rfl rfl

theorem alu8_wf8 (op : Alu8) (k : R8) (s : State) : Answers KeepsWf8 s (alu8 op k s) :=
  finish8_wf8 _ ((keepsWf8_readOperand8 k s).trans (keepsWf8_setAlu op _ _))

theorem alu8Imm_wf8 (op : Alu8) (n : Byte) (s : State) : Answers KeepsWf8 s (alu8Imm op n s) :=
  finish8_wf8 8 (keepsWf8_setAlu op n s)

theorem inc8_wf8 (k : R8) (s : State) : Answers KeepsWf8 s (inc8 k s) :=
  readThenWrite_wf8 k k _ s fun _ => finish8_wf8_setF _ _ id

theorem dec8_wf8 (k : R8) (s : State) : Answers KeepsWf8 s (dec8 k s) :=
  readThenWrite_wf8 k k _ s fun _ => finish8_wf8_setF _ _ id

theorem addHl_wf8 (p : RP) (s : State) : Answers KeepsWf8 s (addHl p s) := finish8_wf8 8 (.of_masked rfl rfl)

theorem addSp_wf8 (e : Byte) (s : State) : Answers KeepsWf8 s (addSp e s) := finish8_wf8 16 (.of_masked rfl rfl)

theorem cbRotate_wf8 (op : Rot8) (k : R8) (s : State) : Answers KeepsWf8 s (cbRotate op k s) :=
  readThenWrite_wf8 k k _ s fun _ => finish8_wf8_setF _ _ id

theorem cbBit_wf8 (b : BitVec 3) (k : R8) (s : State) : Answers KeepsWf8 s (cbBit b k s) :=
  finish8_wf8 _ ((keepsWf8_readOperand8 k s).trans (.of_masked rfl rfl))

theorem cbRes_wf8 (b : BitVec 3) (k : R8) (s : State) : Answers KeepsWf8 s (cbRes b k s) :=
  readThenWrite_wf8 k k _ s fun _ => finish8_wf8 _ id

theorem cbSet_wf8 (b : BitVec 3) (k : R8) (s : State) : Answers KeepsWf8 s (cbSet b k s) :=
  readThenWrite_wf8 k k _ s fun _ => finish8_wf8 _ id

theorem cbOperation_wf8 (op2 : Byte) (s : State) : Answers KeepsWf8 s (cbOperation op2 s) := by
  unfold cbOperation
  split
  · exact cbRotate_wf8 _ _ s
  · exact cbBit_wf8 _ _ s
  · exact cbRes_wf8 _ _ s
  · exact cbSet_wf8 _ _ s

theorem callTo_wf8 (a : Half) (clocks : Nat) (s : State) : Answers KeepsWf8 s (callTo a clocks s) :=
  thenRes_wf8 (push16_wf8 _ s) fun _ => finish8_wf8 _ (.of_eq rfl rfl)

theorem jumpRelIf_wf8 (cc : Cc) (e : Byte) (s : State) : Answers KeepsWf8 s (jumpRelIf cc e s) := by
  unfold jumpRelIf
  split <;> exact finish8_wf8 _ (.of_eq rfl rfl)

theorem jumpIf_wf8 (cc : Cc) (nn : Half) (s : State) : Answers KeepsWf8 s (jumpIf cc nn s) := by
  unfold jumpIf
  split <;> exact finish8_wf8 _ (.of_eq rfl rfl)

theorem callIf_wf8 (cc : Cc) (nn : Half) (s : State) : Answers KeepsWf8 s (callIf cc nn s) := by
  unfold callIf
  split
  · exact callTo_wf8 nn 24 s
  · exact finish8_wf8 _ id

theorem returnIf_wf8 (cc : Cc) (s : State) : Answers KeepsWf8 s (returnIf cc s) := by
  unfold returnIf
  split
  · exact finish8_wf8 _ (keepsWf8_popPc s)
  · exact finish8_wf8 _ id

theorem returnInterrupt_wf8 (s : State) : Answers KeepsWf8 s (returnInterrupt s) :=
  finish8_wf8 16 ((keepsWf8_popPc s).trans (.of_eq rfl rfl))

theorem halt8_wf8 (s : State) : Answers KeepsWf8 s (halt8 s) := finish8_wf8 4 (.of_eq rfl rfl)

theorem stop8_wf8 (s : State) : Answers KeepsWf8 s (stop8 s) := by
  unfold stop8
  dsimp only
  refine finish8_wf8 4 (.of_eq ?_ ?_)
  · rw [on8_cpu8]
    split
    · rfl
    · split <;> rfl
  · rw [on8_cpu8]
    split
    · rfl
    · split <;> rfl

theorem ei8_wf8 (s : State) : Answers KeepsWf8 s (ei8 s) := by
  unfold ei8
  dsimp only
  cases s.params.eiDelay
  · exact finish8_wf8 4 (.of_eq rfl rfl)
  · exact finish8_wf8 4 (.of_eq rfl rfl)

/-! The instructions the decoder answers, by the rows of its maps (R204, R205). -/

theorem exec_ldInstr_wf8 (dst src : R8) (s : State) : Answers KeepsWf8 s (exec (ldInstr dst src) s) := by
  by_cases h : dst = .hlm ∧ src = .hlm
  · obtain ⟨rfl, rfl⟩ := h
    exact halt8_wf8 s
  · rw [exec_ldInstr s (not_and_or.mp h)]
    exact load8_wf8 dst src s

theorem exec_rotateAInstr_wf8 (y : Nat) (s : State) : Answers KeepsWf8 s (exec (rotateAInstr y) s) := by
  unfold rotateAInstr
  split <;> exact finish8_wf8 4 (.of_masked rfl rfl)

theorem exec_decodeBlock0_wf8 (y z : Nat) (n : Byte) (nn : Half) (s : State) :
    Answers KeepsWf8 s (exec (decodeBlock0 y z n nn) s) := by
  unfold decodeBlock0
  split
  · exact finish8_wf8 4 id
  · exact storeSp_wf8 nn s
  · exact stop8_wf8 s
  · exact finish8_wf8 12 (.of_eq rfl rfl)
  · rw [exec_jrInstr]; exact jumpRelIf_wf8 _ n s
  · split
    · rw [exec_ldPairInstr]; exact loadPairImm_wf8 _ nn s
    · rw [exec_addHlInstr]; exact addHl_wf8 _ s
  · exact storeAAt_wf8 .bc 0 s
  · exact loadAAt_wf8 .bc 0 s
  · exact storeAAt_wf8 .de 0 s
  · exact loadAAt_wf8 .de 0 s
  · exact storeAAt_wf8 .hl 1 s
  · exact loadAAt_wf8 .hl 1 s
  · exact storeAAt_wf8 .hl (-1) s
  · exact loadAAt_wf8 .hl (-1) s
  · split
    · rw [exec_incPairInstr]; exact finish8_wf8 8 (keepsWf8_setPair _ _ s)
    · rw [exec_decPairInstr]; exact finish8_wf8 8 (keepsWf8_setPair _ _ s)
  · rw [exec_incInstr]; exact inc8_wf8 _ s
  · rw [exec_decInstr]; exact dec8_wf8 _ s
  · rw [exec_ldImmInstr]; exact loadImm_wf8 _ n s
  · exact exec_rotateAInstr_wf8 y s

theorem exec_decodeBlock3_wf8 (y z : Nat) (n : Byte) (nn : Half) (s : State) :
    Answers KeepsWf8 s (exec (decodeBlock3 y z n nn) s) := by
  unfold decodeBlock3
  split
  · exact storeATo_wf8 (highPage n) 12 s
  · exact addSp_wf8 n s
  · exact loadAFrom_wf8 (highPage n) 12 s
  · exact loadHlSp_wf8 n s
  · rw [exec_retInstr]; exact returnIf_wf8 _ s
  · exact finish8_wf8 16 (keepsWf8_popPc s)
  · exact returnInterrupt_wf8 s
  · exact finish8_wf8 4 (.of_eq rfl rfl)
  · exact finish8_wf8 8 (.of_eq rfl rfl)
  · rw [exec_popInstr]; exact popPair_wf8 _ s
  · exact storeATo_wf8 (highPage s.cpu8.c) 8 s
  · exact storeATo_wf8 nn 16 s
  · exact loadAFrom_wf8 (highPage s.cpu8.c) 8 s
  · exact loadAFrom_wf8 nn 16 s
  · rw [exec_jpInstr]; exact jumpIf_wf8 _ nn s
  · exact finish8_wf8 16 (.of_eq rfl rfl)
  · exact cbOperation_wf8 n s
  · exact .fault
  · exact .fault
  · exact .fault
  · exact .fault
  · exact finish8_wf8 4 (.of_eq rfl rfl)
  · exact ei8_wf8 s
  · exact .fault
  · exact .fault
  · exact .fault
  · exact .fault
  · rw [exec_callInstr]; exact callIf_wf8 _ nn s
  · exact callTo_wf8 nn 24 s
  · exact .fault
  · exact .fault
  · exact .fault
  · rw [exec_pushInstr]; exact pushPair_wf8 _ s
  · rw [exec_aluImmInstr]; exact alu8Imm_wf8 _ n s
  · rw [exec_rstInstr]; exact callTo_wf8 _ 16 s

theorem exec_decodePrimary_wf8 (op : Nat) (n : Byte) (nn : Half) (s : State) :
    Answers KeepsWf8 s (exec (decodePrimary op n nn) s) := by
  unfold decodePrimary
  split
  · exact exec_decodeBlock0_wf8 _ _ n nn s
  · exact exec_ldInstr_wf8 _ _ s
  · rw [exec_aluInstr]; exact alu8_wf8 _ _ s
  · exact exec_decodeBlock3_wf8 _ _ n nn s

theorem exec_decodeCb_wf8 (op : Nat) (s : State) : Answers KeepsWf8 s (exec (decodeCb op) s) := by
  unfold decodeCb
  split
  · rw [exec_rotInstr]; exact cbRotate_wf8 _ _ s
  · rw [exec_bitInstr]; exact cbBit_wf8 _ _ s
  · rw [exec_resInstr]; exact cbRes_wf8 _ _ s
  · rw [exec_setInstr]; exact cbSet_wf8 _ _ s

/-! The step. -/

theorem keepsWf8_fetch8 (s : State) : KeepsWf8 s (fetch8 s).2 := by
  have hone := keepsWf8_fetchByte s
  have htwo := hone.trans (keepsWf8_fetchByte _)
  unfold fetch8
  dsimp only
  split
  · exact htwo
  · exact htwo.trans (keepsWf8_fetchByte _)
  · exact hone

theorem exec_fetch8_wf8 (s t : State) : Answers KeepsWf8 t (exec (fetch8 s).1 t) := by
  unfold fetch8
  dsimp only
  split
  · split
    · exact exec_decodeCb_wf8 _ t
    · exact exec_decodePrimary_wf8 _ _ _ t
  · exact exec_decodePrimary_wf8 _ _ _ t
  · exact exec_decodePrimary_wf8 _ _ _ t

theorem finishStep8_wf8 (s : State) : Answers KeepsWf8 s (finishStep8 s) :=
  .next (keepsWf8_of_timerOnly (advance_timerOnly _ _))

theorem keepsWf8_completeEi (pend : Bool) (s : State) : KeepsWf8 s (completeEi pend s) := by
  unfold completeEi
  split
  · exact .of_eq rfl rfl
  · exact id

theorem runInstruction8_wf8 (s : State) : Answers KeepsWf8 s (runInstruction8 s) :=
  thenRes_wf8 ((keepsWf8_fetch8 s).andThen (exec_fetch8_wf8 s _)) fun t =>
    (keepsWf8_completeEi _ t).andThen (finishStep8_wf8 _)

theorem keepsWf8_acknowledge (k : Nat) (s : State) : KeepsWf8 s (on8 (fun c => c.acknowledge k) s) := .of_eq rfl rfl

theorem dispatch8_wf8 (s : State) : Answers KeepsWf8 s (dispatch8 s) :=
  thenRes_wf8 ((keepsWf8_acknowledge _ s).andThen (push16_wf8 _ _)) fun _ => .next (.of_eq rfl rfl)

theorem boundary8_wf8 (s : State) : Answers KeepsWf8 s (boundary8 s) := by
  unfold boundary8
  split
  · exact thenRes_wf8 (dispatch8_wf8 s) finishStep8_wf8
  · exact runInstruction8_wf8 s

/-- A CPU-8 step keeps the shape of the CPU-8 half (R32, R810). -/
theorem step8_wf8 (s : State) : Answers KeepsWf8 s (step8 s) := by
  refine KeepsWf8.andThen (u := beginStep s) id ?_
  unfold step8
  dsimp only
  generalize beginStep s = u
  split
  · exact .next id
  split
  · split
    · exact KeepsWf8.andThen (u := charge 4 u) id (finishStep8_wf8 _)
    · exact KeepsWf8.andThen (u := on8 (fun c => { c with halted := false }) u) (.of_eq rfl rfl) (boundary8_wf8 _)
  · exact boundary8_wf8 u

end Sys2Proof.Proofs
end

section
/-! PROOFS. The EEPROM buffers stay within their bounds (R156): what reads and writes of the bus do to them. -/

namespace Sys2Proof.Proofs

open Sys2Proof.Machine

/-! Reads take bits from the output buffer and touch no other. -/

theorem ioRead16_cpu32 (r : Io32) (s : State) : (ioRead16 r s).2.cpu32 = s.cpu32 := by cases r <;> rfl

theorem ioRead_cpu32 (w : Width) (a : Word) (s : State) : (ioRead w a s).2.cpu32 = s.cpu32 := by
  cases w with
  | byte => exact ioRead16_cpu32 _ s
  | half => exact ioRead16_cpu32 _ s
  | word => exact (ioRead16_cpu32 _ _).trans (ioRead16_cpu32 _ s)

theorem drawWidth_cpu32 (w : Width) (s : State) : (drawWidth w s).2.cpu32 = s.cpu32 := by cases w <;> rfl

theorem openBus_cpu32 (w : Width) (a : Word) (s : State) : (openBus w a s).2.cpu32 = s.cpu32 := by
  unfold openBus
  split
  · exact drawWidth_cpu32 w s
  · rfl

theorem eepromRead_eout_length (s : State) :
    (eepromRead s).2.cpu32.save.eout.length ≤ s.cpu32.save.eout.length := by
  unfold eepromRead
  split
  · exact Nat.le_refl _
  · rename_i b rest h
    rw [h]
    exact Nat.le_succ _

theorem romRead_eout_length (w : Width) (a : Word) (s : State) :
    (romRead w a s).2.cpu32.save.eout.length ≤ s.cpu32.save.eout.length := by
  unfold romRead
  split
  · cases w with
    | half => exact eepromRead_eout_length s
    | byte => exact Nat.le_of_eq (by rw [drawWidth_cpu32])
    | word => exact Nat.le_of_eq (by rw [drawWidth_cpu32])
  · dsimp only
    split
    · exact Nat.le_refl _
    · exact Nat.le_of_eq (by rw [openBus_cpu32])

/-- A read takes at most one bit from the EEPROM's output (R156). -/
theorem memRead_eout_length (w : Width) (a : Word) (s : State) :
    (memRead w a s).2.cpu32.save.eout.length ≤ s.cpu32.save.eout.length := by
  unfold memRead
  split
  case h_4 => exact Nat.le_of_eq (by rw [ioRead_cpu32])
  case h_8 => exact romRead_eout_length w a s
  case h_9 =>
    split
    · exact Nat.le_refl _
    · exact Nat.le_of_eq (by rw [drawWidth_cpu32])
  case h_10 => exact Nat.le_of_eq (by rw [openBus_cpu32])
  all_goals exact Nat.le_refl _

theorem memRead_bounded (w : Width) (a : Word) (s : State) (h : s.cpu32.save.buffersBounded) :
    (memRead w a s).2.cpu32.save.buffersBounded := by
  have hlen := memRead_eout_length w a s
  obtain ⟨d, e, ht⟩ := memRead_readsTo w a s
  rw [ht] at hlen ⊢
  exact ⟨h.1, hlen.trans h.2⟩

/-! Writes. -/

/-- The bounds of the EEPROM's buffers are kept from one state to the other. -/
def KeepsBounds (s t : State) : Prop := s.cpu32.save.buffersBounded → t.cpu32.save.buffersBounded

theorem KeepsBounds.trans {s t u : State} (h : KeepsBounds s t) (h' : KeepsBounds t u) : KeepsBounds s u :=
  fun w => h' (h w)

/-- A change of the save machine outside its buffers. -/
theorem keepsBounds_onSave {f : Save → Save} (s : State) (hin : (f s.cpu32.save).ein = s.cpu32.save.ein)
    (hout : (f s.cpu32.save).eout = s.cpu32.save.eout) : KeepsBounds s (onSave f s) := by
  intro h
  rw [Save.buffersBounded, onSave, on32_cpu32, hin, hout]
  exact h

theorem keepsBounds_eraseSave (offset n : Nat) (s : State) : KeepsBounds s (eraseSave offset n s) := id

theorem flashCommand_bounds (b : Nat) (s : State) : KeepsBounds s (flashCommand b s) := by
  unfold flashCommand
  dsimp only
  split
  case h_4 =>
    split
    · generalize (if s.cpu32.save.kind = .flash128 then 0x20000 else 0x10000) = n
      exact ((keepsBounds_eraseSave 0 n s).trans (keepsBounds_onSave _ rfl rfl)).trans (keepsBounds_onSave _ rfl rfl)
    · exact id
  all_goals exact id

theorem flashWrite_bounds (o : Nat) (b : Byte) (s : State) : KeepsBounds s (flashWrite o b s) := by
  unfold flashWrite
  dsimp only
  split
  · exact id
  split
  · exact id
  split
  · exact id
  split
  · exact id
  split
  · exact flashCommand_bounds _ s
  split
  · generalize 0x1000 = n
    exact (keepsBounds_eraseSave _ n s).trans (keepsBounds_onSave _ rfl rfl)
  split
  · exact id
  · exact id

theorem saveWrite_bounds (bw : Bool) (a : Nat) (b : Byte) (s : State) : KeepsBounds s (saveWrite bw a b s) := by
  unfold saveWrite
  have hdetect : KeepsBounds s (if s.cpu32.save.kind = .unknown then
      onSave (fun v => { v with kind := detectSave bw a b }) s else s) := by
    split
    · exact keepsBounds_onSave s rfl rfl
    · exact id
  refine hdetect.trans ?_
  generalize (if s.cpu32.save.kind = .unknown then
    onSave (fun v => { v with kind := detectSave bw a b }) s else s) = u
  dsimp only
  split
  · exact id
  · exact flashWrite_bounds _ b u
  · exact flashWrite_bounds _ b u
  · exact id
  · exact id
  · exact id

theorem length_blockBits (s : State) (block n : Nat) : (blockBits s block n).length = 8 * n := by
  induction n with
  | zero => rfl
  | succ n ih =>
    rw [blockBits, List.length_append, ih]
    simp only [byteBits, List.length_cons, List.length_nil]
    omega

theorem length_drawnBits (w : BitVec 64) (n : Nat) : (drawnBits w n).length = n := by
  induction n with
  | zero => rfl
  | succ n ih => rw [drawnBits, List.length_cons, ih]

/-- An answer is four bits and a block's 64 (R156). -/
theorem eepromAnswer_bounds (block : Nat) (s : State) : KeepsBounds s (eepromAnswer block s) := by
  have hanswer : ∀ bs : List Bool, bs.length = 64 → ([false, false, false, false] ++ bs).length ≤ 0x84 := by
    intro bs h
    rw [List.length_append, h]
    decide
  unfold eepromAnswer
  dsimp only
  split
  · exact fun _ => ⟨Nat.zero_le _, hanswer _ (length_blockBits s block 8)⟩
  · exact fun _ => ⟨Nat.zero_le _, hanswer _ (length_drawnBits _ 64)⟩

theorem eepromCommand_bounds (s : State) : KeepsBounds s (eepromCommand s) := by
  unfold eepromCommand
  dsimp only
  split
  · split
    · exact eepromAnswer_bounds _ s
    · exact id
  · split
    · exact fun _ => ⟨Nat.zero_le _, Nat.zero_le _⟩
    · exact id
  · exact id

theorem eepromWrite_bounds (b : Bool) (s : State) : KeepsBounds s (eepromWrite b s) := by
  unfold eepromWrite
  dsimp only
  split
  · rename_i hroom
    refine KeepsBounds.trans (t := onSave (fun v => { v with ein := v.ein ++ [b] }) s) ?_ (eepromCommand_bounds _)
    rintro ⟨-, hout⟩
    refine ⟨?_, hout⟩
    rw [onSave, on32_cpu32, List.length_append]
    exact hroom
  · exact id

theorem romWrite_bounds (m : Master) (w : Width) (a v : Word) (s : State) : KeepsBounds s (romWrite m w a v s) := by
  unfold romWrite
  split
  · split
    · exact eepromWrite_bounds _ s
    · exact id
  · split
    · exact (keepsBounds_onSave s rfl rfl).trans (eepromWrite_bounds _ _)
    · exact id

end Sys2Proof.Proofs
end

section
/-! PROOFS. What a CPU-32 meaning keeps: the shape of the CPU-32 half (R53, R56, R156), and in user mode the mode, the
interrupt disable bits, the SPSRs and the other modes' banks (R750). One relation holds both, since each meaning is walked
through once. -/

namespace Sys2Proof.Proofs

open Sys2Proof.Machine

/-- The registers and status words of the CPU-32 half. -/
def coreRegs (c : Cpu32) : Word × Psr × Vector Word 30 × (Word × Word × Word × Word × Word) :=
  (c.pc, c.cpsr, c.slots, c.spsrFiq, c.spsrIrq, c.spsrSvc, c.spsrAbt, c.spsrUnd)

/-- What user mode cannot change beside the banked registers (R540, R56). -/
def guarded (c : Cpu32) : Mode × Bool × Bool × (Word × Word × Word × Word × Word) :=
  (c.cpsr.mode, c.cpsr.i, c.cpsr.f, c.spsrFiq, c.spsrIrq, c.spsrSvc, c.spsrAbt, c.spsrUnd)

/-- The slots that no register of user mode names (R50): R8 to R12 of FIQ, and R13 and R14 of the exception modes. -/
def SameBanks (c d : Cpu32) : Prop := ∀ k : Fin 30, 15 ≤ k.val → d.slots[k] = c.slots[k]

/-- The shape is kept, and user mode keeps what it cannot reach. -/
structure Confines (s t : State) : Prop where
  aligned : s.cpu32.pcAligned → t.cpu32.pcAligned
  masked : s.cpu32.spsrsMasked → t.cpu32.spsrsMasked
  bounded : KeepsBounds s t
  canonical : Memory.wf s.cpu32.mem = true → Memory.wf t.cpu32.mem = true
  user : s.cpu32.cpsr.mode = .usr → guarded t.cpu32 = guarded s.cpu32 ∧ SameBanks s.cpu32 t.cpu32

theorem Confines.rfl {s : State} : Confines s s := ⟨id, id, id, id, fun _ => ⟨Eq.refl _, fun _ _ => Eq.refl _⟩⟩

theorem Confines.trans {s t u : State} (h : Confines s t) (h' : Confines t u) : Confines s u := by
  refine ⟨fun a => h'.aligned (h.aligned a), fun m => h'.masked (h.masked m), h.bounded.trans h'.bounded,
    fun w => h'.canonical (h.canonical w), fun hu => ?_⟩
  obtain ⟨hg, hb⟩ := h.user hu
  obtain ⟨hg', hb'⟩ := h'.user ((congrArg Prod.fst hg).trans hu)
  exact ⟨hg'.trans hg, fun k hk => (hb' k hk).trans (hb k hk)⟩

/-- The shape of the CPU-32 half is kept. -/
theorem Confines.wf {s t : State} (h : Confines s t) (hs : s.cpu32.wf) : t.cpu32.wf :=
  ⟨h.aligned hs.1, h.masked hs.2.1, h.bounded hs.2.2.1, h.canonical hs.2.2.2⟩

theorem thenRes_confines {s : State} {r : Res} {k : State → Res} (h : Answers Confines s r)
    (hk : ∀ t, Answers Confines t (k t)) : Answers Confines s (thenRes r k) :=
  .seq (R := Confines) (fun _ _ _ => .trans) h hk

theorem Confines.andThen {s u : State} {r : Res} (h : Confines s u) (hr : Answers Confines u r) :
    Answers Confines s r := .of_rel (R := Confines) (fun _ _ _ => .trans) h hr

/-- Where the registers and the status words stay, only the save machine and memory matter. -/
theorem Confines.of_coreRegs {s t : State} (h : coreRegs t.cpu32 = coreRegs s.cpu32) (hb : KeepsBounds s t)
    (hm : Memory.wf s.cpu32.mem = true → Memory.wf t.cpu32.mem = true) : Confines s t := by
  simp only [coreRegs, Prod.mk.injEq] at h
  obtain ⟨hpc, hpsr, hslots, hfiq, hirq, hsvc, habt, hund⟩ := h
  refine ⟨?_, ?_, hb, hm, fun _ => ⟨?_, fun k _ => ?_⟩⟩
  · rw [Cpu32.pcAligned, Cpu32.pcAligned, hpc, hpsr]
    exact id
  · rw [Cpu32.spsrsMasked, Cpu32.spsrsMasked, hfiq, hirq, hsvc, habt, hund]
    exact id
  · rw [guarded, guarded, hpsr, hfiq, hirq, hsvc, habt, hund]
  · rw [hslots]

/-- A change of the CPU-32 half outside its registers, save machine and memory. -/
theorem confines_on32 {s : State} {f : Cpu32 → Cpu32} (h : coreRegs (f s.cpu32) = coreRegs s.cpu32)
    (hs : (f s.cpu32).save = s.cpu32.save) (hm : (f s.cpu32).mem = s.cpu32.mem) : Confines s (on32 f s) := by
  refine .of_coreRegs h ?_ ?_
  · rw [KeepsBounds, on32_cpu32, hs]
    exact id
  · rw [on32_cpu32, hm]
    exact id

theorem confines_of_cpu32 {s t : State} (h : t.cpu32 = s.cpu32) : Confines s t := by
  refine .of_coreRegs (by rw [h]) ?_ ?_
  · rw [KeepsBounds, h]
    exact id
  · rw [h]
    exact id

theorem confines_charge (k : Nat) (s : State) : Confines s (charge k s) := confines_of_cpu32 rfl

theorem confines_deliver (d : Delivery) (s : State) : Confines s (deliver d s) := confines_of_cpu32 rfl

theorem confines_recordAccess (a : Word) (w : Width) (code : Bool) (s : State) :
    Confines s (recordAccess a w code s) := confines_on32 rfl rfl rfl

/-- The timers leave all of it alone (R820). -/
theorem confines_advance (k : Nat) (s : State) : Confines s (on32 (Cpu32.advance k) s) := by
  have h := advance_timersOnly k s.cpu32
  refine confines_on32 ?_ ?_ ?_
  · rw [h]; rfl
  · rw [h]
  · rw [h]

theorem confines_passCycles (k : Nat) (s : State) : Confines s (passCycles k s) :=
  (confines_charge k s).trans (confines_advance k _)

/-! Registers, status and PC. -/

/-- User mode's registers have the slots below 15 (R50). -/
theorem slotOf_usr_lt (i : RegNum) : (slotOf i .usr).val < 15 := by
  revert i
  decide

theorem sameBanks_setRegIn_usr (c : Cpu32) (i : RegNum) (v : Word) : SameBanks c (c.setRegIn .usr i v) := by
  intro k hk
  have hlt := slotOf_usr_lt i
  exact Vector.getElem_set_ne (slotOf i .usr).isLt k.isLt (by omega)

theorem confines_writeReg (i : RegNum) (v : Word) (s : State) : Confines s (writeReg i v s) := by
  refine ⟨id, id, id, id, fun hu => ⟨rfl, ?_⟩⟩
  rw [writeReg_cpu32, hu]
  exact sameBanks_setRegIn_usr s.cpu32 i v

theorem confines_writeUser (i : RegNum) (v : Word) (s : State) : Confines s (writeUser i v s) :=
  ⟨id, id, id, id, fun _ => ⟨rfl, sameBanks_setRegIn_usr s.cpu32 i v⟩⟩

/-- A write of the flags. -/
theorem confines_setPsr {f : Psr → Psr} (s : State) (ht : (f s.cpu32.cpsr).t = s.cpu32.cpsr.t)
    (hm : (f s.cpu32.cpsr).mode = s.cpu32.cpsr.mode) (hi : (f s.cpu32.cpsr).i = s.cpu32.cpsr.i)
    (hf : (f s.cpu32.cpsr).f = s.cpu32.cpsr.f) : Confines s (setPsr f s) := by
  refine ⟨?_, id, id, id, fun _ => ⟨?_, fun _ _ => rfl⟩⟩
  · rw [Cpu32.pcAligned, Cpu32.pcAligned, setPsr_cpu32]
    dsimp only
    rw [ht]
    exact id
  · rw [guarded, setPsr_cpu32]
    dsimp only
    rw [hm, hi, hf]
    rfl

theorem confines_setFlags (r : Word) (c v : Bool) (s : State) : Confines s (setPsr (fun p => p.setFlags r c v) s) :=
  confines_setPsr s rfl rfl rfl rfl

theorem and_compl_and_self (v m : Word) : v &&& ~~~m &&& m = 0#32 := by
  rw [BitVec.and_assoc, BitVec.and_comm (~~~m), BitVec.and_not_self]
  exact BitVec.and_zero

/-- An aligned value is a PC of its state (R53). -/
theorem pcAligned_alignPc (c : Cpu32) (t : Bool) (v : Word) :
    Cpu32.pcAligned { c with pc := alignPc t v, cpsr := { c.cpsr with t := t } } := by
  cases t
  · exact and_compl_and_self v 3#32
  · exact and_compl_and_self v 1#32

theorem confines_setPc (t : Bool) (v : Word) (s : State) : Confines s (setPc t v s) :=
  ⟨fun _ => pcAligned_alignPc s.cpu32 t v, id, id, id, fun _ => ⟨rfl, fun _ _ => rfl⟩⟩

theorem and_three_eq_zero_iff (v : Word) : v &&& 3#32 = 0#32 ↔ v.toNat % 4 = 0 := by
  rw [← BitVec.toNat_inj, BitVec.toNat_and]
  exact Eq.congr_left (Nat.and_two_pow_sub_one_eq_mod _ 2)

theorem and_three_add_four {v : Word} (h : v &&& 3#32 = 0#32) : (v + 4#32) &&& 3#32 = 0#32 := by
  rw [and_three_eq_zero_iff] at h ⊢
  rw [BitVec.toNat_add]
  simp only [BitVec.toNat_ofNat]
  omega

theorem confines_advancePc (s : State) : Confines s (advancePc s) := by
  refine ⟨fun h => ?_, id, id, id, fun _ => ⟨rfl, fun _ _ => rfl⟩⟩
  unfold Cpu32.pcAligned at h ⊢
  simp only [advancePc_cpu32, Cpu32.codeBytes]
  by_cases ht : s.cpu32.cpsr.t = true
  · simp only [if_pos ht] at h ⊢
    exact even_add h rfl
  · simp only [if_neg ht] at h ⊢
    exact and_three_add_four h

/-- An SPSR is stored without its reserved bits (R56). -/
theorem spsrsMasked_setSpsr (c : Cpu32) (m : Mode) (v : Word) (h : c.spsrsMasked) : (c.setSpsr m v).spsrsMasked := by
  obtain ⟨hfiq, hirq, hsvc, habt, hund⟩ := h
  have hv : v &&& psrMask &&& ~~~psrMask = 0#32 := by
    rw [BitVec.and_assoc, BitVec.and_not_self]
    exact BitVec.and_zero
  cases m with
  | fiq => exact ⟨hv, hirq, hsvc, habt, hund⟩
  | irq => exact ⟨hfiq, hv, hsvc, habt, hund⟩
  | svc => exact ⟨hfiq, hirq, hv, habt, hund⟩
  | abt => exact ⟨hfiq, hirq, hsvc, hv, hund⟩
  | und => exact ⟨hfiq, hirq, hsvc, habt, hv⟩
  | usr => exact ⟨hfiq, hirq, hsvc, habt, hund⟩
  | sys => exact ⟨hfiq, hirq, hsvc, habt, hund⟩

end Sys2Proof.Proofs
end

section
/-! PROOFS. The bus and the ways an instruction ends keep the shape and confine user mode. -/

namespace Sys2Proof.Proofs

open Sys2Proof.Machine

/-! The bus. -/

theorem confines_memRead (w : Width) (a : Word) (s : State) : Confines s (memRead w a s).2 := by
  have hb := memRead_bounded w a s
  obtain ⟨d, e, ht⟩ := memRead_readsTo w a s
  rw [ht] at hb ⊢
  exact .of_coreRegs rfl hb id

theorem confines_loadData (seq : Bool) (w : Width) (a : Word) (s : State) : Confines s (loadData seq w a s).2 :=
  ((confines_charge _ s).trans (confines_recordAccess a w false _)).trans (confines_memRead w a _)

theorem confines_loadValue (k : LoadKind) (a : Word) (s : State) : Confines s (loadValue k a s).2 := by
  unfold loadValue
  split
  case h_5 => split <;> exact confines_loadData _ _ a s
  all_goals exact confines_loadData _ _ a s

theorem confines_of_writesTo {s t : State} (h : WritesTo s t) (hb : KeepsBounds s t) : Confines s t :=
  .of_coreRegs (by rw [h.1]; rfl) hb h.2

theorem writeDmaControl_confines (n : Fin 4) (v : Half) (s : State) :
    Answers Confines s (writeDmaControl n v s) := by
  unfold writeDmaControl
  dsimp only
  split
  · exact .next (confines_on32 rfl rfl rfl)
  split
  · exact .next (confines_on32 rfl rfl rfl)
  split
  · exact .refused
  · exact .next (confines_on32 rfl rfl rfl)

theorem writePostHalt_confines (v mask : Half) (s : State) : Answers Confines s (writePostHalt v mask s) := by
  have hpost : Confines s (if mask.getLsbD 0 then on32 (fun c => { c with postflg := v.getLsbD 0 }) s else s) := by
    split
    · exact confines_on32 rfl rfl rfl
    · exact .rfl
  unfold writePostHalt
  dsimp only
  split
  · split
    · exact .refused
    · exact .next (hpost.trans (confines_on32 rfl rfl rfl))
  · exact .next hpost

theorem confines_writeTimerControl (n : Fin 4) (v : Half) (s : State) :
    Confines s (on32 (fun c => c.writeTimerControl n v) s) := by
  have h : TimersOnly s.cpu32 (s.cpu32.writeTimerControl n v) := by
    unfold Cpu32.writeTimerControl
    dsimp only
    split <;> exact setTimer_timersOnly _ _ _
  refine confines_on32 ?_ ?_ ?_
  · rw [h]; rfl
  · rw [h]
  · rw [h]

theorem ioWrite16_confines (r : Io32) (o : Nat) (v mask : Half) (s : State) :
    Answers Confines s (ioWrite16 r o v mask s) := by
  cases r with
  | dmaControl n => exact writeDmaControl_confines n v s
  | postHalt => exact writePostHalt_confines v mask s
  | timerControl n => exact .next (confines_writeTimerControl n v s)
  | keyinput => exact .next .rfl
  | imeHigh => exact .next .rfl
  | forwarded => exact .next (confines_deliver _ s)
  | _ => exact .next (confines_on32 rfl rfl rfl)

theorem stored16_cpu32 (r : Io32) (s : State) : (stored16 r s).2.cpu32 = s.cpu32 := by cases r <;> rfl

theorem ioWrite_confines (w : Width) (a v : Word) (s : State) : Answers Confines s (ioWrite w a v s) := by
  cases w with
  | byte => exact (confines_of_cpu32 (stored16_cpu32 _ s)).andThen (ioWrite16_confines _ _ _ _ _)
  | half => exact ioWrite16_confines _ _ _ _ s
  | word => exact thenRes_confines (ioWrite16_confines _ _ _ _ s) fun t => ioWrite16_confines _ _ _ _ t

theorem memWrite_bounds (m : Master) (w : Width) (a v : Word) (s : State) (h : region a ≠ .io) :
    Answers KeepsBounds s (memWrite m w a v s) := by
  unfold memWrite
  split
  · exact .next id
  · exact .next id
  · exact .next id
  · rename_i e
    exact absurd e h
  · exact .next (by split <;> exact id)
  · refine .next ?_
    split
    · split <;> exact id
    · exact id
  · exact .next (by split <;> exact id)
  · exact .next (romWrite_bounds m w a v s)
  · exact .next (saveWrite_bounds _ _ _ s)
  · exact .next id

theorem memWrite_confines (m : Master) (w : Width) (a v : Word) (s : State) :
    Answers Confines s (memWrite m w a v s) := by
  by_cases h : region a = .io
  · unfold memWrite
    rw [h]
    exact ioWrite_confines w a v s
  · have hb := memWrite_bounds m w a v s h
    obtain ⟨t, ht, hw⟩ := memWrite_writesTo m w a v s h
    rw [ht]
    exact .next (confines_of_writesTo hw (hb t ht))

theorem storeData_confines (seq : Bool) (w : Width) (a v : Word) (s : State) :
    Answers Confines s (storeData seq w a v s) := by
  unfold storeData
  dsimp only
  split
  · exact .fault
  · exact ((confines_charge _ s).trans (confines_recordAccess a w false _)).andThen (memWrite_confines .cpu w a v _)

/-! The endings. -/

theorem retire_confines {s t : State} (extra : Nat) (h : Confines s t) : Answers Confines s (retire extra t) :=
  .next ((h.trans (confines_advancePc t)).trans (confines_charge _ _))

theorem retireStore_confines {s t : State} (h : Confines s t) : Answers Confines s (retireStore t) :=
  .next ((h.trans (confines_advancePc t)).trans (confines_charge _ _))

theorem jumpTo_confines {s u : State} (t : Bool) (v : Word) (h : Confines s u) : Answers Confines s (jumpTo t v u) :=
  .next ((h.trans (confines_setPc t v u)).trans (confines_charge _ _))

theorem writePcValue_confines {s u : State} (v : Word) (h : Confines s u) : Answers Confines s (writePcValue v u) :=
  jumpTo_confines _ v h

/-- A return aligns PC to the state it restores (R58), and from user mode there is none (R56). -/
theorem returnTo_confines {s u : State} (v : Word) (h : Confines s u) : Answers Confines s (returnTo v u) := by
  refine h.andThen fun t ht => ?_
  obtain ⟨r, hr, ht⟩ := thenRes_eq_next.mp ht
  obtain ⟨w, p, hw, hp, rfl⟩ := restoreCpsr_eq_next.mp hr
  cases ht
  refine ⟨fun _ => pcAligned_alignPc { u.cpu32 with cpsr := p } p.t v, id, id, id, fun hu => ?_⟩
  rw [hu] at hw
  cases hw

theorem finishLoad_confines {s u : State} (rd : RegNum) (v : Word) (h : Confines s u) :
    Answers Confines s (finishLoad rd v u) := by
  unfold finishLoad
  split
  · exact writePcValue_confines v (h.trans (confines_charge 1 u))
  · exact retire_confines 1 (h.trans (confines_writeReg rd v u))

theorem ifCond_confines {cond : Cond} {body : State → Res} {s : State} (h : Answers Confines s (body s)) :
    Answers Confines s (ifCond cond body s) := by
  unfold ifCond
  split
  · exact h
  · exact retire_confines 0 .rfl

theorem undefinedIfCond_confines (w : Word) (s : State) : Answers Confines s (undefinedIfCond w s) :=
  ifCond_confines .fault

/-! Transfers of a register list. -/

theorem confines_loadRegs {put : RegNum → Word → State → State} {wb : State → State}
    (hput : ∀ i v s, Confines s (put i v s)) (hwb : ∀ s, Confines s (wb s)) (regs : List RegNum) (first : Bool)
    (a : Word) (s : State) : Confines s (loadRegs put wb first regs a s).2 := by
  induction regs generalizing first a s with
  | nil => exact .rfl
  | cons i rest ih =>
    have hbase : ∀ t, Confines t (if first then wb t else t) := by
      intro t
      split
      · exact hwb t
      · exact .rfl
    have hread := (confines_loadData (!first) .word (alignTo .word a) s).trans (hbase _)
    unfold loadRegs
    dsimp only
    split
    · exact hread
    · exact (hread.trans (hput i _ _)).trans (ih false _ _)

theorem storeRegs_confines {get : RegNum → State → Word} {wb : State → State} (hwb : ∀ s, Confines s (wb s))
    (regs : List RegNum) (first : Bool) (a : Word) (s : State) :
    Answers Confines s (storeRegs get wb first regs a s) := by
  induction regs generalizing first a s with
  | nil => exact .next .rfl
  | cons i rest ih =>
    refine thenRes_confines (storeData_confines _ _ _ _ s) fun t => Confines.andThen ?_ (ih false _ _)
    split
    · exact hwb t
    · exact .rfl

end Sys2Proof.Proofs
end

section
/-! PROOFS. The ARM and THUMB meanings keep the shape and confine user mode, but for SWI. -/

namespace Sys2Proof.Proofs

open Sys2Proof.Machine

/-! ARM data processing and multiply. -/

/-- A register result, and its flags where the instruction sets them. -/
theorem confines_writeReg_setPsr_if (c : Prop) [Decidable c] (rd : RegNum) (v : Word) (f : Psr → Psr) (s : State)
    (hf : ∀ p, (f p).t = p.t ∧ (f p).mode = p.mode ∧ (f p).i = p.i ∧ (f p).f = p.f) :
    Confines s (if c then setPsr f (writeReg rd v s) else writeReg rd v s) := by
  obtain ⟨ht, hm, hi, hff⟩ := hf s.cpu32.cpsr
  split
  · exact (confines_writeReg rd v s).trans (confines_setPsr _ ht hm hi hff)
  · exact confines_writeReg rd v s

theorem dpFinish_confines (op : DpOp) (d : Dp) (a b : Word) (shc : Bool) (extra : Nat) (s : State) :
    Answers Confines s (dpFinish op d a b shc extra s) := by
  unfold dpFinish
  dsimp only
  split
  · split
    · exact .fault
    · exact retire_confines extra (confines_setFlags _ _ _ s)
  split
  · exact .fault
  split
  · split
    · exact returnTo_confines _ (confines_charge extra s)
    · exact writePcValue_confines _ (confines_charge extra s)
  · exact retire_confines extra (confines_writeReg_setPsr_if _ _ _ _ s fun _ => ⟨rfl, rfl, rfl, rfl⟩)

theorem dpImm_confines (op : DpOp) (d : Dp) (x : Op2Imm) (s : State) : Answers Confines s (dpImm op d x s) :=
  ifCond_confines (dpFinish_confines op d _ _ _ 0 s)

theorem dpShift_confines (op : DpOp) (d : Dp) (x : Op2Shift) (s : State) : Answers Confines s (dpShift op d x s) :=
  ifCond_confines (dpFinish_confines op d _ _ _ 0 s)

theorem dpRegShift_confines (op : DpOp) (d : Dp) (x : Op2RegShift) (s : State) :
    Answers Confines s (dpRegShift op d x s) := by
  refine ifCond_confines ?_
  split
  · exact .fault
  · exact dpFinish_confines op d _ _ _ 1 s

theorem multiplyFinish_confines (o : MulOps) (acc : Word) (extra : Nat) (s : State) :
    Answers Confines s (multiplyFinish o acc extra s) :=
  retire_confines _ (confines_writeReg_setPsr_if _ _ _ _ s fun _ => ⟨rfl, rfl, rfl, rfl⟩)

theorem multiply_confines (o : MulOps) (s : State) : Answers Confines s (multiply o s) := by
  refine ifCond_confines ?_
  split
  · exact .fault
  split
  · exact .fault
  · exact multiplyFinish_confines o 0 0 s

theorem multiplyAccumulate_confines (o : MulOps) (s : State) : Answers Confines s (multiplyAccumulate o s) := by
  refine ifCond_confines ?_
  split
  · exact .fault
  · exact multiplyFinish_confines o _ 1 s

theorem multiplyLong_confines (signed acc : Bool) (o : LongMulOps) (s : State) :
    Answers Confines s (multiplyLong signed acc o s) := by
  refine ifCond_confines ?_
  split
  · exact .fault
  · exact retire_confines _ ((confines_writeReg o.rdLo _ s).trans
      (confines_writeReg_setPsr_if _ _ _ _ _ fun _ => ⟨rfl, rfl, rfl, rfl⟩))

/-! ARM loads and stores. -/

theorem confines_writeReg_if (c : Prop) [Decidable c] (i : RegNum) (v : Word) (s : State) :
    Confines s (if c then writeReg i v s else s) := by
  split
  · exact confines_writeReg i v s
  · exact .rfl

theorem confines_writeBack (ix : Index) (a : Word) (s : State) : Confines s (Index.writeBack ix a s) :=
  confines_writeReg_if _ ix.rn a s

theorem loadIndexed_confines (k : LoadKind) (ix : Index) (offset : Word) (s : State) :
    Answers Confines s (loadIndexed k ix offset s) := by
  unfold loadIndexed
  split
  · exact .fault
  split
  · exact .fault
  · exact finishLoad_confines _ _ ((confines_loadValue _ _ s).trans (confines_writeBack _ _ _))

theorem storeIndexed_confines (w : Width) (ix : Index) (offset : Word) (s : State) :
    Answers Confines s (storeIndexed w ix offset s) := by
  unfold storeIndexed
  split
  · exact .fault
  · exact thenRes_confines (storeData_confines _ _ _ _ s) fun t => retireStore_confines (confines_writeBack _ _ t)

theorem loadSingle_confines (k : LoadKind) (ix : Index) (offset : Word) (s : State) :
    Answers Confines s (loadSingle k ix offset s) := by
  unfold loadSingle
  split
  · exact .fault
  · exact loadIndexed_confines k ix offset s

theorem loadSingleImm_confines (k : LoadKind) (o : XferImm) (s : State) :
    Answers Confines s (loadSingleImm k o s) := ifCond_confines (loadSingle_confines k o.ix _ s)

theorem loadSingleReg_confines (k : LoadKind) (o : XferReg) (s : State) :
    Answers Confines s (loadSingleReg k o s) := by
  refine ifCond_confines ?_
  split
  · exact .fault
  · exact loadSingle_confines k o.ix _ s

theorem storeSingleImm_confines (w : Width) (o : XferImm) (s : State) :
    Answers Confines s (storeSingleImm w o s) := ifCond_confines (storeIndexed_confines w o.ix _ s)

theorem storeSingleReg_confines (w : Width) (o : XferReg) (s : State) :
    Answers Confines s (storeSingleReg w o s) := by
  refine ifCond_confines ?_
  split
  · exact .fault
  · exact storeIndexed_confines w o.ix _ s

theorem halfChecked_confines {ix : Index} {body : State → Res} {s : State} (h : Answers Confines s (body s)) :
    Answers Confines s (halfChecked ix body s) := by
  unfold halfChecked
  split
  · exact .fault
  split
  · exact .fault
  · exact h

theorem loadHalfReg_confines (k : LoadKind) (o : HalfReg) (s : State) : Answers Confines s (loadHalfReg k o s) := by
  refine ifCond_confines (halfChecked_confines ?_)
  split
  · exact .fault
  · exact loadIndexed_confines k o.ix _ s

theorem loadHalfImm_confines (k : LoadKind) (o : HalfImm) (s : State) : Answers Confines s (loadHalfImm k o s) :=
  ifCond_confines (halfChecked_confines (loadIndexed_confines k o.ix _ s))

theorem storeHalfReg_confines (o : HalfReg) (s : State) : Answers Confines s (storeHalfReg o s) := by
  refine ifCond_confines (halfChecked_confines ?_)
  split
  · exact .fault
  · exact storeIndexed_confines .half o.ix _ s

theorem storeHalfImm_confines (o : HalfImm) (s : State) : Answers Confines s (storeHalfImm o s) :=
  ifCond_confines (halfChecked_confines (storeIndexed_confines .half o.ix _ s))

theorem blockChecked_confines {o : BlockOps} {restores : Bool} {body : State → Res} {s : State}
    (h : Answers Confines s (body s)) : Answers Confines s (blockChecked o restores body s) := by
  unfold blockChecked
  split
  · exact .fault
  split
  · exact .fault
  split
  · exact .fault
  · exact h

theorem blockLoad_confines (o : BlockOps) (s : State) : Answers Confines s (blockLoad o s) := by
  have hput : ∀ (i : RegNum) (v : Word) (t : State), Confines t ((if o.s then writeUser else writeReg) i v t) := by
    intro i v t
    split
    · exact confines_writeUser i v t
    · exact confines_writeReg i v t
  refine ifCond_confines (blockChecked_confines ?_)
  dsimp only
  have htransfer := confines_loadRegs hput
    (confines_writeReg_if (o.wb = true ∧ o.rn ∉ blockRegs o.list) o.rn (blockNewBase o (readReg o.rn s)))
    (blockRegs o.list) true (blockStart o (readReg o.rn s)) s
  generalize loadRegs _ _ _ _ _ _ = r at htransfer ⊢
  split
  · exact retire_confines 1 htransfer
  split
  · exact returnTo_confines _ (htransfer.trans (confines_charge 1 _))
  · exact writePcValue_confines _ (htransfer.trans (confines_charge 1 _))

theorem blockStore_confines (o : BlockOps) (s : State) : Answers Confines s (blockStore o s) :=
  ifCond_confines (blockChecked_confines
    (thenRes_confines (storeRegs_confines (confines_writeReg_if _ _ _) _ _ _ s) fun _ => retireStore_confines .rfl))

theorem swap_confines (w : Width) (o : SwapOps) (s : State) : Answers Confines s (swap w o s) := by
  refine ifCond_confines ?_
  split
  · exact .fault
  · exact thenRes_confines ((confines_loadValue _ _ s).andThen (storeData_confines _ _ _ _ _)) fun t =>
      retire_confines 1 (confines_writeReg _ _ t)

/-! ARM branches and status transfers. -/

theorem branch_confines (link : Bool) (o : BranchOps) (s : State) : Answers Confines s (branch link o s) :=
  ifCond_confines (jumpTo_confines _ _ (confines_writeReg_if _ _ _ s))

theorem armBranchExchange_confines (o : BranchExchange) (s : State) : Answers Confines s (armBranchExchange o s) :=
  ifCond_confines (jumpTo_confines _ _ .rfl)

/-- The status word's bits that hold I, F and the mode (R54). -/
theorem ofWord_mode {w : Word} {p : Psr} (h : Psr.ofWord? w = some p) :
    p.i = w.getLsbD 7 ∧ p.f = w.getLsbD 6 ∧ Mode.ofCode? (w.toNat % 32) = some p.mode := by
  unfold Psr.ofWord? at h
  split at h
  · cases h
    exact ⟨rfl, rfl, by assumption⟩
  · cases h

/-- Under a mask without the low byte, I, F and the mode are those of the old word. -/
theorem ofWord_replaceBits {q p : Psr} {v mask : Word} (hmask : mask &&& 0xFF#32 = 0#32)
    (h : Psr.ofWord? (replaceBits q.toWord v mask) = some p) : p.mode = q.mode ∧ p.i = q.i ∧ p.f = q.f := by
  have hlow : replaceBits q.toWord v mask &&& 0xFF#32 = q.toWord &&& 0xFF#32 := by
    have hcompl : ~~~mask &&& 0xFF#32 = 0xFF#32 := by
      calc ~~~mask &&& 0xFF#32 = (mask &&& 0xFF#32) ||| (~~~mask &&& 0xFF#32) := by rw [hmask, BitVec.zero_or]
        _ = 0xFF#32 := by rw [← BitVec.and_or_distrib_right, BitVec.or_not_self, BitVec.allOnes_and]
    rw [replaceBits, BitVec.and_or_distrib_right, BitVec.and_assoc, hcompl, BitVec.and_assoc, hmask]
    simp
  have hbit : ∀ k, k < 8 → (replaceBits q.toWord v mask).getLsbD k = q.toWord.getLsbD k := by
    have hone : ∀ k, k < 8 → (0xFF#32).getLsbD k = true := by decide
    intro k hk
    have h := congrArg (fun x : Word => x.getLsbD k) hlow
    simpa [hone k hk] using h
  have hmod : ∀ x : Word, x.toNat % 32 = (x &&& 0xFF#32).toNat % 32 := by
    intro x
    rw [BitVec.toNat_and, show (0xFF#32).toNat = 2 ^ 8 - 1 from rfl, Nat.and_two_pow_sub_one_eq_mod]
    omega
  obtain ⟨hi, hf, hm⟩ := ofWord_mode h
  obtain ⟨hi', hf', hm'⟩ := ofWord_mode (ofWord_toWord q)
  rw [hmod, hlow, ← hmod, hm'] at hm
  exact ⟨(Option.some.inj hm).symm, by rw [hi, hi', hbit 7 (by decide)], by rw [hf, hf', hbit 6 (by decide)]⟩

@[simp] theorem setSpsr_pc (c : Cpu32) (m : Mode) (v : Word) : (c.setSpsr m v).pc = c.pc := by cases m <;> rfl
@[simp] theorem setSpsr_cpsr (c : Cpu32) (m : Mode) (v : Word) : (c.setSpsr m v).cpsr = c.cpsr := by cases m <;> rfl
@[simp] theorem setSpsr_slots (c : Cpu32) (m : Mode) (v : Word) : (c.setSpsr m v).slots = c.slots := by cases m <;> rfl
@[simp] theorem setSpsr_save (c : Cpu32) (m : Mode) (v : Word) : (c.setSpsr m v).save = c.save := by cases m <;> rfl
@[simp] theorem setSpsr_mem (c : Cpu32) (m : Mode) (v : Word) : (c.setSpsr m v).mem = c.mem := by cases m <;> rfl

/-- A write of the mode's SPSR, outside user mode. -/
theorem confines_setSpsr (v : Word) (s : State) (h : s.cpu32.cpsr.mode ≠ .usr) :
    Confines s (on32 (fun c => c.setSpsr c.cpsr.mode v) s) := by
  refine ⟨?_, spsrsMasked_setSpsr s.cpu32 _ _, ?_, ?_, fun hu => absurd hu h⟩
  · simp [Cpu32.pcAligned]
  · simp [KeepsBounds]
  · simp

/-- MSR: never T, and in user mode the flags only (R540). -/
theorem writePsr_confines (spsr : Bool) (fields : BitVec 4) (v : Word) (s : State) :
    Answers Confines s (writePsr spsr fields v s) := by
  unfold writePsr
  dsimp only
  split
  · split
    · exact .fault
    · rename_i hspsr
      refine .next (confines_setSpsr _ _ fun hu => ?_)
      rw [hu] at hspsr
      cases hspsr
  · split
    · exact .fault
    · rename_i p hp
      refine .next ⟨id, id, id, id, fun hu => ⟨?_, fun _ _ => rfl⟩⟩
      rw [if_pos hu] at hp
      obtain ⟨hm, hi, hf⟩ := ofWord_replaceBits (by rw [BitVec.and_assoc]; simp) hp
      rw [guarded, setPsr_cpu32]
      dsimp only
      rw [hm, hi, hf]
      rfl

theorem moveFromPsr_confines (o : MrsOps) (s : State) : Answers Confines s (moveFromPsr o s) := by
  refine ifCond_confines ?_
  split
  · exact .fault
  split
  · exact .fault
  split
  · split
    · exact .fault
    · exact retire_confines 0 (confines_writeReg _ _ s)
  · exact retire_confines 0 (confines_writeReg _ _ s)

theorem moveToPsrReg_confines (o : MsrRegOps) (s : State) : Answers Confines s (moveToPsrReg o s) := by
  refine ifCond_confines ?_
  split
  · exact .fault
  split
  · exact .fault
  · exact thenRes_confines (writePsr_confines _ _ _ s) fun _ => retire_confines 0 .rfl

theorem moveToPsrImm_confines (o : MsrImmOps) (s : State) : Answers Confines s (moveToPsrImm o s) :=
  ifCond_confines (thenRes_confines (writePsr_confines _ _ _ s) fun _ => retire_confines 0 .rfl)

/-! THUMB. -/

theorem thumbResult_confines (rd : LowReg) (r : Word × Bool × Bool) (extra : Nat) (s : State) :
    Answers Confines s (thumbResult rd r extra s) :=
  retire_confines extra ((confines_writeReg _ _ s).trans (confines_setFlags _ _ _ _))

theorem thumbTest_confines (r : Word × Bool × Bool) (s : State) : Answers Confines s (thumbTest r s) :=
  retire_confines 0 (confines_setFlags _ _ _ s)

theorem thumbImm8_confines (op : DpOp) (rd : LowReg) (imm : Byte) (s : State) :
    Answers Confines s (thumbImm8 op rd imm s) := by
  unfold thumbImm8
  dsimp only
  split
  · exact thumbTest_confines _ s
  · exact thumbResult_confines rd _ 0 s

theorem thumbAlu_confines (op : DpOp) (rd rs : LowReg) (s : State) : Answers Confines s (thumbAlu op rd rs s) := by
  unfold thumbAlu
  dsimp only
  split
  · exact thumbTest_confines _ s
  · exact thumbResult_confines rd _ 0 s

theorem highChecked_confines {hd hs : RegNum} {body : State → Res} {s : State} (h : Answers Confines s (body s)) :
    Answers Confines s (highChecked hd hs body s) := by
  unfold highChecked
  split
  · exact .fault
  · exact h

theorem writeHigh_confines (hd : RegNum) (v : Word) (s : State) : Answers Confines s (writeHigh hd v s) := by
  unfold writeHigh
  split
  · exact writePcValue_confines v .rfl
  · exact retire_confines 0 (confines_writeReg hd v s)

theorem thumbAddHigh_confines (hd hs : RegNum) (s : State) : Answers Confines s (thumbAddHigh hd hs s) :=
  highChecked_confines (writeHigh_confines hd _ s)

theorem thumbCompareHigh_confines (hd hs : RegNum) (s : State) : Answers Confines s (thumbCompareHigh hd hs s) :=
  highChecked_confines (thumbTest_confines _ s)

theorem thumbMoveHigh_confines (hd hs : RegNum) (s : State) : Answers Confines s (thumbMoveHigh hd hs s) :=
  highChecked_confines (writeHigh_confines hd _ s)

theorem thumbLoad_confines (k : LoadKind) (rd : LowReg) (a : Word) (s : State) :
    Answers Confines s (thumbLoad k rd a s) := finishLoad_confines _ _ (confines_loadValue k a s)

theorem thumbStore_confines (w : Width) (rd : LowReg) (a : Word) (s : State) :
    Answers Confines s (thumbStore w rd a s) :=
  thenRes_confines (storeData_confines _ w a _ s) fun _ => retireStore_confines .rfl

theorem listChecked_confines {regs : List RegNum} {body : State → Res} {s : State} (h : Answers Confines s (body s)) :
    Answers Confines s (listChecked regs body s) := by
  unfold listChecked
  split
  · exact .fault
  · exact h

theorem thumbPushRegs_confines (lr : Bool) (list : Byte) (s : State) :
    Answers Confines s (thumbPushRegs lr list s) := by
  unfold thumbPushRegs
  exact listChecked_confines (thenRes_confines (storeRegs_confines (fun _ => .rfl) _ _ _ s) fun t =>
    retireStore_confines (confines_writeReg _ _ t))

theorem confines_loadRegs_writeReg (regs : List RegNum) (a : Word) (s : State) :
    Confines s (loadRegs writeReg (fun s => s) true regs a s).2 :=
  confines_loadRegs confines_writeReg (fun _ => .rfl) regs true a s

theorem thumbPopRegs_confines (toPc : Bool) (list : Byte) (s : State) :
    Answers Confines s (thumbPopRegs toPc list s) := by
  unfold thumbPopRegs
  refine listChecked_confines ?_
  have htransfer := confines_loadRegs_writeReg (popList toPc list) (readReg 13#4 s) s
  dsimp only
  generalize loadRegs _ _ _ _ _ _ = r at htransfer ⊢
  have hbase := (htransfer.trans (confines_writeReg 13#4 (readReg 13#4 s + listBytes (popList toPc list)) r.2)).trans
    (confines_charge 1 _)
  split
  · exact writePcValue_confines _ hbase
  · exact retire_confines 0 hbase

theorem thumbStoreMultiple_confines (rb : LowReg) (list : Byte) (s : State) :
    Answers Confines s (thumbStoreMultiple rb list s) := by
  unfold thumbStoreMultiple
  exact listChecked_confines (thenRes_confines (storeRegs_confines (confines_writeReg _ _) _ _ _ s) fun _ =>
    retireStore_confines .rfl)

theorem thumbLoadMultiple_confines (rb : LowReg) (list : Byte) (s : State) :
    Answers Confines s (thumbLoadMultiple rb list s) := by
  unfold thumbLoadMultiple
  refine listChecked_confines ?_
  have htransfer := confines_loadRegs_writeReg (listedRegs list.toNat) (readReg (low rb) s) s
  dsimp only
  generalize loadRegs _ _ _ _ _ _ = r at htransfer ⊢
  refine retire_confines 1 ?_
  split
  · exact htransfer
  · exact htransfer.trans (confines_writeReg _ _ _)

end Sys2Proof.Proofs
end

section
/-! PROOFS. Every CPU-8 instruction is an entry of the decoder's maps (R204, R205), so that what was shown of the maps
holds of every instruction. -/

namespace Sys2Proof.Proofs

open Sys2Proof.Machine

/-- The entry of the primary or the CB map at an instruction's own bits (R200). -/
def mapEntry (i : Instr) : Instr :=
  if i.word.2 % 256 = 0xCB then decodeCb (i.word.2 / 256)
  else decodePrimary (i.word.2 % 256) (BitVec.ofNat 8 (i.word.2 / 256)) (BitVec.ofNat 16 (i.word.2 / 256))

theorem mapEntry_imm8 {i : Instr} {n : Byte} {op : Nat} (h : i.word.2 = n.toNat * 256 + op) (hop : op < 0xCB ∨ 0xCB < op)
    (hlt : op < 256) : mapEntry i = decodePrimary op n (BitVec.ofNat 16 n.toNat) := by
  have hmod : i.word.2 % 256 = op := by omega
  have hdiv : i.word.2 / 256 = n.toNat := by omega
  rw [mapEntry, hmod, hdiv, if_neg (by omega), BitVec.ofNat_toNat, BitVec.setWidth_eq]

theorem mapEntry_imm16 {i : Instr} {nn : Half} {op : Nat} (h : i.word.2 = nn.toNat * 256 + op)
    (hop : op < 0xCB ∨ 0xCB < op) (hlt : op < 256) : mapEntry i = decodePrimary op (BitVec.ofNat 8 nn.toNat) nn := by
  have hmod : i.word.2 % 256 = op := by omega
  have hdiv : i.word.2 / 256 = nn.toNat := by omega
  rw [mapEntry, hmod, hdiv, if_neg (by omega), BitVec.ofNat_toNat (m := 16), BitVec.setWidth_eq]

theorem eq_mapEntry {i : Instr} (h : i.isa = .cpu8) (hp : ∀ op2, i ≠ .cbPrefix op2) : i = mapEntry i := by
  cases i with
  | cbPrefix op2 => exact absurd rfl (hp op2)
  | ld_bc_nn x | ld_nnm_sp x | ld_de_nn x | ld_hl_nn x | ld_sp_nn x | jp_nz_nn x | jp_nn x | call_nz_nn x | jp_z_nn x
  | call_z_nn x | call_nn x | jp_nc_nn x | call_nc_nn x | jp_c_nn x | call_c_nn x | ld_nnm_a x | ld_a_nnm x =>
    rw [mapEntry_imm16 (nn := x) rfl (by decide) (by decide)]
    rfl
  | ld_b_n x | ld_c_n x | stop x | ld_d_n x | jr_e x | ld_e_n x | jr_nz_e x | ld_h_n x | jr_z_e x | ld_l_n x | jr_nc_e x
  | ld_hlm_n x | jr_c_e x | ld_a_n x | add_a_n x | adc_a_n x | sub_n x | sbc_a_n x | ldh_nm_a x | and_n x | add_sp_e x
  | xor_n x | ldh_a_nm x | or_n x | ld_hl_sp_e x | cp_n x =>
    rw [mapEntry_imm8 (n := x) rfl (by decide) (by decide)]
    rfl
  | _ => cases h <;> rfl

/-- No CPU-8 instruction changes anything outside the CPU-8 half, the cycles, the draws and the outbox. -/
theorem exec_keeps_of_cpu8 {i : Instr} (h : i.isa = .cpu8) (s : State) : Keeps outside8 s (exec i s) := by
  by_cases hp : ∃ op2, i = .cbPrefix op2
  · obtain ⟨op2, rfl⟩ := hp
    exact cbOperation_keeps op2 s
  · rw [eq_mapEntry h fun op2 e => hp ⟨op2, e⟩, mapEntry]
    split
    · exact exec_decodeCb_keeps _ s
    · exact exec_decodePrimary_keeps _ _ _ s

end Sys2Proof.Proofs
end

section
/-! PROOFS. Every instruction but SWI confines user mode, and every step keeps the shape of the state. -/

namespace Sys2Proof.Proofs

open Sys2Proof.Machine

theorem exec_confines_of_arm {i : Instr} (h : i.isa = .arm) (hswi : ∀ o, i ≠ .armSwi o) (s : State) :
    Answers Confines s (exec i s) := by
  cases i with
  | armReservedCond w => exact .fault
  | armUndefStoreSignedReg w | armUndefStoreSignedImm w | armUndefMultiplySpace w | armUndefCompareNoS w
  | armUndefSpace w | armLdcStc w | armCdpMrcMcr w => exact undefinedIfCond_confines w s
  | armBx o => exact armBranchExchange_confines o s
  | armMul o => exact multiply_confines o s
  | armMla o => exact multiplyAccumulate_confines o s
  | armUmull o => exact multiplyLong_confines false false o s
  | armUmlal o => exact multiplyLong_confines false true o s
  | armSmull o => exact multiplyLong_confines true false o s
  | armSmlal o => exact multiplyLong_confines true true o s
  | armSwp o => exact swap_confines .word o s
  | armSwpb o => exact swap_confines .byte o s
  | armStrhReg o => exact storeHalfReg_confines o s
  | armStrhImm o => exact storeHalfImm_confines o s
  | armLdrhReg o | armLdrsbReg o | armLdrshReg o => exact loadHalfReg_confines _ o s
  | armLdrhImm o | armLdrsbImm o | armLdrshImm o => exact loadHalfImm_confines _ o s
  | armMrs o => exact moveFromPsr_confines o s
  | armMsrReg o => exact moveToPsrReg_confines o s
  | armMsrImm o => exact moveToPsrImm_confines o s
  | armAndImm d x | armEorImm d x | armSubImm d x | armRsbImm d x | armAddImm d x | armAdcImm d x | armSbcImm d x
  | armRscImm d x | armTstImm d x | armTeqImm d x | armCmpImm d x | armCmnImm d x | armOrrImm d x | armMovImm d x
  | armBicImm d x | armMvnImm d x => exact dpImm_confines _ _ x s
  | armAndShift d x | armEorShift d x | armSubShift d x | armRsbShift d x | armAddShift d x | armAdcShift d x
  | armSbcShift d x | armRscShift d x | armTstShift d x | armTeqShift d x | armCmpShift d x | armCmnShift d x
  | armOrrShift d x | armMovShift d x | armBicShift d x | armMvnShift d x => exact dpShift_confines _ _ x s
  | armAndRegShift d x | armEorRegShift d x | armSubRegShift d x | armRsbRegShift d x | armAddRegShift d x
  | armAdcRegShift d x | armSbcRegShift d x | armRscRegShift d x | armTstRegShift d x | armTeqRegShift d x
  | armCmpRegShift d x | armCmnRegShift d x | armOrrRegShift d x | armMovRegShift d x | armBicRegShift d x
  | armMvnRegShift d x => exact dpRegShift_confines _ _ x s
  | armStrImm o | armStrbImm o => exact storeSingleImm_confines _ o s
  | armStrReg o | armStrbReg o => exact storeSingleReg_confines _ o s
  | armLdrImm o | armLdrbImm o => exact loadSingleImm_confines _ o s
  | armLdrReg o | armLdrbReg o => exact loadSingleReg_confines _ o s
  | armStm o => exact blockStore_confines o s
  | armLdm o => exact blockLoad_confines o s
  | armB o => exact branch_confines false o s
  | armBl o => exact branch_confines true o s
  | armSwi o => exact absurd rfl (hswi o)
  | _ => cases h

theorem exec_confines_of_thumb {i : Instr} (h : i.isa = .thumb) (hswi : ∀ n, i ≠ .thumbSwi n) (s : State) :
    Answers Confines s (exec i s) := by
  cases i with
  | thumbLslImm rd rs n | thumbLsrImm rd rs n | thumbAsrImm rd rs n => exact thumbResult_confines rd _ 0 s
  | thumbAddReg rd rs rn | thumbSubReg rd rs rn => exact thumbResult_confines rd _ 0 s
  | thumbAddImm3 rd rs imm | thumbSubImm3 rd rs imm => exact thumbResult_confines rd _ 0 s
  | thumbMovImm rd imm => exact thumbImm8_confines .mov rd imm s
  | thumbCmpImm rd imm => exact thumbImm8_confines .cmp rd imm s
  | thumbAddImm8 rd imm => exact thumbImm8_confines .add rd imm s
  | thumbSubImm8 rd imm => exact thumbImm8_confines .sub rd imm s
  | thumbAnd rd rs => exact thumbAlu_confines .and rd rs s
  | thumbEor rd rs => exact thumbAlu_confines .eor rd rs s
  | thumbAdc rd rs => exact thumbAlu_confines .adc rd rs s
  | thumbSbc rd rs => exact thumbAlu_confines .sbc rd rs s
  | thumbTst rd rs => exact thumbAlu_confines .tst rd rs s
  | thumbCmp rd rs => exact thumbAlu_confines .cmp rd rs s
  | thumbCmn rd rs => exact thumbAlu_confines .cmn rd rs s
  | thumbOrr rd rs => exact thumbAlu_confines .orr rd rs s
  | thumbBic rd rs => exact thumbAlu_confines .bic rd rs s
  | thumbMvn rd rs => exact thumbAlu_confines .mvn rd rs s
  | thumbLsl rd rs | thumbLsr rd rs | thumbAsr rd rs | thumbRor rd rs => exact thumbResult_confines rd _ 1 s
  | thumbNeg rd rs => exact thumbResult_confines rd _ 0 s
  | thumbMul rd rs => exact thumbResult_confines rd _ _ s
  | thumbAddHi hd hs => exact thumbAddHigh_confines hd hs s
  | thumbCmpHi hd hs => exact thumbCompareHigh_confines hd hs s
  | thumbMovHi hd hs => exact thumbMoveHigh_confines hd hs s
  | thumbBx hs => exact jumpTo_confines _ _ .rfl
  | thumbLdrPc rd imm | thumbLdrSp rd imm => exact thumbLoad_confines _ rd _ s
  | thumbLdrReg rd rb ro | thumbLdrbReg rd rb ro | thumbLdsbReg rd rb ro | thumbLdrhReg rd rb ro
  | thumbLdshReg rd rb ro => exact thumbLoad_confines _ rd _ s
  | thumbLdrImm rd rb imm | thumbLdrbImm rd rb imm | thumbLdrhImm rd rb imm => exact thumbLoad_confines _ rd _ s
  | thumbStrReg rd rb ro | thumbStrbReg rd rb ro | thumbStrhReg rd rb ro => exact thumbStore_confines _ rd _ s
  | thumbStrImm rd rb imm | thumbStrbImm rd rb imm | thumbStrhImm rd rb imm => exact thumbStore_confines _ rd _ s
  | thumbStrSp rd imm => exact thumbStore_confines _ rd _ s
  | thumbAddPc rd imm | thumbAddSp rd imm => exact retire_confines 0 (confines_writeReg _ _ s)
  | thumbAdjustSp down imm => exact retire_confines 0 (confines_writeReg _ _ s)
  | thumbPush lr list => exact thumbPushRegs_confines lr list s
  | thumbPop toPc list => exact thumbPopRegs_confines toPc list s
  | thumbStmia rb list => exact thumbStoreMultiple_confines rb list s
  | thumbLdmia rb list => exact thumbLoadMultiple_confines rb list s
  | thumbUndefBlx w | thumbUndefB1 w | thumbUndefB2 w | thumbUndefB6 w | thumbUndefB8 w | thumbUndefBE w
  | thumbUndefCond14 w | thumbUndefE8 w => exact .fault
  | thumbBCond cond offset => exact ifCond_confines (jumpTo_confines _ _ .rfl)
  | thumbB offset => exact jumpTo_confines _ _ .rfl
  | thumbBlHi offset => exact retire_confines 0 (confines_writeReg _ _ s)
  | thumbBlLo offset => exact jumpTo_confines _ _ (confines_writeReg _ _ s)
  | thumbSwi n => exact absurd rfl (hswi n)
  | _ => cases h

/-- Every instruction but SWI keeps the CPU-32 half's shape and confines user mode. -/
theorem exec_confines {i : Instr} (harm : ∀ o, i ≠ .armSwi o) (hthumb : ∀ n, i ≠ .thumbSwi n) (s : State) :
    Answers Confines s (exec i s) := by
  cases h : i.isa with
  | cpu8 => exact fun t ht => confines_of_cpu32 (congrArg Prod.snd (exec_keeps_of_cpu8 h s t ht))
  | arm => exact exec_confines_of_arm h harm s
  | thumb => exact exec_confines_of_thumb h hthumb s

/-- A slot that no register of user mode has stands above theirs (R50). -/
theorem slotOf_ge_of_banked {j : RegNum} {m : Mode} (h : ∀ k : RegNum, k ≠ 15#4 → slotOf j m ≠ slotOf k .usr) :
    15 ≤ (slotOf j m).val := by
  have husr : ∀ n : Fin 30, n.val < 15 → ∃ k : RegNum, k ≠ 15#4 ∧ n = slotOf k .usr := by decide
  by_contra hlt
  obtain ⟨k, hk, e⟩ := husr (slotOf j m) (by omega)
  exact h k hk e

/-- Settles O59: every instruction but SWI stands in `Confines`. -/
theorem userModeConfined : Obligations.UserModeConfined := by
  intro i s t hu ht harm hthumb
  obtain ⟨hg, hb⟩ := (exec_confines harm hthumb s t ht).user hu
  simp only [guarded, Prod.mk.injEq] at hg
  obtain ⟨hmode, hi, hf, hfiq, hirq, hsvc, habt, hund⟩ := hg
  exact ⟨hmode.trans hu, hi, hf, hfiq, hirq, hsvc, habt, hund,
    fun m j _ hk => hb (slotOf j m) (slotOf_ge_of_banked hk)⟩

/-! The shape. -/

/-- The shape of the CPU-32 half is kept from one state to the other. -/
def KeepsWf32 (s t : State) : Prop := s.cpu32.wf → t.cpu32.wf

theorem thenRes_wf32 {s : State} {r : Res} {k : State → Res} (h : Answers KeepsWf32 s r)
    (hk : ∀ t, Answers KeepsWf32 t (k t)) : Answers KeepsWf32 s (thenRes r k) :=
  .seq (R := KeepsWf32) (fun _ _ _ h h' w => h' (h w)) h hk

theorem Answers.wf32 {s : State} {r : Res} (h : Answers Confines s r) : Answers KeepsWf32 s r :=
  fun t ht => (h t ht).wf

theorem Confines.andThenWf32 {s u : State} {r : Res} (h : Confines s u) (hr : Answers KeepsWf32 u r) :
    Answers KeepsWf32 s r := fun t ht w => hr t ht (h.wf w)

/-- Taking an exception stores a status word without reserved bits and goes to an aligned vector (R742). -/
theorem wf_enterException {m : Mode} {vector lr : Word} {s : State} (hv : vector &&& 3#32 = 0#32) :
    KeepsWf32 s (enterException m vector lr s) := by
  rintro ⟨-, hmasked, hbounded, hmem⟩
  refine ⟨hv, spsrsMasked_setSpsr s.cpu32 m _ hmasked, ?_, ?_⟩
  · simpa [enterException] using hbounded
  · simpa [enterException] using hmem

theorem enterAt_wf32 {m : Mode} {vector lr : Word} {s : State} (hv : vector &&& 3#32 = 0#32) :
    Answers KeepsWf32 s (enterAt m vector lr s) := .next (wf_enterException hv)

theorem exec_wf32 (i : Instr) (s : State) : Answers KeepsWf32 s (exec i s) := by
  by_cases harm : ∃ o, i = .armSwi o
  · obtain ⟨o, rfl⟩ := harm
    intro t ht
    obtain ⟨-, hswi⟩ | ⟨-, hskip⟩ := ifCond_eq_next.mp ht
    · exact enterAt_wf32 rfl t hswi
    · exact (retire_confines 0 .rfl).wf32 t hskip
  by_cases hthumb : ∃ n, i = .thumbSwi n
  · obtain ⟨n, rfl⟩ := hthumb
    exact enterAt_wf32 rfl
  · exact (exec_confines (fun o e => harm ⟨o, e⟩) (fun n e => hthumb ⟨n, e⟩) s).wf32

/-! DMA. -/

theorem confines_setDma (n : Fin 4) (f : Cpu32 → DmaChannel) (s : State) :
    Confines s (on32 (fun c => c.setDma n (f c)) s) := confines_on32 rfl rfl rfl

theorem dmaUnit_confines (n : Fin 4) (w : Width) (count : Nat) (s : State) :
    Answers Confines s (dmaUnit n w count s) := by
  unfold dmaUnit
  dsimp only
  split
  · exact .refused
  · have hread : ∀ src dst : Word,
        Confines s (recordAccess dst w false (memRead w src (recordAccess src w false s)).2) := fun src dst =>
      ((confines_recordAccess src w false s).trans (confines_memRead w src _)).trans (confines_recordAccess dst w false _)
    exact thenRes_confines ((hread _ _).andThen (memWrite_confines _ _ _ _ _)) fun t => .next (confines_setDma n _ t)

theorem dmaTransfer_confines (n : Fin 4) (w : Width) (count k : Nat) (s : State) :
    Answers Confines s (dmaTransfer n w count k s) := by
  induction k generalizing s with
  | zero => exact .next .rfl
  | succ k ih => exact thenRes_confines (dmaUnit_confines n w count s) ih

theorem dmaRun_confines (n : Fin 4) (s : State) : Answers Confines s (dmaRun n s) := by
  refine thenRes_confines (dmaTransfer_confines n _ _ _ s) fun t => .next ?_
  have hdone := confines_setDma n (fun c => c.dma[n].complete n) t
  refine Confines.trans ?_ (confines_passCycles _ _)
  split
  · exact hdone.trans (confines_on32 rfl rfl rfl)
  · exact hdone

theorem dmaPhase_confines (fuel : Nat) (s : State) : Answers Confines s (dmaPhase fuel s) := by
  induction fuel generalizing s with
  | zero => exact .next .rfl
  | succ fuel ih =>
    cases h : s.cpu32.lowestPending with
    | none =>
      rw [dmaPhase_idle _ h]
      exact .next .rfl
    | some n =>
      rw [dmaPhase_pending _ h]
      exact thenRes_confines (dmaRun_confines n s) ih

/-! The step. -/

theorem confines_fetch32 (s : State) : Confines s (fetch32 s).2 :=
  (confines_recordAccess _ _ true s).trans (confines_memRead _ _ _)

theorem runInstruction32_wf32 (s : State) : Answers KeepsWf32 s (runInstruction32 s) :=
  thenRes_wf32 ((confines_fetch32 s).andThenWf32 (exec_wf32 _ _)) fun t => .next (confines_advance _ t).wf

theorem enterIrq_wf32 (s : State) : Answers KeepsWf32 s (enterIrq s) :=
  .next fun h => (confines_passCycles _ _).wf (wf_enterException rfl h)

theorem boundary32_wf32 (s : State) : Answers KeepsWf32 s (boundary32 s) := by
  unfold boundary32
  split
  · exact enterIrq_wf32 s
  · exact runInstruction32_wf32 s

theorem afterDma_wf32 (s : State) : Answers KeepsWf32 s (afterDma s) := by
  unfold afterDma
  split
  · exact .next id
  split
  · split
    · exact .next (confines_passCycles 1 s).wf
    · exact Confines.andThenWf32 (confines_on32 rfl rfl rfl) (boundary32_wf32 _)
  · exact boundary32_wf32 s

/-- A CPU-32 step keeps the shape of the CPU-32 half (R53, R56, R156, R811). -/
theorem step32_wf32 (s : State) : Answers KeepsWf32 s (step32 s) :=
  thenRes_wf32 (Confines.andThenWf32 (confines_of_cpu32 rfl) (dmaPhase_confines _ (beginStep s)).wf32) afterDma_wf32

/-- Settles O56: each variant's step keeps its half's shape, and leaves the other half alone. -/
theorem stepKeepsShape : Obligations.StepKeepsShape := by
  rintro s t ⟨h8, h32⟩ h
  obtain ⟨-, ⟨-, hstep⟩ | ⟨-, hstep⟩⟩ := step_eq_next h
  · have hcpu32 : t.cpu32 = s.cpu32 := congrArg Prod.snd (step8_keeps s t hstep)
    exact ⟨step8_wf8 s t hstep h8, by rw [hcpu32]; exact h32⟩
  · have hcpu8 : t.cpu8 = s.cpu8 := congrArg Prod.snd (step32_keeps s t hstep)
    exact ⟨by rw [hcpu8]; exact h8, step32_wf32 s t hstep h32⟩

end Sys2Proof.Proofs
end

section
/-! PROOFS. The CPU-8 register file and its loads (R30, R31, R301, R302, R321, R323, R324). -/

namespace Sys2Proof.Proofs

open Sys2Proof.Machine Sys2Proof.Claims

/-! Pairs. -/

theorem pairOf_setPair_same (c : Cpu8) (p : RP) (v : Half) : (c.setPair p v).pairOf p = v := by
  cases p with
  | sp => rfl
  | _ => exact pair_hiByte_loByte v

theorem pairOf_setPair_ne (c : Cpu8) {p q : RP} (v : Half) (h : q ≠ p) : (c.setPair p v).pairOf q = c.pairOf q := by
  cases p <;> cases q <;> simp [Cpu8.setPair, Cpu8.pairOf] at h ⊢

/-! SP plus a signed byte (R324, R366). -/

theorem add_signExtend_toNat (a : Half) (e : Byte) : (a + e.signExtend 16).toNat = offset16 a e := by
  have he := e.isLt
  rw [BitVec.toNat_add, BitVec.toNat_signExtend, BitVec.toNat_setWidth, BitVec.msb_eq_decide, offset16]
  by_cases hneg : e.toNat < 128
  · rw [if_pos hneg, if_neg (by simpa using hneg)]
    omega
  · rw [if_neg hneg, if_pos (by simpa using hneg)]
    omega

theorem addSpResult_flags (sp : Half) (e : Byte) :
    Flags8 ((addSpResult sp e).2 &&& 0xF0#8) False False (sp.toNat % 16 + e.toNat % 16 > 0xF)
      (sp.toNat % 256 + e.toNat > 0xFF) := by
  simp [Flags8, addSpResult]

/-! The rows. -/

theorem load8_reg {dst src : R8} (hd : dst ≠ .hlm) (hs : src ≠ .hlm) (s : State) :
    load8 dst src s = .next { s with cpu8 := s.cpu8.setReg dst (s.cpu8.reg src), cycles := s.cycles + 4 } := by
  simp only [load8, readOperand8, writeOperand8, thenRes_next, hd, hs, or_self, if_false]
  rfl

theorem loadImm_reg {dst : R8} (hd : dst ≠ .hlm) (n : Byte) (s : State) :
    loadImm dst n s = .next { s with cpu8 := s.cpu8.setReg dst n, cycles := s.cycles + 8 } := by
  simp only [loadImm, writeOperand8, if_neg hd, thenRes_next]
  rfl

theorem exec_ldHlSp (e : Byte) (s : State) : exec (.ld_hl_sp_e e) s = .next
    { s with cpu8 := (s.cpu8.setPair .hl (s.cpu8.sp + e.signExtend 16)).setF (addSpResult s.cpu8.sp e).2
             cycles := s.cycles + 12 } := rfl

/-- Settles O1: each row is the register file's own write, whose laws are those of `setReg` and `setPair`. -/
theorem cpu8RegisterLoads : Obligations.Cpu8RegisterLoads := by
  refine ⟨fun dst src s hd hs => ?_, fun dst n s hd => ?_, fun p nn s => ?_, fun s => rfl,
    fun e s => ⟨_, exec_ldHlSp e s, ?_, addSpResult_flags s.cpu8.sp e, ?_⟩,
    fun c k v hk => ⟨reg_setReg_same c k v hk, setReg_f c k v, setReg_sp c k v, fun j hj => reg_setReg_ne c j k v hj⟩,
    fun c p v => ⟨pairOf_setPair_same c p v, setPair_a c p v, setPair_f c p v, fun q hq => pairOf_setPair_ne c v hq⟩,
    fun c => ⟨pair_toNat _ _, pair_toNat _ _, pair_toNat _ _, pair_toNat _ _⟩⟩
  · rw [exec_ldInstr s (.inl hd), load8_reg hd hs]
  · rw [exec_ldImmInstr, loadImm_reg hd]
  · rw [exec_ldPairInstr]
    rfl
  · exact (congrArg BitVec.toNat (pairOf_setPair_same s.cpu8 .hl _)).trans (add_signExtend_toNat _ e)
  · exact congrArg (fun v : Half => { s with cpu8 := (s.cpu8.setPair .hl v).setF (addSpResult s.cpu8.sp e).2
                                             cycles := s.cycles + 12 }) (pairOf_setPair_same s.cpu8 .hl _).symm

end Sys2Proof.Proofs
end

section
/-! PROOFS. The CPU-32 register banks and what R15 reads as (R50 to R52). -/

namespace Sys2Proof.Proofs

open Sys2Proof.Machine

/-- The mode whose R13 and R14 a mode uses: user and system mode share theirs (R50). -/
def bankOf (m : Mode) : Mode := if m = .sys then .usr else m

/-- Two modes name one slot exactly for the same register, below R8, in the same set of R8 to R12, or in the same bank of
R13 and R14 (R50). -/
theorem slotOf_eq_iff : ∀ (m m' : Mode) (i j : RegNum), i ≠ 15#4 → j ≠ 15#4 →
    (slotOf i m = slotOf j m' ↔
      i = j ∧ (i.toNat < 8 ∨ (i.toNat < 13 ∧ (m = .fiq ↔ m' = .fiq)) ∨ bankOf m = bankOf m')) := by
  intro m m'
  cases m <;> cases m' <;> decide

theorem regIn_setRegIn_of_slotOf_eq (c : Cpu32) {m m' : Mode} {i j : RegNum} (v : Word) (h : slotOf i m = slotOf j m') :
    (c.setRegIn m i v).regIn m' j = v := by
  have hsame := regIn_setRegIn_same c m i v
  simpa only [Cpu32.regIn, h] using hsame

/-- Settles O20: registers share a value exactly where they share a slot. -/
theorem cpu32Registers : Obligations.Cpu32Registers := by
  refine ⟨fun c m i v hi => ⟨regIn_setRegIn_same c m i v, rfl, fun j hj hne => ?_⟩,
    fun c m m' i j v hi hj => ⟨fun h => ?_, fun h => ?_⟩, fun i s => ⟨fun hi => ⟨?_, ?_, ?_⟩, ?_, rfl, rfl, rfl⟩⟩
  · exact regIn_setRegIn_ne c m m i j v fun e => hne (slotOf_injective m i j hi hj e).symm
  · exact regIn_setRegIn_of_slotOf_eq c v ((slotOf_eq_iff m m' i j hi hj).mpr h)
  · exact regIn_setRegIn_ne c m m' i j v fun e => h ((slotOf_eq_iff m m' i j hi hj).mp e)
  · exact if_neg hi
  · exact if_neg hi
  · exact if_neg hi
  · rw [readReg, if_pos rfl, Cpu32.pcRead]
    split <;> rfl

end Sys2Proof.Proofs
end

section
/-! PROOFS. The status words, MRS and MSR (R54 to R56, R540 to R543). -/

namespace Sys2Proof.Proofs

open Sys2Proof.Machine Sys2Proof.Claims

/-! The status word (R54, R55). -/

theorem ofCode_isSome : ∀ n, n < 32 →
    ((∃ m, Mode.ofCode? n = some m) ↔ n ∈ [0x10, 0x11, 0x12, 0x13, 0x17, 0x1B, 0x1F]) := by
  have h : ∀ n, n < 32 → ((Mode.ofCode? n).isSome = true ↔ n ∈ [0x10, 0x11, 0x12, 0x13, 0x17, 0x1B, 0x1F]) := by decide
  intro n hn
  rw [← h n hn, Option.isSome_iff_exists]

theorem code_of_ofCode {w : Word} {m : Mode} (h : Mode.ofCode? (w.toNat % 32) = some m) : m.code = w.setWidth 5 := by
  have hcode : ∀ n, n < 32 → ∀ m, Mode.ofCode? n = some m → m.code.toNat = n := by
    intro n hn
    interval_cases n <;> (intro m hm; cases hm <;> rfl)
  apply BitVec.eq_of_toNat_eq
  rw [hcode _ (Nat.mod_lt _ (by decide)) m h, BitVec.toNat_setWidth]

/-- A word stands for a status exactly when its low five bits are a mode (R55). -/
theorem ofWord_eq_map (w : Word) : Psr.ofWord? w = (Mode.ofCode? (w.toNat % 32)).map fun m =>
    { n := w.getLsbD 31, z := w.getLsbD 30, c := w.getLsbD 29, v := w.getLsbD 28
      i := w.getLsbD 7, f := w.getLsbD 6, t := w.getLsbD 5, mode := m } := by
  unfold Psr.ofWord?
  cases Mode.ofCode? (w.toNat % 32) <;> rfl

theorem ofWord_isSome (w : Word) :
    (∃ p, Psr.ofWord? w = some p) ↔ w.toNat % 32 ∈ [0x10, 0x11, 0x12, 0x13, 0x17, 0x1B, 0x1F] := by
  rw [← ofCode_isSome _ (Nat.mod_lt _ (by decide)), ofWord_eq_map]
  simp only [Option.map_eq_some_iff, exists_comm (α := Psr), exists_and_left, exists_eq', and_true]

/-- The fields of the status a word stands for, and the word again without the reserved bits (R54). -/
theorem ofWord_fields {w : Word} {p : Psr} (h : Psr.ofWord? w = some p) :
    p.toWord = w &&& 0xF00000FF#32 ∧ p.n = w.getLsbD 31 ∧ p.z = w.getLsbD 30 ∧ p.c = w.getLsbD 29 ∧
      p.v = w.getLsbD 28 ∧ p.i = w.getLsbD 7 ∧ p.f = w.getLsbD 6 ∧ p.t = w.getLsbD 5 := by
  rw [ofWord_eq_map, Option.map_eq_some_iff] at h
  obtain ⟨m, hm, rfl⟩ := h
  refine ⟨?_, rfl, rfl, rfl, rfl, rfl, rfl, rfl⟩
  apply BitVec.eq_of_getLsbD_eq
  intro k hk
  rw [Psr.toWord, code_of_ofCode hm]
  simp only [BitVec.getLsbD_append, BitVec.getLsbD_and, BitVec.getLsbD_setWidth, BitVec.getLsbD_ofBool, BitVec.getLsbD_zero]
  interval_cases k <;> simp

theorem toWord_t (p : Psr) : p.toWord.getLsbD 5 = p.t := by
  obtain ⟨-, -, -, -, -, -, -, ht⟩ := ofWord_fields (ofWord_toWord p)
  exact ht.symm

/-- Words that differ in bit 5 only stand for the same status but for T. -/
theorem ofWord_congr {w w' : Word} (h : ∀ k, k < 32 → k ≠ 5 → w.getLsbD k = w'.getLsbD k) :
    Psr.ofWord? w = (Psr.ofWord? w').map fun p => { p with t := w.getLsbD 5 } := by
  have hlow : w.setWidth 5 = w'.setWidth 5 := by
    apply BitVec.eq_of_getLsbD_eq
    intro k hk
    rw [BitVec.getLsbD_setWidth, BitVec.getLsbD_setWidth, h k (by omega) (by omega)]
  have hmod : w.toNat % 32 = w'.toNat % 32 := by
    have := congrArg BitVec.toNat hlow
    rwa [BitVec.toNat_setWidth, BitVec.toNat_setWidth] at this
  rw [ofWord_eq_map, ofWord_eq_map, hmod, h 31 (by decide) (by decide), h 30 (by decide) (by decide),
    h 29 (by decide) (by decide), h 28 (by decide) (by decide), h 7 (by decide) (by decide), h 6 (by decide) (by decide),
    Option.map_map]
  rfl

/-! The SPSR bank (R56). -/

@[simp] theorem setSpsr_waitcnt (c : Cpu32) (m : Mode) (v : Word) : (c.setSpsr m v).waitcnt = c.waitcnt := by
  cases m <;> rfl

theorem setSpsr_none (c : Cpu32) (m : Mode) (v : Word) (h : m = .usr ∨ m = .sys) : c.setSpsr m v = c := by
  obtain rfl | rfl := h <;> rfl

theorem spsr_setSpsr_same (c : Cpu32) {m : Mode} (v : Word) (hu : m ≠ .usr) (hs : m ≠ .sys) :
    (c.setSpsr m v).spsr? m = some (v &&& 0xF00000FF#32) := by
  rw [spsr_setSpsr]
  cases m with
  | usr => exact absurd rfl hu
  | sys => exact absurd rfl hs
  | _ => rfl

theorem spsr_setSpsr_ne (c : Cpu32) {m m' : Mode} (v : Word) (h : m' ≠ m) : (c.setSpsr m v).spsr? m' = c.spsr? m' := by
  cases m <;> cases m' <;> simp [Cpu32.setSpsr, Cpu32.spsr?] at h ⊢

theorem setSpsr_frame (c : Cpu32) (m : Mode) (v : Word) : ∃ d, c.setSpsr m v = d ∧ d = { c with
    spsrFiq := d.spsrFiq, spsrIrq := d.spsrIrq, spsrSvc := d.spsrSvc, spsrAbt := d.spsrAbt, spsrUnd := d.spsrUnd } := by
  refine ⟨_, rfl, ?_⟩
  cases m <;> rfl

theorem sameFetch_setSpsr (c : Cpu32) (m : Mode) (v : Word) : SameFetch (c.setSpsr m v) c :=
  ⟨setSpsr_pc c m v, by rw [setSpsr_cpsr], setSpsr_waitcnt c m v⟩

/-! MSR. -/

theorem fieldMask_bit : ∀ (fields : BitVec 4) (k : Nat), k < 32 →
    (fieldMask fields).getLsbD k = fields.getLsbD (k / 8) := by decide

/-- The bits WritePSR replaces (R540). -/
def psrWriteMask (spsr : Bool) (fields : BitVec 4) (m : Mode) : Word :=
  if spsr = false ∧ m = .usr then fieldMask fields &&& 0xFF000000#32 else fieldMask fields

theorem psrWriteMask_bit {spsr : Bool} {fields : BitVec 4} {m : Mode} {k : Nat} (hk : k < 32) :
    (psrWriteMask spsr fields m).getLsbD k =
      (fields.getLsbD (k / 8) && (spsr || decide (m ≠ .usr) || decide (24 ≤ k))) := by
  have htop : ∀ k, k < 32 → (0xFF000000#32).getLsbD k = decide (24 ≤ k) := by decide
  unfold psrWriteMask
  split
  · rename_i h
    rw [BitVec.getLsbD_and, fieldMask_bit _ k hk, htop k hk, h.1, h.2]
    rfl
  · rename_i h
    rw [fieldMask_bit _ k hk]
    cases spsr with
    | true => rw [Bool.true_or, Bool.true_or, Bool.and_true]
    | false =>
      have hm : m ≠ .usr := fun e => h ⟨rfl, e⟩
      rw [decide_eq_true hm, Bool.or_true, Bool.true_or, Bool.and_true]

theorem eq_psrWriteMask {spsr : Bool} {fields : BitVec 4} {m : Mode} {mask : Word}
    (h : ∀ k, k < 32 → mask.getLsbD k = (fields.getLsbD (k / 8) && (spsr || decide (m ≠ .usr) || decide (24 ≤ k)))) :
    mask = psrWriteMask spsr fields m :=
  BitVec.eq_of_getLsbD_eq fun k hk => (h k hk).trans (psrWriteMask_bit hk).symm

theorem writePsr_cpsr (fields : BitVec 4) (v : Word) (s : State) :
    writePsr false fields v s =
      (Psr.ofWord? (replaceBits s.cpu32.cpsr.toWord v (psrWriteMask false fields s.cpu32.cpsr.mode))).elim
        (unpredictable .invalidMode s) fun p => .next (setPsr (fun old => { p with t := old.t }) s) := by
  simp only [writePsr, psrWriteMask, Bool.false_eq_true, if_false, true_and]
  generalize Psr.ofWord? _ = p
  cases p <;> rfl

/-- MSR into CPSR, with the new word as R540 describes it: bit 5, T, is never replaced. -/
theorem writePsr_cpsr_of_word {fields : BitVec 4} {v w : Word} {s : State}
    (hw : ∀ k, k < 32 → w.getLsbD k =
      if (psrWriteMask false fields s.cpu32.cpsr.mode).getLsbD k ∧ k ≠ 5 then v.getLsbD k
      else s.cpu32.cpsr.toWord.getLsbD k) :
    writePsr false fields v s =
      (Psr.ofWord? w).elim (unpredictable .invalidMode s) fun p => .next (setPsr (fun _ => p) s) := by
  generalize hmask : psrWriteMask false fields s.cpu32.cpsr.mode = mask at hw
  have hsame : ∀ k, k < 32 → k ≠ 5 → w.getLsbD k = (replaceBits s.cpu32.cpsr.toWord v mask).getLsbD k := by
    intro k hk h5
    rw [hw k hk, replaceBits, BitVec.getLsbD_or, BitVec.getLsbD_and, BitVec.getLsbD_and, BitVec.getLsbD_not]
    cases mask.getLsbD k <;> simp [hk, h5]
  have ht : w.getLsbD 5 = s.cpu32.cpsr.t := by
    rw [hw 5 (by decide), if_neg (fun h => h.2 rfl), toWord_t]
  rw [writePsr_cpsr, hmask, ofWord_congr hsame, ht]
  cases Psr.ofWord? (replaceBits s.cpu32.cpsr.toWord v mask) <;> rfl

theorem writePsr_spsr {fields : BitVec 4} {v old : Word} {s : State} (h : s.cpu32.spsr? s.cpu32.cpsr.mode = some old) :
    writePsr true fields v s = .next (on32 (fun c => c.setSpsr c.cpsr.mode
      (replaceBits old v (psrWriteMask true fields s.cpu32.cpsr.mode))) s) := by
  simp only [writePsr, h, if_true]
  rfl

theorem writePsr_noSpsr {fields : BitVec 4} {v : Word} {s : State} (h : s.cpu32.spsr? s.cpu32.cpsr.mode = none) :
    writePsr true fields v s = unpredictable .noSpsr s := by
  simp only [writePsr, h, if_true]

/-- An SPSR that a write has stored has no reserved bit. -/
theorem spsr_setSpsr_reserved {c : Cpu32} {m : Mode} {v w : Word} (h : (c.setSpsr m v).spsr? m = some w) :
    w &&& 0x0FFFFF00#32 = 0#32 := by
  rw [spsr_setSpsr, Option.map_eq_some_iff] at h
  obtain ⟨-, -, rfl⟩ := h
  rw [BitVec.and_assoc, show psrMask &&& 0x0FFFFF00#32 = 0#32 from rfl]
  exact BitVec.and_zero

/-! The rows. -/

theorem exec_armMrs (o : MrsOps) (s : State) : exec (.armMrs o) s = moveFromPsr o s := rfl

theorem exec_armMsrReg (o : MsrRegOps) (s : State) : exec (.armMsrReg o) s = moveToPsrReg o s := rfl

theorem exec_armMsrImm (o : MsrImmOps) (s : State) : exec (.armMsrImm o) s = moveToPsrImm o s := rfl

theorem exec_armMrs_pass {o : MrsOps} {s : State} (hc : CondHolds o.cond s.cpu32.cpsr) (hrd : o.rd ≠ 15#4)
    (hsbz : o.sbz = 0#12) :
    exec (.armMrs o) s = if o.spsr then
        (s.cpu32.spsr? s.cpu32.cpsr.mode).elim (unpredictable .noSpsr s) fun v => retire 0 (writeReg o.rd v s)
      else retire 0 (writeReg o.rd s.cpu32.cpsr.toWord s) := by
  rw [exec_armMrs, moveFromPsr, ifCond_pass ((condPasses_iff _ _).mpr hc), if_neg hrd, if_neg (not_not.mpr hsbz)]
  cases s.cpu32.spsr? s.cpu32.cpsr.mode <;> rfl

theorem exec_armMsrReg_pass {o : MsrRegOps} {s : State} (hc : CondHolds o.cond s.cpu32.cpsr) (hrm : o.rm ≠ 15#4)
    (hsbz : o.sbz = 0#8) :
    exec (.armMsrReg o) s = thenRes (writePsr o.spsr o.fields (readReg o.rm s) s) (retire 0) := by
  rw [exec_armMsrReg, moveToPsrReg, ifCond_pass ((condPasses_iff _ _).mpr hc), if_neg hrm, if_neg (not_not.mpr hsbz)]

theorem exec_armMsrImm_pass {o : MsrImmOps} {s : State} (hc : CondHolds o.cond s.cpu32.cpsr) :
    exec (.armMsrImm o) s =
      thenRes (writePsr o.spsr o.fields (rotatedImm o.op2 s.cpu32.cpsr.c).1 s) (retire 0) := by
  rw [exec_armMsrImm, moveToPsrImm, ifCond_pass ((condPasses_iff _ _).mpr hc)]

/-- Settles O27: MRS reads a status word, and MSR is `writePsr` with the mask of R540. -/
theorem armPsrTransfer : Obligations.ArmPsrTransfer := by
  refine ⟨fun o s hc hrd hsbz => ⟨fun hs => ?_, fun hs v hv => ?_, fun hs hn => ?_⟩,
    fun i cond spsr fields v mask s hform hc hmask => ?_, fun o s hc => ⟨fun h => ?_, fun hrd h => ?_⟩,
    fun o s hc => ⟨fun h => ?_, fun hrm h => ?_⟩, ofWord_isSome, fun w p => ofWord_fields, ofWord_toWord,
    fun c m v => ⟨by cases m <;> rfl, setSpsr_none c m v, spsr_setSpsr_same c v, fun m' => spsr_setSpsr_ne c v,
      setSpsr_frame c m v⟩⟩
  · rw [exec_armMrs_pass hc hrd hsbz, hs]
    exact retire_writeReg o.rd _ s 0
  · rw [exec_armMrs_pass hc hrd hsbz, hs, hv]
    exact retire_writeReg o.rd v s 0
  · rw [exec_armMrs_pass hc hrd hsbz, hs, hn]
    rfl
  · have hexec : exec i s = thenRes (writePsr spsr fields v s) (retire 0) := by
      obtain ⟨o, rfl, rfl, rfl, rfl, hsbz, hrm, rfl⟩ | ⟨o, rfl, rfl, rfl, rfl, rfl⟩ := hform
      · exact exec_armMsrReg_pass hc hrm hsbz
      · exact exec_armMsrImm_pass hc
    rw [hexec, eq_psrWriteMask hmask]
    refine ⟨?_, ?_, ?_⟩
    · rintro rfl w hw
      rw [writePsr_cpsr_of_word hw]
      refine ⟨fun p hp => ?_, fun hn => ?_⟩
      · obtain ⟨-, -, -, -, -, -, -, ht⟩ := ofWord_fields hp
        rw [hw 5 (by decide), if_neg (fun h => h.2 rfl), toWord_t] at ht
        rw [hp]
        exact retire_withCpu32 (c := { s.cpu32 with cpsr := p }) ⟨rfl, ht, rfl⟩ 0
      · rw [hn]
        rfl
    · rintro rfl old hold
      rw [writePsr_spsr hold]
      refine ⟨_, retire_withCpu32 (sameFetch_setSpsr s.cpu32 _ _) 0, rfl, fun w hw => ?_⟩
      exact spsr_setSpsr_reserved (c := s.cpu32) hw
    · rintro rfl hn
      rw [writePsr_noSpsr hn]
      rfl
  · rw [exec_armMrs, moveFromPsr, ifCond_pass ((condPasses_iff _ _).mpr hc), if_pos h]
    rfl
  · rw [exec_armMrs, moveFromPsr, ifCond_pass ((condPasses_iff _ _).mpr hc), if_neg hrd, if_pos h]
    rfl
  · rw [exec_armMsrReg, moveToPsrReg, ifCond_pass ((condPasses_iff _ _).mpr hc), if_pos h]
    rfl
  · rw [exec_armMsrReg, moveToPsrReg, ifCond_pass ((condPasses_iff _ _).mpr hc), if_neg hrm, if_pos h]
    rfl

end Sys2Proof.Proofs
end

section
/-! PROOFS. An exception return undoes the entry (R742, R743, R747). -/

namespace Sys2Proof.Proofs

open Sys2Proof.Machine Sys2Proof.Claims

/-- The CPU-32 half after the entry of an SWI (R742, R743). -/
def svcEntry (c : Cpu32) (ret : Word) : Cpu32 :=
  { c.setRegIn .svc 14#4 ret with
    pc := 0x08#32, cpsr := { c.cpsr with mode := .svc, t := false, i := true }, spsrSvc := c.cpsr.toWord }

theorem enterException_svc (ret : Word) (s : State) :
    enterException .svc 0x08#32 ret s = { s with cpu32 := svcEntry s.cpu32 ret } := by
  have hstored : enterException .svc 0x08#32 ret s =
      { s with cpu32 := { svcEntry s.cpu32 ret with spsrSvc := s.cpu32.cpsr.toWord &&& psrMask } } := rfl
  rw [hstored, toWord_masked]
  rfl

theorem exec_swi {i : Instr} {ret : Word} {s : State}
    (h : (∃ o : SwiOps, i = .armSwi o ∧ CondHolds o.cond s.cpu32.cpsr ∧ s.cpu32.cpsr.t = false ∧ ret = s.cpu32.pc + 4) ∨
      (∃ n : Byte, i = .thumbSwi n ∧ s.cpu32.cpsr.t = true ∧ ret = s.cpu32.pc + 2)) :
    ∃ n, exec i s = .next { s with cpu32 := svcEntry s.cpu32 ret, cycles := n } := by
  have henter : ∃ n, enterAt .svc 0x08#32 ret s = .next { s with cpu32 := svcEntry s.cpu32 ret, cycles := n } := by
    rw [enterAt, enterException_svc]
    exact ⟨_, rfl⟩
  obtain ⟨n, henter⟩ := henter
  refine ⟨n, ?_⟩
  obtain ⟨o, rfl, hc, -, rfl⟩ | ⟨n, rfl, -, rfl⟩ := h
  · rw [← henter]
    exact ifCond_pass (body := fun s => enterAt .svc 0x08#32 (s.cpu32.pc + 4) s) ((condPasses_iff _ _).mpr hc)
  · exact henter

/-- An address that is a multiple of 4 is an ARM PC as it stands (R53). -/
theorem aligned_false_of_fourth {v : Word} (h : v &&& 3#32 = 0#32) : aligned false v = v := by
  have hsplit : v &&& (0xFFFFFFFC#32 ||| 3#32) = v := BitVec.and_allOnes
  rw [BitVec.and_or_distrib_left, h, BitVec.or_zero] at hsplit
  exact hsplit

/-- The address after an SWI is a PC of the state that ran it (R53). -/
theorem aligned_of_swi {i : Instr} {ret : Word} {s : State}
    (h : (∃ o : SwiOps, i = .armSwi o ∧ CondHolds o.cond s.cpu32.cpsr ∧ s.cpu32.cpsr.t = false ∧ ret = s.cpu32.pc + 4) ∨
      (∃ n : Byte, i = .thumbSwi n ∧ s.cpu32.cpsr.t = true ∧ ret = s.cpu32.pc + 2))
    (hpc : s.cpu32.pcAligned) : aligned s.cpu32.cpsr.t ret = ret := by
  obtain ⟨-, -, -, ht, rfl⟩ | ⟨-, -, ht, rfl⟩ := h
  · rw [Cpu32.pcAligned, ht] at hpc
    rw [ht]
    exact aligned_false_of_fourth (and_three_add_four hpc)
  · rw [Cpu32.pcAligned, ht] at hpc
    rw [ht]
    exact aligned_true_of_even (even_add hpc (by decide))

/-- MOVS PC, LR. -/
def movsPcLr : Instr :=
  .armMovShift { cond := .al, s := true, rn := 0#4, rd := 15#4 } { amount := 0#5, kind := .lsl, rm := 14#4 }

/-- MOVS PC, LR is the exception return to LR (R505, R747). -/
theorem exec_movsPcLr (s : State) : exec movsPcLr s = returnTo (readReg 14#4 s) s := by
  have hform : DpForm .mov { cond := .al, s := true, rn := 0#4, rd := 15#4 } s movsPcLr (readReg 0#4 s)
      (readReg 14#4 s) s.cpu32.cpsr.c 0 :=
    .inr (.inl ⟨{ amount := 0#5, kind := .lsl, rm := 14#4 }, rfl, rfl, rfl, rfl⟩)
  have hmov : ¬ isTest .mov := by rintro (h | h | h | h) <;> cases h
  rw [exec_of_dpForm hform trivial, dpOf_of_not_isTest hmov,
    dpFinish_toPc 0 hmov (fun _ => rfl) rfl (r := readReg 14#4 s) rfl]
  rfl

/-- Settles O30: the return reads LR_svc and SPSR_svc as the entry left them. -/
theorem exceptionReturnUndoesEntry : Obligations.ExceptionReturnUndoesEntry := by
  intro i ret s h hpc
  obtain ⟨n, hswi⟩ := exec_swi h
  generalize ht : { s with cpu32 := svcEntry s.cpu32 ret, cycles := n } = t at hswi
  have hlr : readReg 14#4 t = ret := by
    subst ht
    exact regIn_setRegIn_same s.cpu32 .svc 14#4 ret
  have hspsr : t.cpu32.spsr? t.cpu32.cpsr.mode = some s.cpu32.cpsr.toWord := by
    subst ht
    rfl
  obtain ⟨u, hret, hu⟩ := returnTo_restores ret hspsr (ofWord_toWord _)
  refine ⟨t, u, hswi, ?_, ?_⟩
  · have hmovs := exec_movsPcLr t
    rwa [hlr, hret] at hmovs
  · rw [aligned_of_swi h hpc, ← ht] at hu
    exact hu

end Sys2Proof.Proofs
end

section
/-! PROOFS. The ARM single loads (R560 to R569). -/

namespace Sys2Proof.Proofs

open Sys2Proof.Machine Sys2Proof.Claims

/-! What data reads leave (R104). -/

/-- What the data reads of an instruction change at most: the cycles, the last access, the draws and the EEPROM's
output bits. -/
def LoadsTo (s t : State) : Prop :=
  ∃ draws eout last cycles, t = { s with
    draws := draws, cycles := cycles
    cpu32 := { s.cpu32 with lastAccess := last, save := { s.cpu32.save with eout := eout } } }

theorem loadData_loadsTo (seq : Bool) (w : Width) (a : Word) (s : State) : LoadsTo s (loadData seq w a s).2 := by
  obtain ⟨d, e, h⟩ := loadData_readsTo seq w a s
  exact ⟨d, e, _, _, h⟩

theorem loadValue_loadsTo (k : LoadKind) (a : Word) (s : State) : LoadsTo s (loadValue k a s).2 := by
  cases k with
  | signedHalf =>
    unfold loadValue
    dsimp only
    split
    · exact loadData_loadsTo false .byte a s
    · exact loadData_loadsTo false .half a s
  | word => exact loadData_loadsTo false .word a s
  | unsignedByte => exact loadData_loadsTo false .byte a s
  | signedByte => exact loadData_loadsTo false .byte a s
  | unsignedHalf => exact loadData_loadsTo false .half a s

/-- A code fetch costs the same in two states that fetch alike (R830). -/
theorem sCost_congr {s t : State} (h : SameFetch t.cpu32 s.cpu32) : sCost t = sCost s := by
  obtain ⟨hp, ht, hw⟩ := h
  rw [← codeCost_true_eq_sCost, ← codeCost_true_eq_sCost]
  exact codeCost_congr true hw hp ht

theorem LoadsTo.sCost_eq {s t : State} (h : LoadsTo s t) : sCost t = sCost s := by
  obtain ⟨d, e, l, n, rfl⟩ := h
  exact sCost_congr ⟨rfl, rfl, rfl⟩

/-! The rows. -/

theorem halfImm_offset (o : HalfImm) : HalfImm.offset o = BitVec.ofNat 32 (o.hi.toNat * 16 + o.lo.toNat) := by
  have hlo := o.lo.isLt
  apply BitVec.eq_of_toNat_eq
  rw [HalfImm.offset, BitVec.toNat_setWidth, BitVec.toNat_append, BitVec.toNat_ofNat,
    ← Nat.shiftLeft_add_eq_or_of_lt hlo, Nat.shiftLeft_eq]

theorem halfChecked_allowed {ix : Index} {body : State → Res} {s : State} (hpost : ¬ (ix.pre = false ∧ ix.wb = true))
    (hrd : ix.rd ≠ 15#4) : halfChecked ix body s = body s := by
  rw [halfChecked, if_neg hpost, if_neg hrd]

theorem writesBack_iff (ix : Index) : Index.writesBack ix = true ↔ writesBack ix := by
  rw [Index.writesBack, Bool.or_eq_true, Bool.not_eq_true']
  rfl

/-- LDR and LDRB, in both forms of the offset (R560). -/
theorem exec_of_wordOffset {k : LoadKind} {imm : XferImm → Instr} {reg : XferReg → Instr} {s : State} {ix : Index}
    {offset : Word} {i : Instr} (h : WordOffset s ix offset imm reg i) (hc : CondHolds ix.cond s.cpu32.cpsr)
    (hrd : k = .unsignedByte → ix.rd ≠ 15#4) (himm : ∀ o, exec (imm o) s = loadSingleImm k o s)
    (hreg : ∀ o, exec (reg o) s = loadSingleReg k o s) : exec i s = loadIndexed k ix offset s := by
  have hbyte : ¬ (k = .unsignedByte ∧ ix.rd = 15#4) := fun ⟨hk, he⟩ => hrd hk he
  rw [← condPasses_iff] at hc
  obtain ⟨o, rfl, rfl, rfl⟩ | ⟨o, rfl, rfl, hrm, rfl⟩ := h
  · rw [himm, loadSingleImm, ifCond_pass hc, loadSingle, if_neg hbyte]
  · rw [hreg, loadSingleReg, ifCond_pass hc, if_neg hrm, loadSingle, if_neg hbyte]
    rfl

/-- The halfword and signed loads, in both forms of the offset (R565). -/
theorem exec_of_halfOffset {k : LoadKind} {imm : HalfImm → Instr} {reg : HalfReg → Instr} {s : State} {ix : Index}
    {offset : Word} {i : Instr} (h : HalfOffset s ix offset imm reg i) (hc : CondHolds ix.cond s.cpu32.cpsr)
    (himm : ∀ o, exec (imm o) s = loadHalfImm k o s) (hreg : ∀ o, exec (reg o) s = loadHalfReg k o s) :
    exec i s = loadIndexed k ix offset s := by
  rw [← condPasses_iff] at hc
  obtain ⟨hpost, hrd, ⟨o, rfl, rfl, rfl⟩ | ⟨o, rfl, rfl, hrm, rfl⟩⟩ := h
  · rw [himm, loadHalfImm, ifCond_pass hc, halfChecked_allowed hpost hrd, halfImm_offset]
  · rw [hreg, loadHalfReg, ifCond_pass hc, halfChecked_allowed hpost hrd, if_neg hrm]

/-- Every row of the single loads is `loadIndexed` once its own restrictions are met (R560, R562, R565). -/
theorem exec_of_loadForm {k : LoadKind} {s : State} {ix : Index} {offset : Word} {i : Instr}
    (h : LoadForm k s ix offset i) (hc : CondHolds ix.cond s.cpu32.cpsr) : exec i s = loadIndexed k ix offset s := by
  cases k with
  | word => exact exec_of_wordOffset h hc nofun (fun _ => rfl) (fun _ => rfl)
  | unsignedByte => exact exec_of_wordOffset h.1 hc (fun _ => h.2) (fun _ => rfl) (fun _ => rfl)
  | unsignedHalf => exact exec_of_halfOffset h hc (fun _ => rfl) (fun _ => rfl)
  | signedByte => exact exec_of_halfOffset h hc (fun _ => rfl) (fun _ => rfl)
  | signedHalf => exact exec_of_halfOffset h hc (fun _ => rfl) (fun _ => rfl)

theorem loadIndexed_allowed {k : LoadKind} {ix : Index} {offset v : Word} {s s1 : State}
    (hwb : writesBack ix → ix.rn ≠ 15#4 ∧ ix.rn ≠ ix.rd) (hv : loadValue k (transferAddr ix offset s) s = (v, s1)) :
    loadIndexed k ix offset s = finishLoad ix.rd v (Index.writeBack ix (offsetAddr ix offset s) s1) := by
  have hbase : ¬ (Index.writesBack ix = true ∧ ix.rn = 15#4) := fun ⟨hw, he⟩ => (hwb ((writesBack_iff ix).mp hw)).1 he
  have hsame : ¬ (Index.writesBack ix = true ∧ ix.rn = ix.rd) := fun ⟨hw, he⟩ => (hwb ((writesBack_iff ix).mp hw)).2 he
  have hread : loadValue k (Index.addr ix offset s) s = (v, s1) := hv
  simp only [loadIndexed, if_neg hbase, if_neg hsame, hread]
  rfl

theorem writeBack_of_writesBack {ix : Index} (h : writesBack ix) (a : Word) (s : State) :
    Index.writeBack ix a s = writeReg ix.rn a s := if_pos ((writesBack_iff ix).mpr h)

theorem writeBack_of_not_writesBack {ix : Index} (h : ¬ writesBack ix) (a : Word) (s : State) :
    Index.writeBack ix a s = s := if_neg (mt (writesBack_iff ix).mp h)

/-! The ending. -/

theorem finishLoad_reg {rd : RegNum} (h : rd ≠ 15#4) (v : Word) (s : State) :
    finishLoad rd v s = .next (past s (setX s rd v) (sCost s + 1)) := by
  rw [finishLoad, if_neg h, retire_writeReg]

theorem finishLoad_pc (v : Word) (s : State) :
    finishLoad 15#4 v s =
      .next (jumped s s.cpu32 (if s.params.interwork then v.getLsbD 0 else s.cpu32.cpsr.t) v 1) :=
  writePcValue_charge s v 1

/-- LDR into R15 leaves the base's slot as its indexing says, whether or not it writes back. -/
theorem writeBack_of_loadsTo {ix : Index} {a : Word} {s s1 : State} (h : LoadsTo s s1) :
    Index.writeBack ix a s1 = { s1 with cpu32 := { s1.cpu32 with
      slots := if ix.pre = true ∧ ix.wb = false then s.cpu32.slots else (setX s ix.rn a).slots } } := by
  obtain ⟨d, e, l, n, rfl⟩ := h
  by_cases hw : writesBack ix
  · have hneg : ¬ (ix.pre = true ∧ ix.wb = false) := by
      rintro ⟨hp, hb⟩
      obtain h | h := hw
      · rw [hp] at h
        cases h
      · rw [hb] at h
        cases h
    rw [writeBack_of_writesBack hw, if_neg hneg]
    rfl
  · have hpos : ix.pre = true ∧ ix.wb = false := by
      rw [writesBack, not_or, Bool.not_eq_false, Bool.not_eq_true] at hw
      exact hw
    rw [writeBack_of_not_writesBack hw, if_pos hpos]

/-- Settles O32: each row is `loadIndexed`, which reads, writes the base back and ends in `finishLoad`. -/
theorem armLoads : Obligations.ArmLoads := by
  refine ⟨fun k ix offset v i s s1 hform hc hrd hwb hv => ?_, fun ix offset v i s s1 hform hc hrd hwb hv => ?_⟩
  · have hloads : LoadsTo s s1 := by
      have h := loadValue_loadsTo k (transferAddr ix offset s) s
      rwa [hv] at h
    have hexec := (exec_of_loadForm hform hc).trans (loadIndexed_allowed hwb hv)
    rw [finishLoad_reg hrd] at hexec
    refine ⟨fun hw => ?_, fun hw => ?_⟩
    · rw [hexec, writeBack_of_writesBack hw]
      obtain ⟨d, e, l, n, rfl⟩ := hloads
      rfl
    · rw [hexec, writeBack_of_not_writesBack hw, hloads.sCost_eq]
  · have hloads : LoadsTo s s1 := by
      have h := loadValue_loadsTo .word (transferAddr ix offset s) s
      rwa [hv] at h
    have hbase : writesBack ix → ix.rn ≠ 15#4 ∧ ix.rn ≠ ix.rd := fun hw => ⟨hwb hw, hrd.symm ▸ hwb hw⟩
    rw [exec_of_loadForm hform hc, loadIndexed_allowed hbase hv, hrd, writeBack_of_loadsTo hloads, finishLoad_pc]
    obtain ⟨d, e, l, n, rfl⟩ := hloads
    rfl

end Sys2Proof.Proofs
end

section
/-! PROOFS. The registers a block transfer names, and its words (R102, R103, R580). -/

namespace Sys2Proof.Proofs

open Sys2Proof.Machine Sys2Proof.Claims

/-! The list. -/

theorem flag_toNat (list : BitVec 16) (k : Nat) : flag list.toNat k = list.getLsbD k := by
  rw [flag, bits, BitVec.getLsbD, Nat.testBit_eq_decide_div_mod_eq, Nat.add_sub_cancel_left, Nat.pow_one]

/-- The indices a list names below n, ascending. -/
def listedBelow (list : BitVec 16) (n : Nat) : List Nat := (List.range n).filter fun k => list.getLsbD k

theorem listedRegs_eq (list : BitVec 16) : listedRegs list.toNat = (listedBelow list 16).map fun k => BitVec.ofNat 4 k := by
  simp only [listedRegs, listedBelow, flag_toNat]

theorem length_listedRegs (list : BitVec 16) : (listedRegs list.toNat).length = listCount list := by
  rw [listedRegs_eq, List.length_map]
  rfl

theorem mem_listedRegs {list : BitVec 16} {i : RegNum} : i ∈ listedRegs list.toNat ↔ list.getLsbD i.toNat = true := by
  rw [listedRegs_eq, List.mem_map]
  simp only [listedBelow, List.mem_filter, List.mem_range]
  constructor
  · rintro ⟨k, ⟨hk, hl⟩, rfl⟩
    rwa [BitVec.toNat_ofNat, Nat.mod_eq_of_lt hk]
  · exact fun h => ⟨i.toNat, ⟨i.isLt, h⟩, (BitVec.ofNat_toNat _ i).trans (BitVec.setWidth_eq i)⟩

/-- R15, the highest register, stands last in a list (R580). -/
theorem listedRegs_split (list : BitVec 16) : ∃ regs, 15#4 ∉ regs ∧
    listedRegs list.toNat = regs ++ if list.getLsbD 15 then [15#4] else [] := by
  refine ⟨(listedBelow list 15).map fun k => BitVec.ofNat 4 k, ?_, ?_⟩
  · intro h
    obtain ⟨k, hk, he⟩ := List.mem_map.mp h
    have hlt := List.mem_range.mp (List.mem_filter.mp hk).1
    have := congrArg BitVec.toNat he
    rw [BitVec.toNat_ofNat, Nat.mod_eq_of_lt (by omega)] at this
    exact absurd this (by simp only [BitVec.toNat_ofNat]; omega)
  · rw [listedRegs_eq, listedBelow, List.range_succ, List.filter_append, List.map_append]
    cases h : list.getLsbD 15 <;> simp only [List.filter_cons, List.filter_nil, h] <;> rfl

theorem nodup_listedRegs (list : BitVec 16) : (listedRegs list.toNat).Nodup := by
  rw [listedRegs_eq]
  refine List.Nodup.map_on ?_ (List.nodup_range.filter _)
  intro a ha b hb h
  have ha' := List.mem_range.mp (List.mem_filter.mp ha).1
  have hb' := List.mem_range.mp (List.mem_filter.mp hb).1
  have := congrArg BitVec.toNat h
  rwa [BitVec.toNat_ofNat, BitVec.toNat_ofNat, Nat.mod_eq_of_lt ha', Nat.mod_eq_of_lt hb'] at this

/-- The j-th register of a list stands at place j (R580). -/
theorem getElem?_listedRegs {list : BitVec 16} {j : Nat} {i : RegNum} (h : Listed list j i) :
    (listedRegs list.toNat)[j]? = some i := by
  obtain ⟨hi, hj⟩ := h
  have hsplit : List.range 16 = List.range i.toNat ++ i.toNat :: (List.range (15 - i.toNat)).map (i.toNat + 1 + ·) := by
    have hlt := i.isLt
    have h16 : 16 = i.toNat + ((15 - i.toNat) + 1) := by omega
    rw [h16, List.range_add, List.range_succ_eq_map]
    simp [Function.comp_def]
    omega
  rw [listedRegs_eq, List.getElem?_map, listedBelow, hsplit, List.filter_append, List.filter_cons_of_pos hi, ← hj]
  simp

/-! A word of core memory. -/

theorem alignTo_word_toNat (a : Word) : (alignTo .word a).toNat = a.toNat / 4 * 4 := by
  have hmask : ∀ k, k < 32 → (~~~3#32).getLsbD k = decide (2 ≤ k) := by decide
  have h : alignTo .word a = a >>> 2 <<< 2 := by
    apply BitVec.eq_of_getLsbD_eq
    intro k hk
    rw [alignTo, BitVec.getLsbD_and, hmask k hk, BitVec.getLsbD_shiftLeft, BitVec.getLsbD_ushiftRight]
    by_cases h2 : 2 ≤ k
    · simp [hk, h2, Nat.not_lt.mpr h2]
    · simp [h2, Nat.lt_of_not_le h2]
  rw [h, BitVec.toNat_shiftLeft, BitVec.toNat_ushiftRight, Nat.shiftRight_eq_div_pow, Nat.shiftLeft_eq]
  have := a.isLt
  omega

theorem alignTo_word_alignTo_word (a : Word) : alignTo .word (alignTo .word a) = alignTo .word a := by
  apply BitVec.eq_of_toNat_eq
  rw [alignTo_word_toNat, alignTo_word_toNat, Nat.mul_div_cancel _ (by decide)]

/-- Aligning an address does not change its region (R103, R120). -/
theorem region_alignTo_word (a : Word) : region (alignTo .word a) = region a := by
  have hdiv : a.toNat / 4 * 4 / 0x1000000 = a.toNat / 0x1000000 := by omega
  have hbios : a.toNat / 4 * 4 < 0x4000 ↔ a.toNat < 0x4000 := by omega
  have hio : a.toNat / 4 * 4 < 0x4000400 ↔ a.toNat < 0x4000400 := by omega
  simp only [region, alignTo_word_toNat, hdiv, hbios, hio]

theorem accessCost_alignTo_word (seq : Bool) (a : Word) (s : State) :
    accessCost seq .word (alignTo .word a) s = accessCost seq .word a s := by
  simp only [accessCost, region_alignTo_word]

theorem toNat_append_byte {n : Nat} (x : BitVec n) (b : Byte) : (x ++ b).toNat = x.toNat * 256 + b.toNat := by
  rw [BitVec.toNat_append, ← Nat.shiftLeft_add_eq_or_of_lt b.isLt, Nat.shiftLeft_eq]

theorem readLe_word (m : Memory) (k : Nat) : BitVec.ofNat 32 (Memory.readLe m k 4) =
    Memory.read m (k + 3) ++ Memory.read m (k + 2) ++ Memory.read m (k + 1) ++ Memory.read m k := by
  apply BitVec.eq_of_toNat_eq
  have h0 := (Memory.read m k).isLt
  have h1 := (Memory.read m (k + 1)).isLt
  have h2 := (Memory.read m (k + 2)).isLt
  have h3 := (Memory.read m (k + 3)).isLt
  simp only [Memory.readLe, toNat_append_byte, BitVec.toNat_ofNat, Nat.add_assoc, Nat.reduceAdd]
  omega

theorem memRead_ram {w : Width} {a : Word} {s : State} (h : isRam (region a)) :
    memRead w a s = (ramRead (region a) w a s, s) := by
  unfold memRead
  obtain h | h | h | h | h := h <;> rw [h]

/-- A word read of core memory at an aligned address (R103). -/
theorem memRead_word_ram {a : Word} {s : State} (h : isRam (region a)) :
    memRead .word (alignTo .word a) s = (ramWord s a, s) := by
  rw [memRead_ram (by rwa [region_alignTo_word]), ramRead, region_alignTo_word, alignTo_word_alignTo_word,
    alignTo_word_toNat]
  exact congrArg (·, s) (readLe_word _ _)

end Sys2Proof.Proofs
end

section
/-! PROOFS. Loading a list of registers (R580, R581, R833). -/

namespace Sys2Proof.Proofs

open Sys2Proof.Machine Sys2Proof.Claims

/-! A register's write in a bank, and the base's. -/

/-- `x[i] <- v` through the map of a mode. -/
def putIn (m : Mode) (i : RegNum) (v : Word) (s : State) : State := on32 (fun c => c.setRegIn m i v) s

/-- The base's write, where there is one. -/
def baseWrite (m : Mode) (base : Option (RegNum × Word)) (s : State) : State := base.elim s fun r => putIn m r.1 r.2 s

/-- What a block load changes at most: registers, and what data reads change. -/
def LoadsRegs (s t : State) : Prop := ∃ slots, LoadsTo { s with cpu32 := { s.cpu32 with slots := slots } } t

theorem LoadsTo.loadsRegs {s t : State} (h : LoadsTo s t) : LoadsRegs s t := ⟨s.cpu32.slots, h⟩

theorem LoadsRegs.refl {s : State} : LoadsRegs s s :=
  ⟨s.cpu32.slots, s.draws, s.cpu32.save.eout, s.cpu32.lastAccess, s.cycles, by cases s; rfl⟩

theorem LoadsRegs.trans {s t u : State} (h : LoadsRegs s t) (h' : LoadsRegs t u) : LoadsRegs s u := by
  obtain ⟨x, d, e, l, n, rfl⟩ := h
  obtain ⟨x', d', e', l', n', rfl⟩ := h'
  exact ⟨x', d', e', l', n', rfl⟩

theorem LoadsRegs.mode_eq {s t : State} (h : LoadsRegs s t) : t.cpu32.cpsr.mode = s.cpu32.cpsr.mode := by
  obtain ⟨x, d, e, l, n, rfl⟩ := h
  rfl

theorem LoadsRegs.accessCost_eq {s t : State} (h : LoadsRegs s t) (seq : Bool) (w : Width) (a : Word) :
    accessCost seq w a t = accessCost seq w a s := by
  obtain ⟨x, d, e, l, n, rfl⟩ := h
  rfl

theorem LoadsRegs.ramWord_eq {s t : State} (h : LoadsRegs s t) (a : Word) : ramWord t a = ramWord s a := by
  obtain ⟨x, d, e, l, n, rfl⟩ := h
  rfl

theorem putIn_loadsRegs (m : Mode) (i : RegNum) (v : Word) (s : State) : LoadsRegs s (putIn m i v s) :=
  ⟨(s.cpu32.setRegIn m i v).slots, s.draws, s.cpu32.save.eout, s.cpu32.lastAccess, s.cycles, by cases s; rfl⟩

theorem baseWrite_loadsRegs (m : Mode) (base : Option (RegNum × Word)) (s : State) : LoadsRegs s (baseWrite m base s) := by
  cases base with
  | none => exact LoadsRegs.refl
  | some r => exact putIn_loadsRegs m r.1 r.2 s

theorem LoadsTo.regIn_eq {s t : State} (h : LoadsTo s t) (m : Mode) (i : RegNum) :
    t.cpu32.regIn m i = s.cpu32.regIn m i := by
  obtain ⟨d, e, l, n, rfl⟩ := h
  rfl

theorem baseWrite_regIn_ne {m m' : Mode} {base : Option (RegNum × Word)} {j : RegNum}
    (h : ∀ r ∈ base, slotOf r.1 m ≠ slotOf j m') (s : State) :
    (baseWrite m base s).cpu32.regIn m' j = s.cpu32.regIn m' j := by
  cases base with
  | none => rfl
  | some r => exact regIn_setRegIn_ne s.cpu32 m m' r.1 j r.2 (h r rfl)

@[simp] theorem baseWrite_cycles (m : Mode) (base : Option (RegNum × Word)) (s : State) :
    (baseWrite m base s).cycles = s.cycles := by
  cases base <;> rfl

/-! One word. -/

/-- The state after the data of one word, and after it the base's write where the word is the first (R581). -/
def wordRead (m0 : Mode) (base : Option (RegNum × Word)) (first : Bool) (a : Word) (s : State) : State :=
  let t := (loadData (!first) .word (alignTo .word a) s).2
  if first then baseWrite m0 base t else t

theorem wordRead_loadsRegs (m0 : Mode) (base : Option (RegNum × Word)) (first : Bool) (a : Word) (s : State) :
    LoadsRegs s (wordRead m0 base first a s) := by
  have hread := (loadData_loadsTo (!first) .word (alignTo .word a) s).loadsRegs
  unfold wordRead
  dsimp only
  split
  · exact hread.trans (baseWrite_loadsRegs _ _ _)
  · exact hread

theorem wordRead_cycles (m0 : Mode) (base : Option (RegNum × Word)) (first : Bool) (a : Word) (s : State) :
    (wordRead m0 base first a s).cycles = s.cycles + accessCost (!first) .word a s := by
  have hread : (loadData (!first) .word (alignTo .word a) s).2.cycles = s.cycles + accessCost (!first) .word a s := by
    obtain ⟨d, e, h⟩ := loadData_readsTo (!first) .word (alignTo .word a) s
    rw [h, accessCost_alignTo_word]
    rfl
  unfold wordRead
  dsimp only
  split
  · rw [baseWrite_cycles, hread]
  · exact hread

theorem wordRead_regIn {m0 m' : Mode} {base : Option (RegNum × Word)} {first : Bool} {j : RegNum}
    (h : first = true → ∀ r ∈ base, slotOf r.1 m0 ≠ slotOf j m') (a : Word) (s : State) :
    (wordRead m0 base first a s).cpu32.regIn m' j = s.cpu32.regIn m' j := by
  have hread := (loadData_loadsTo (!first) .word (alignTo .word a) s).regIn_eq m' j
  unfold wordRead
  dsimp only
  split
  · rw [baseWrite_regIn_ne (h ‹_›), hread]
  · exact hread

/-- A list of registers, word by word (R581): R15 ends it. -/
theorem loadRegs_cons (m0 m : Mode) (base : Option (RegNum × Word)) (first : Bool) (i : RegNum) (rest : List RegNum)
    (a : Word) (s : State) :
    loadRegs (putIn m) (baseWrite m0 base) first (i :: rest) a s =
      let v := (loadData (!first) .word (alignTo .word a) s).1
      let t := wordRead m0 base first a s
      if i = 15#4 then (v, t) else loadRegs (putIn m) (baseWrite m0 base) false rest (a + 4) (putIn m i v t) := rfl

/-- The writes of a block load are those of one bank while the mode stays. -/
theorem loadRegs_eq {put : RegNum → Word → State → State} {wb : State → State} {m0 m : Mode}
    {base : Option (RegNum × Word)} (hput : ∀ i v t, t.cpu32.cpsr.mode = m0 → put i v t = putIn m i v t)
    (hwb : ∀ t, t.cpu32.cpsr.mode = m0 → wb t = baseWrite m0 base t) (regs : List RegNum) (first : Bool) (a : Word)
    (s : State) (hs : s.cpu32.cpsr.mode = m0) :
    loadRegs put wb first regs a s = loadRegs (putIn m) (baseWrite m0 base) first regs a s := by
  induction regs generalizing first a s with
  | nil => rfl
  | cons i rest ih =>
    have hread : (loadData (!first) .word (alignTo .word a) s).2.cpu32.cpsr.mode = m0 :=
      ((loadData_loadsTo _ _ _ s).loadsRegs.mode_eq).trans hs
    have hmode := (wordRead_loadsRegs m0 base first a s).mode_eq.trans hs
    have hput1 := fun v => (putIn_loadsRegs m i v (wordRead m0 base first a s)).mode_eq.trans hmode
    have hword : (if first then wb (loadData (!first) .word (alignTo .word a) s).2
        else (loadData (!first) .word (alignTo .word a) s).2) = wordRead m0 base first a s := by
      rw [hwb _ hread]
      rfl
    rw [loadRegs_cons]
    simp only [loadRegs, hword, hput _ _ _ hmode, ih _ _ _ (hput1 _)]

/-! What a block load leaves. -/

theorem loadRegs_loadsRegs (m0 m : Mode) (base : Option (RegNum × Word)) (regs : List RegNum) (first : Bool) (a : Word)
    (s : State) : LoadsRegs s (loadRegs (putIn m) (baseWrite m0 base) first regs a s).2 := by
  induction regs generalizing first a s with
  | nil => exact LoadsRegs.refl
  | cons i rest ih =>
    have hread := wordRead_loadsRegs m0 base first a s
    rw [loadRegs_cons]
    dsimp only
    split
    · exact hread
    · exact (hread.trans (putIn_loadsRegs m i _ _)).trans (ih _ _ _)

/-- A register that is not listed, and is not the base written back, stays. -/
theorem loadRegs_regIn_ne {m0 m m' : Mode} {base : Option (RegNum × Word)} {j : RegNum} (regs : List RegNum)
    (hregs : ∀ i ∈ regs, i ≠ 15#4 → slotOf i m ≠ slotOf j m') (first : Bool)
    (hbase : first = true → ∀ r ∈ base, slotOf r.1 m0 ≠ slotOf j m') (a : Word) (s : State) :
    (loadRegs (putIn m) (baseWrite m0 base) first regs a s).2.cpu32.regIn m' j = s.cpu32.regIn m' j := by
  induction regs generalizing first a s with
  | nil => rfl
  | cons i rest ih =>
    rw [loadRegs_cons]
    dsimp only
    split
    · exact wordRead_regIn hbase a s
    · rename_i hi
      rw [ih (fun k hk => hregs k (List.mem_cons_of_mem i hk)) false nofun]
      exact (regIn_setRegIn_ne _ m m' i j _ (hregs i List.mem_cons_self hi)).trans (wordRead_regIn hbase a s)

/-- The base written back keeps its value where it is not listed (R581). -/
theorem loadRegs_base {m0 m : Mode} {rn : RegNum} {v : Word} {regs : List RegNum} (hne : regs ≠ [])
    (hregs : ∀ i ∈ regs, i ≠ 15#4 → slotOf i m ≠ slotOf rn m0) (a : Word) (s : State) :
    (loadRegs (putIn m) (baseWrite m0 (some (rn, v))) true regs a s).2.cpu32.regIn m0 rn = v := by
  cases regs with
  | nil => exact absurd rfl hne
  | cons i rest =>
    have hword : (wordRead m0 (some (rn, v)) true a s).cpu32.regIn m0 rn = v :=
      regIn_setRegIn_same _ m0 rn v
    rw [loadRegs_cons]
    dsimp only
    split
    · exact hword
    · rename_i hi
      rw [loadRegs_regIn_ne rest (fun k hk => hregs k (List.mem_cons_of_mem i hk)) false nofun]
      exact (regIn_setRegIn_ne _ m m0 i rn _ (hregs i List.mem_cons_self hi)).trans hword

/-! The cost (R833). -/

/-- R15 stands in a list at its end only. -/
def PcLast (regs : List RegNum) : Prop := ∀ pre post, regs = pre ++ 15#4 :: post → post = []

theorem PcLast.tail {i : RegNum} {rest : List RegNum} (h : PcLast (i :: rest)) : PcLast rest :=
  fun pre post he => h (i :: pre) post (by rw [he]; rfl)

theorem PcLast.of_pc {rest : List RegNum} (h : PcLast (15#4 :: rest)) : rest = [] := h [] rest rfl

/-- The cost of n words from an address up: the first access is N where it is the first of all (R833). -/
def wordsCost (first : Bool) (a : Word) (s : State) : Nat → Nat
  | 0 => 0
  | n + 1 => accessCost (!first) .word a s + wordsCost false (a + 4) s n

theorem LoadsRegs.wordsCost_eq {s t : State} (h : LoadsRegs s t) (first : Bool) (a : Word) (n : Nat) :
    wordsCost first a t n = wordsCost first a s n := by
  induction n generalizing first a with
  | zero => rfl
  | succ n ih => rw [wordsCost, wordsCost, h.accessCost_eq, ih]

theorem add_four_mul_succ (a : Word) (j : Nat) : a + 4 + BitVec.ofNat 32 (4 * j) = a + BitVec.ofNat 32 (4 * (j + 1)) := by
  rw [Nat.mul_succ, Nat.add_comm, BitVec.ofNat_add, ← BitVec.add_assoc]
  rfl

theorem wordsCost_false (a : Word) (s : State) (n : Nat) :
    wordsCost false a s n = ((List.range n).map fun j => accessCost true .word (a + BitVec.ofNat 32 (4 * j)) s).sum := by
  induction n generalizing a with
  | zero => rfl
  | succ n ih =>
    rw [wordsCost, ih, List.range_succ_eq_map, List.map_cons, List.sum_cons, List.map_map]
    simp only [add_four_mul_succ, Nat.mul_zero, BitVec.add_zero]
    rfl

theorem wordsCost_true (a : Word) (s : State) (n : Nat) : wordsCost true a s (n + 1) = blockCost a (n + 1) s := by
  rw [wordsCost, wordsCost_false]
  simp only [add_four_mul_succ]
  rfl

theorem loadRegs_cycles (m0 m : Mode) (base : Option (RegNum × Word)) {regs : List RegNum} (hpc : PcLast regs)
    (first : Bool) (a : Word) (s : State) :
    (loadRegs (putIn m) (baseWrite m0 base) first regs a s).2.cycles = s.cycles + wordsCost first a s regs.length := by
  induction regs generalizing first a s with
  | nil => rfl
  | cons i rest ih =>
    rw [loadRegs_cons, List.length_cons, wordsCost, ← Nat.add_assoc, ← wordRead_cycles m0 base first a s]
    dsimp only
    split
    · rename_i hi
      subst hi
      rw [hpc.of_pc]
      rfl
    · have hput := fun v => (wordRead_loadsRegs m0 base first a s).trans (putIn_loadsRegs m i v _)
      rw [ih hpc.tail, (hput _).wordsCost_eq]
      rfl

/-! From core memory. -/

/-- A word loaded from core memory: its value, and nothing changes but the cycles, the last access and the base. -/
theorem loadData_word_ram {a : Word} {s : State} (seq : Bool) (h : isRam (region a)) :
    loadData seq .word (alignTo .word a) s = (ramWord s a,
      recordAccess (alignTo .word a) .word false (charge (accessCost seq .word a s) s)) := by
  rw [loadData, memRead_word_ram h, accessCost_alignTo_word]
  rfl

/-- What a block load from core memory changes at most. -/
def LoadsWords (s t : State) : Prop :=
  ∃ slots last cycles, t = { s with cpu32 := { s.cpu32 with slots := slots, lastAccess := last }, cycles := cycles }

theorem LoadsWords.refl {s : State} : LoadsWords s s := ⟨s.cpu32.slots, s.cpu32.lastAccess, s.cycles, by cases s; rfl⟩

theorem LoadsWords.trans {s t u : State} (h : LoadsWords s t) (h' : LoadsWords t u) : LoadsWords s u := by
  obtain ⟨x, l, n, rfl⟩ := h
  obtain ⟨x', l', n', rfl⟩ := h'
  exact ⟨x', l', n', rfl⟩

theorem putIn_loadsWords (m : Mode) (i : RegNum) (v : Word) (s : State) : LoadsWords s (putIn m i v s) :=
  ⟨(s.cpu32.setRegIn m i v).slots, s.cpu32.lastAccess, s.cycles, by cases s; rfl⟩

theorem wordRead_loadsWords (m0 : Mode) (base : Option (RegNum × Word)) (first : Bool) {a : Word}
    (h : isRam (region a)) (s : State) : LoadsWords s (wordRead m0 base first a s) := by
  have hread : LoadsWords s (loadData (!first) .word (alignTo .word a) s).2 := by
    rw [loadData_word_ram _ h]
    exact ⟨s.cpu32.slots, _, _, rfl⟩
  unfold wordRead
  dsimp only
  split
  · refine hread.trans ?_
    cases base with
    | none => exact LoadsWords.refl
    | some r => exact putIn_loadsWords m0 r.1 r.2 _
  · exact hread

theorem isRam_tail {regs : List RegNum} {a : Word} {i : RegNum}
    (h : ∀ j, j < (i :: regs).length → isRam (region (a + BitVec.ofNat 32 (4 * j)))) :
    isRam (region a) ∧ ∀ j, j < regs.length → isRam (region (a + 4 + BitVec.ofNat 32 (4 * j))) := by
  refine ⟨?_, fun j hj => ?_⟩
  · have h0 := h 0 (Nat.succ_pos _)
    rwa [Nat.mul_zero, BitVec.add_zero] at h0
  · rw [add_four_mul_succ]
    exact h (j + 1) (Nat.succ_lt_succ hj)

theorem loadRegs_loadsWords (m0 m : Mode) (base : Option (RegNum × Word)) (regs : List RegNum) (first : Bool) (a : Word)
    (h : ∀ j, j < regs.length → isRam (region (a + BitVec.ofNat 32 (4 * j)))) (s : State) :
    LoadsWords s (loadRegs (putIn m) (baseWrite m0 base) first regs a s).2 := by
  induction regs generalizing first a s with
  | nil => exact LoadsWords.refl
  | cons i rest ih =>
    obtain ⟨hword, hrest⟩ := isRam_tail h
    have hread := wordRead_loadsWords m0 base first hword s
    rw [loadRegs_cons]
    dsimp only
    split
    · exact hread
    · exact (hread.trans (putIn_loadsWords m i _ _)).trans (ih _ _ hrest _)

/-- Each listed register but R15 takes its word of core memory, in order (R581). -/
theorem loadRegs_word {m0 m : Mode} {base : Option (RegNum × Word)} {regs : List RegNum} (hnd : regs.Nodup)
    (hpc : PcLast regs) (first : Bool) (a : Word)
    (h : ∀ j, j < regs.length → isRam (region (a + BitVec.ofNat 32 (4 * j)))) (s : State) {j : Nat} {i : RegNum}
    (hj : regs[j]? = some i) (hi : i ≠ 15#4) :
    (loadRegs (putIn m) (baseWrite m0 base) first regs a s).2.cpu32.regIn m i =
      ramWord s (a + BitVec.ofNat 32 (4 * j)) := by
  induction regs generalizing first a s j with
  | nil => cases hj
  | cons k rest ih =>
    obtain ⟨hword, hrest⟩ := isRam_tail h
    obtain ⟨hk, hnd'⟩ := List.nodup_cons.mp hnd
    have hk15 : k ≠ 15#4 := by
      rintro rfl
      rw [hpc.of_pc] at hj
      cases j with
      | zero => exact hi (Option.some.inj hj).symm
      | succ j => cases hj
    rw [loadRegs_cons, loadData_word_ram _ hword]
    simp only [if_neg hk15]
    cases j with
    | zero =>
      obtain rfl : k = i := Option.some.inj hj
      have hstay : ∀ r ∈ rest, r ≠ 15#4 → slotOf r m ≠ slotOf k m :=
        fun r hr hr15 he => hk (slotOf_injective m r k hr15 hi he ▸ hr)
      rw [loadRegs_regIn_ne rest hstay false nofun, Nat.mul_zero, BitVec.add_zero]
      exact regIn_setRegIn_same _ m k _
    | succ j =>
      have hsame := (wordRead_loadsRegs m0 base first a s).trans (putIn_loadsRegs m k (ramWord s a) _)
      rw [ih hnd' hpc.tail false (a + 4) hrest _ hj, hsame.ramWord_eq, add_four_mul_succ]

/-- The last word, of R15, is the new PC (R581). -/
theorem loadRegs_pc (m0 m : Mode) (base : Option (RegNum × Word)) {regs : List RegNum} (hpc : 15#4 ∉ regs) (first : Bool)
    (a : Word) (h : isRam (region (a + BitVec.ofNat 32 (4 * regs.length)))) (s : State) :
    (loadRegs (putIn m) (baseWrite m0 base) first (regs ++ [15#4]) a s).1 =
      ramWord s (a + BitVec.ofNat 32 (4 * regs.length)) := by
  induction regs generalizing first a s with
  | nil =>
    rw [List.length_nil, Nat.mul_zero, BitVec.add_zero] at *
    rw [List.nil_append, loadRegs_cons, loadData_word_ram _ h]
    rfl
  | cons k rest ih =>
    have hk15 : k ≠ 15#4 := fun he => hpc (he ▸ List.mem_cons_self)
    rw [List.length_cons, ← add_four_mul_succ] at *
    have hsame := fun v => (wordRead_loadsRegs m0 base first a s).trans (putIn_loadsRegs m k v _)
    rw [List.cons_append, loadRegs_cons]
    simp only [if_neg hk15]
    rw [ih (fun hr => hpc (List.mem_cons_of_mem k hr)) false (a + 4) h, (hsame _).ramWord_eq]

end Sys2Proof.Proofs
end

section
/-! PROOFS. LDM (R580 to R585, R833). -/

namespace Sys2Proof.Proofs

open Sys2Proof.Machine Sys2Proof.Claims

/-! The transfer a block names (R580, R584). -/

theorem mem_blockRegs_of_ne {list : BitVec 16} {i : RegNum} (hi : i ≠ 15#4) :
    i ∈ blockRegs list ↔ list.getLsbD i.toNat = true := by
  unfold blockRegs
  split
  · rename_i h
    subst h
    simp [hi]
  · exact mem_listedRegs

theorem pc_mem_blockRegs {list : BitVec 16} : 15#4 ∈ blockRegs list ↔ list = 0#16 ∨ list.getLsbD 15 = true := by
  unfold blockRegs
  split
  · rename_i h
    exact iff_of_true List.mem_cons_self (.inl h)
  · rename_i h
    rw [or_iff_right h]
    exact mem_listedRegs

theorem length_blockRegs (list : BitVec 16) :
    (blockRegs list).length = if list = 0#16 then 1 else listCount list := by
  unfold blockRegs
  split
  · rfl
  · exact length_listedRegs list

theorem blockRegs_ne_nil (list : BitVec 16) : blockRegs list ≠ [] := by
  unfold blockRegs
  split
  · exact List.cons_ne_nil _ _
  · rename_i h
    intro hnil
    refine h (BitVec.eq_of_getLsbD_eq fun k hk => ?_)
    by_contra hbit
    have hmem : BitVec.ofNat 4 k ∈ listedRegs list.toNat := by
      rw [mem_listedRegs, BitVec.toNat_ofNat, Nat.mod_eq_of_lt hk]
      rwa [BitVec.getLsbD_zero, Bool.not_eq_false] at hbit
    rw [hnil] at hmem
    cases hmem

theorem nodup_blockRegs (list : BitVec 16) : (blockRegs list).Nodup := by
  unfold blockRegs
  split
  · exact List.nodup_singleton _
  · exact nodup_listedRegs list

/-- With R15, the list is other registers and then R15. -/
theorem blockRegs_of_pc {list : BitVec 16} (h : list = 0#16 ∨ list.getLsbD 15 = true) :
    ∃ regs, 15#4 ∉ regs ∧ blockRegs list = regs ++ [15#4] := by
  unfold blockRegs
  split
  · exact ⟨[], List.not_mem_nil, rfl⟩
  · rename_i hne
    obtain ⟨regs, hpc, heq⟩ := listedRegs_split list
    rw [if_pos (h.resolve_left hne)] at heq
    exact ⟨regs, hpc, heq⟩

theorem pcLast_blockRegs (list : BitVec 16) : PcLast (blockRegs list) := by
  intro pre post he
  by_cases h : list = 0#16 ∨ list.getLsbD 15 = true
  · obtain ⟨regs, hpc, heq⟩ := blockRegs_of_pc h
    rw [heq] at he
    cases post using List.reverseRecOn with
    | nil => rfl
    | append_singleton xs x =>
      rw [← List.cons_append, ← List.append_assoc] at he
      obtain ⟨hregs, -⟩ := List.append_inj' he rfl
      exact absurd (hregs ▸ List.mem_append_right pre List.mem_cons_self) hpc
  · have hmem : 15#4 ∈ blockRegs list := he ▸ List.mem_append_right pre List.mem_cons_self
    exact absurd (pc_mem_blockRegs.mp hmem) h

theorem getElem?_blockRegs {list : BitVec 16} {j : Nat} {i : RegNum} (h : Listed list j i) :
    (blockRegs list)[j]? = some i := by
  unfold blockRegs
  split
  · rename_i hz
    obtain ⟨hbit, -⟩ := h
    rw [hz, BitVec.getLsbD_zero] at hbit
    cases hbit
  · exact getElem?_listedRegs h

theorem blockSize_eq (list : BitVec 16) : blockSize list = if list = 0#16 then 0x40 else 4 * listCount list := by
  rw [blockSize, length_listedRegs]

theorem blockStart_eq (o : BlockOps) (base : Word) : blockStart o base = blockLow o base (blockSize o.list) := by
  cases hu : o.up <;> cases hp : o.pre <;> simp [blockStart, blockLow, hu, hp]

/-! The transfer of LDM, but for its ending. -/

/-- The bank LDM loads into (R583). -/
def ldmMode (o : BlockOps) (s : State) : Mode := if o.s then .usr else s.cpu32.cpsr.mode

/-- The base LDM writes back, where it does (R581). -/
def ldmBase (o : BlockOps) (s : State) : Option (RegNum × Word) :=
  if o.wb = true ∧ o.rn ∉ blockRegs o.list then some (o.rn, blockNewBase o (readReg o.rn s)) else none

/-- What LDM loads: the last word, and the state after the registers and the base. -/
def ldmLoad (o : BlockOps) (s : State) : Word × State :=
  loadRegs (putIn (ldmMode o s)) (baseWrite s.cpu32.cpsr.mode (ldmBase o s)) true (blockRegs o.list)
    (blockStart o (readReg o.rn s)) s

theorem exec_armLdm {o : BlockOps} {s : State} (h : BlockAllowed o (15#4 ∈ blockRegs o.list) s) :
    exec (.armLdm o) s =
      if 15#4 ∉ blockRegs o.list then retire 1 (ldmLoad o s).2
      else if o.s then returnTo (ldmLoad o s).1 (charge 1 (ldmLoad o s).2)
      else writePcValue (ldmLoad o s).1 (charge 1 (ldmLoad o s).2) := by
  obtain ⟨hc, hrn, hwb, hmode⟩ := h
  have hchecked : ∀ body, blockChecked o (decide (15#4 ∈ blockRegs o.list)) body s = body s := by
    intro body
    have hsw : ¬ (o.s = true ∧ o.wb = true ∧ decide (15#4 ∈ blockRegs o.list) = false) :=
      fun ⟨hs, hw, hn⟩ => of_decide_eq_false hn (hwb hs hw)
    have hpriv : ¬ (o.s = true ∧ (s.cpu32.cpsr.mode = .usr ∨ s.cpu32.cpsr.mode = .sys)) := by
      rintro ⟨hs, he | he⟩
      · exact (hmode hs).1 he
      · exact (hmode hs).2 he
    rw [blockChecked, if_neg hrn, if_neg hsw, if_neg hpriv]
  have hload : loadRegs (if o.s then writeUser else writeReg)
      (fun t => if o.wb = true ∧ o.rn ∉ blockRegs o.list then
        writeReg o.rn (blockNewBase o (readReg o.rn s)) t else t) true (blockRegs o.list)
      (blockStart o (readReg o.rn s)) s = ldmLoad o s := by
    refine loadRegs_eq (fun i v t ht => ?_) (fun t ht => ?_) _ _ _ s rfl
    · unfold ldmMode
      rw [← ht]
      split <;> rfl
    · unfold ldmBase
      rw [← ht]
      split <;> rfl
  have hexec : exec (.armLdm o) s = blockLoad o s := rfl
  rw [hexec, blockLoad, ifCond_pass ((condPasses_iff _ _).mpr hc), hchecked]
  simp only [hload, decide_eq_false_iff_not]

section
variable {o : BlockOps} {s : State}

theorem ldmLoad_loadsRegs (o : BlockOps) (s : State) : LoadsRegs s (ldmLoad o s).2 := loadRegs_loadsRegs _ _ _ _ _ _ s

theorem ldmLoad_cycles (o : BlockOps) (s : State) : (ldmLoad o s).2.cycles =
    s.cycles + blockCost (blockStart o (readReg o.rn s)) (blockRegs o.list).length s := by
  rw [ldmLoad, loadRegs_cycles _ _ _ (pcLast_blockRegs o.list)]
  obtain ⟨n, hn⟩ := Nat.exists_eq_succ_of_ne_zero (mt List.length_eq_zero_iff.mp (blockRegs_ne_nil o.list))
  rw [hn, wordsCost_true]

theorem ldmLoad_base (hrn : o.rn ≠ 15#4) (hwb : o.wb = true) (hl : o.list.getLsbD o.rn.toNat = false) :
    (ldmLoad o s).2.cpu32.regIn s.cpu32.cpsr.mode o.rn = blockNewBase o (readReg o.rn s) := by
  have hnot : o.rn ∉ blockRegs o.list := by
    rw [mem_blockRegs_of_ne hrn, hl]
    exact Bool.false_ne_true
  rw [ldmLoad, ldmBase, if_pos ⟨hwb, hnot⟩]
  refine loadRegs_base (blockRegs_ne_nil o.list) (fun i hi hi15 he => ?_) _ _
  obtain ⟨rfl, -⟩ := (slotOf_eq_iff _ _ _ _ hi15 hrn).mp he
  exact hnot hi

theorem ldmLoad_onlyLoaded (hrn : o.rn ≠ 15#4) : OnlyLoaded o (ldmMode o s) s (ldmLoad o s).2 := by
  intro m' j hj hne
  by_contra hcon
  rw [not_or] at hcon
  obtain ⟨hlisted, hbase⟩ := hcon
  refine hne (loadRegs_regIn_ne _ (fun i hi hi15 he => ?_) true (fun _ r hr he => ?_) _ s)
  · obtain ⟨rfl, -⟩ := (slotOf_eq_iff _ _ _ _ hi15 hj).mp he
    exact hlisted ⟨(mem_blockRegs_of_ne hi15).mp hi, he.symm⟩
  · rw [ldmBase, Option.mem_def, Option.ite_none_right_eq_some] at hr
    obtain ⟨⟨hwb, hnot⟩, hr⟩ := hr
    obtain rfl := Option.some.inj hr
    obtain ⟨rfl, -⟩ := (slotOf_eq_iff _ _ _ _ hrn hj).mp he
    rw [mem_blockRegs_of_ne hrn, Bool.not_eq_true] at hnot
    exact hbase ⟨hwb, hnot, rfl, he.symm⟩

/-- The words of the transfer stand in core memory. -/
def LdmRam (o : BlockOps) (s : State) : Prop := ∀ j, j < (blockRegs o.list).length →
  isRam (region (blockStart o (readReg o.rn s) + BitVec.ofNat 32 (4 * j)))

theorem ldmLoad_loadsWords (h : LdmRam o s) : LoadsWords s (ldmLoad o s).2 := loadRegs_loadsWords _ _ _ _ _ _ h s

theorem ldmLoad_word (h : LdmRam o s) {j : Nat} {i : RegNum} (hj : Listed o.list j i) (hi : i ≠ 15#4) :
    (ldmLoad o s).2.cpu32.regIn (ldmMode o s) i =
      ramWord s (blockStart o (readReg o.rn s) + BitVec.ofNat 32 (4 * j)) :=
  loadRegs_word (nodup_blockRegs o.list) (pcLast_blockRegs o.list) true _ h s (getElem?_blockRegs hj) hi

theorem ldmLoad_pc (h : LdmRam o s) (hpc : o.list = 0#16 ∨ o.list.getLsbD 15 = true) : (ldmLoad o s).1 =
    ramWord s (blockStart o (readReg o.rn s) + BitVec.ofNat 32 (4 * ((blockRegs o.list).length - 1))) := by
  obtain ⟨regs, hnot, heq⟩ := blockRegs_of_pc hpc
  have hlen : (blockRegs o.list).length = regs.length + 1 := by rw [heq, List.length_append, List.length_singleton]
  rw [hlen, Nat.add_sub_cancel, ldmLoad, heq]
  exact loadRegs_pc _ _ _ hnot true _ (h regs.length (hlen ▸ Nat.lt_succ_self _)) s

end

/-! The endings. -/

theorem LoadsRegs.sCost_eq {s t : State} (h : LoadsRegs s t) : sCost t = sCost s := by
  obtain ⟨x, d, e, l, n, rfl⟩ := h
  exact sCost_congr ⟨rfl, rfl, rfl⟩

theorem LoadsRegs.mem_eq {s t : State} (h : LoadsRegs s t) : t.cpu32.mem = s.cpu32.mem := by
  obtain ⟨x, d, e, l, n, rfl⟩ := h
  rfl

theorem LoadsRegs.cpsr_eq {s t : State} (h : LoadsRegs s t) : t.cpu32.cpsr = s.cpu32.cpsr := by
  obtain ⟨x, d, e, l, n, rfl⟩ := h
  rfl

theorem LoadsRegs.pc_eq {s t : State} (h : LoadsRegs s t) : t.cpu32.pc = s.cpu32.pc := by
  obtain ⟨x, d, e, l, n, rfl⟩ := h
  rfl

theorem past_cycles (s : State) (c : Cpu32) (cost : Nat) : (past s c cost).cycles = s.cycles + cost := rfl

theorem aligned_aligned (t : Bool) (v : Word) : aligned t (aligned t v) = aligned t v := by
  cases t
  · exact (BitVec.and_assoc _ _ _).trans rfl
  · exact (BitVec.and_assoc _ _ _).trans rfl

/-- An exception return, with its cost (R58, R835). -/
theorem returnTo_charge {s : State} {w : Word} {p : Psr} (v : Word) (extra : Nat)
    (hw : s.cpu32.spsr? s.cpu32.cpsr.mode = some w) (hp : Psr.ofWord? w = some p) :
    returnTo v (charge extra s) = .next (jumped s { s.cpu32 with cpsr := p } p.t v extra) := by
  have hres : restoreCpsr (charge extra s) = .next (setPsr (fun _ => p) (charge extra s)) :=
    restoreCpsr_eq_next.mpr ⟨w, p, hw, hp, rfl⟩
  simp only [returnTo, hres, thenRes_next, codeCost_true_eq_sCost, refillCost_eq_refill]
  simp only [setPc, charge, on32, setPsr, jumped, Nat.add_assoc]
  rfl

/-- The status after an LDM with R15: the SPSR with S, and otherwise T as the write of PC leaves it (R58, R53). -/
def ldmPsr (o : BlockOps) (p : Psr) (s : State) : Psr :=
  if o.s then p
  else { s.cpu32.cpsr with t := if s.params.interwork then (ldmLoad o s).1.getLsbD 0 else s.cpu32.cpsr.t }

theorem exec_armLdm_pc {o : BlockOps} {p : Psr} {s : State} (h : BlockAllowed o True s)
    (hpc : o.list = 0#16 ∨ o.list.getLsbD 15 = true)
    (hp : o.s = true → ∃ w, s.cpu32.spsr? s.cpu32.cpsr.mode = some w ∧ Psr.ofWord? w = some p) :
    exec (.armLdm o) s = .next (jumped (ldmLoad o s).2 { (ldmLoad o s).2.cpu32 with cpsr := ldmPsr o p s }
      (ldmPsr o p s).t (ldmLoad o s).1 1) := by
  have hmem := pc_mem_blockRegs.mpr hpc
  obtain ⟨hc, hrn, -, hmode⟩ := h
  obtain ⟨slots, d, e, l, n, hs⟩ := ldmLoad_loadsRegs o s
  rw [exec_armLdm ⟨hc, hrn, fun _ _ => hmem, hmode⟩, if_neg (not_not.mpr hmem), ldmPsr]
  cases hs1 : o.s with
  | true =>
    obtain ⟨w, hw, hofw⟩ := hp hs1
    have hw2 : (ldmLoad o s).2.cpu32.spsr? (ldmLoad o s).2.cpu32.cpsr.mode = some w := by
      rw [hs]
      exact hw
    exact returnTo_charge _ 1 hw2 hofw
  | false =>
    rw [if_neg Bool.false_ne_true, writePcValue_charge, hs]
    rfl

/-- An LDM whose SPSR names no mode stops (R58). -/
theorem exec_armLdm_invalidMode {o : BlockOps} {w : Word} {s : State} (h : BlockAllowed o True s)
    (hpc : o.list = 0#16 ∨ o.list.getLsbD 15 = true) (hs : o.s = true)
    (hw : s.cpu32.spsr? s.cpu32.cpsr.mode = some w) (hofw : Psr.ofWord? w = none) :
    exec (.armLdm o) s = .fault (.unpredictable .invalidMode s.cpu32.pc.toNat) := by
  have hmem := pc_mem_blockRegs.mpr hpc
  obtain ⟨hc, hrn, -, hmode⟩ := h
  obtain ⟨slots, d, e, l, n, hst⟩ := ldmLoad_loadsRegs o s
  have hw2 : (charge 1 (ldmLoad o s).2).cpu32.spsr? (charge 1 (ldmLoad o s).2).cpu32.cpsr.mode = some w := by
    rw [hst]
    exact hw
  rw [exec_armLdm ⟨hc, hrn, fun _ _ => hmem, hmode⟩, if_neg (not_not.mpr hmem), if_pos hs,
    returnTo_invalidMode _ hw2 hofw, hst]
  rfl

/-- The addresses of the claim are those of the model (R580). -/
theorem blockLow_blockSize (o : BlockOps) (base : Word) {n : Nat} (h : blockSize o.list = n) :
    blockLow o base n = blockStart o base ∧ blockEnd o base n = blockNewBase o base := by
  subst h
  exact ⟨(blockStart_eq o base).symm, rfl⟩

/-- An LDM with R15 ends in a state that differs from the loaded one by PC, CPSR and its cost (R581, R833). -/
theorem armLdm_pc_state {o : BlockOps} {p : Psr} {s : State} (h : BlockAllowed o True s)
    (hpc : o.list = 0#16 ∨ o.list.getLsbD 15 = true)
    (hp : o.s = true → ∃ w, s.cpu32.spsr? s.cpu32.cpsr.mode = some w ∧ Psr.ofWord? w = some p) :
    ∃ t, exec (.armLdm o) s = .next t ∧ t.cycles = (ldmLoad o s).2.cycles + 1 + sCost s + refill t ∧
      t = { (ldmLoad o s).2 with
        cpu32 := { (ldmLoad o s).2.cpu32 with
          pc := aligned (ldmPsr o p s).t (ldmLoad o s).1, cpsr := ldmPsr o p s }
        cycles := t.cycles } := by
  refine ⟨_, exec_armLdm_pc h hpc hp, ?_, rfl⟩
  rw [← (ldmLoad_loadsRegs o s).sCost_eq]
  rfl

/-- Settles O36: the transfer is `ldmLoad`, and the ending moves PC past the instruction or writes it. -/
theorem armLoadMultiple : Obligations.ArmLoadMultiple := by
  refine ⟨fun o s hne h15 hallow => ?_, fun o p s hpc hallow hp => ?_,
    fun o w s hpc hallow hs hw hofw => exec_armLdm_invalidMode hallow hpc hs hw hofw⟩
  · have hnot : 15#4 ∉ blockRegs o.list := by
      rw [pc_mem_blockRegs, not_or, Bool.not_eq_true]
      exact ⟨hne, h15⟩
    obtain ⟨hc, hrn, hsw, hmode⟩ := hallow
    obtain ⟨hlow, hend⟩ := blockLow_blockSize o (readReg o.rn s) ((blockSize_eq o.list).trans (if_neg hne))
    have hlen : listCount o.list = (blockRegs o.list).length := ((length_blockRegs o.list).trans (if_neg hne)).symm
    have hexec := exec_armLdm ⟨hc, hrn, fun hs hw => (hsw hs hw).elim, hmode⟩
    rw [if_pos hnot, retire_self] at hexec
    have hregs := ldmLoad_loadsRegs o s
    dsimp only
    rw [hlow, hend, hlen]
    refine ⟨_, hexec, hregs.mem_eq, hregs.cpsr_eq, ?_, ?_, ldmLoad_base hrn, ldmLoad_onlyLoaded hrn, fun hram => ⟨?_, ?_⟩⟩
    · rw [past_cpu32, len32, hregs.cpsr_eq, hregs.pc_eq]
      rfl
    · rw [past_cycles, hregs.sCost_eq, ldmLoad_cycles]
      omega
    · intro j i hj
      refine ldmLoad_word hram hj ?_
      rintro rfl
      exact absurd hj.1 (Bool.eq_false_iff.mp h15)
    · obtain ⟨slots, last, cycles, ht⟩ := ldmLoad_loadsWords hram
      rw [ht]
      rfl
  · obtain ⟨t, hexec, hcycles, ht⟩ := armLdm_pc_state hallow hpc hp
    obtain ⟨hc, hrn, -, hmode⟩ := hallow
    obtain ⟨hlow, hend⟩ := blockLow_blockSize o (readReg o.rn s) (blockSize_eq o.list)
    have hlen := (length_blockRegs o.list).symm
    have hregs := ldmLoad_loadsRegs o s
    have hslots : t.cpu32.slots = (ldmLoad o s).2.cpu32.slots := by rw [ht]
    have hpsr : t.cpu32.cpsr = ldmPsr o p s := by rw [ht]
    have htpc : t.cpu32.pc = aligned t.cpu32.cpsr.t (ldmLoad o s).1 := by rw [ht]
    have hregIn : ∀ m i, t.cpu32.regIn m i = (ldmLoad o s).2.cpu32.regIn m i := by
      intro m i
      rw [Cpu32.regIn, hslots]
      rfl
    dsimp only
    rw [hlow, hend, hlen]
    refine ⟨t, hexec, ?_, ?_, ?_, ?_, ?_, ?_, ?_, fun hram => ⟨?_, ?_, ?_, ?_⟩⟩
    · rw [ht]
      exact hregs.mem_eq
    · rw [hpsr, ldmPsr]
      split <;> rfl
    · intro hs hi
      rw [hpsr, ldmPsr, hs, hi]
      rfl
    · rw [htpc, aligned_aligned]
    · rw [hcycles, ldmLoad_cycles]
    · intro hwb hl
      rw [hregIn]
      exact ldmLoad_base hrn hwb hl
    · intro m' j hj hne
      rw [hregIn] at hne
      exact ldmLoad_onlyLoaded hrn m' j hj hne
    · intro hs
      rw [hpsr, ldmPsr, hs, ldmLoad_pc hram hpc]
      rfl
    · rw [htpc, ldmLoad_pc hram hpc]
    · intro j i hi hj
      rw [hregIn]
      exact ldmLoad_word hram hj hi
    · obtain ⟨slots, last, cycles, hwords⟩ := ldmLoad_loadsWords hram
      rw [ht, hwords]

end Sys2Proof.Proofs
end

section
/-! PROOFS. The IO window: its addresses, its decode, and its registers (R61 to R66, R121, R122). -/

namespace Sys2Proof.Proofs

open Sys2Proof.Machine Sys2Proof.Claims

/-! Addresses. -/

theorem region_eq_io_iff {a : Word} : region a = .io ↔ 0x4000000 ≤ a.toNat ∧ a.toNat < 0x4000400 := by
  constructor
  · intro h
    unfold region at h
    split at h
    all_goals try split at h
    all_goals try cases h
    omega
  · rintro ⟨hlo, hhi⟩
    have hdiv : a.toNat / 0x1000000 = 4 := by omega
    simp only [region, hdiv, if_pos hhi]

/-- An address of the IO window, by its offset. -/
theorem exists_offset {a : Word} (h : region a = .io) : ∃ o, o < 0x400 ∧ a.toNat = 0x4000000 + o := by
  rw [region_eq_io_iff] at h
  exact ⟨a.toNat - 0x4000000, by omega, by omega⟩

theorem toNat_io {o : Nat} (h : o < 0x400) : (BitVec.ofNat 32 (0x4000000 + o)).toNat = 0x4000000 + o := by
  rw [BitVec.toNat_ofNat]
  omega

theorem region_io {o : Nat} (h : o < 0x400) : region (BitVec.ofNat 32 (0x4000000 + o)) = .io := by
  rw [region_eq_io_iff, toNat_io h]
  omega

theorem ioOffset_of_toNat {a : Word} {o : Nat} (ho : o < 0x400) (h : a.toNat = 0x4000000 + o) :
    ioOffset a = o / 2 * 2 := by
  rw [ioOffset, h]
  omega

theorem getLsbD_zero_eq (a : Word) : a.getLsbD 0 = decide (a.toNat % 2 = 1) := by
  rw [BitVec.getLsbD, Nat.testBit_zero]

/-! Accesses, by offset. -/

section
variable {o : Nat} (ho : o < 0x400) (he : o % 2 = 0)
include ho he

theorem memRead_half_io (s : State) : memRead .half (BitVec.ofNat 32 (0x4000000 + o)) s =
    ((ioRead16 (io32 o) s).1.setWidth 32, (ioRead16 (io32 o) s).2) := by
  have hoff : ioOffset (BitVec.ofNat 32 (0x4000000 + o)) = o := by
    rw [ioOffset_of_toNat ho (toNat_io ho)]
    omega
  unfold memRead
  rw [region_io ho]
  simp only [ioRead, hoff]

theorem memWrite_half_io (m : Master) (v : Word) (s : State) : memWrite m .half (BitVec.ofNat 32 (0x4000000 + o)) v s =
    ioWrite16 (io32 o) o (v.setWidth 16) 0xFFFF#16 s := by
  have hoff : ioOffset (BitVec.ofNat 32 (0x4000000 + o)) = o := by
    rw [ioOffset_of_toNat ho (toNat_io ho)]
    omega
  unfold memWrite
  rw [region_io ho]
  simp only [ioWrite, hoff]

theorem memWrite_half_io_setWidth (m : Master) (v : Half) (s : State) :
    memWrite m .half (BitVec.ofNat 32 (0x4000000 + o)) (v.setWidth 32) s = ioWrite16 (io32 o) o v 0xFFFF#16 s := by
  rw [memWrite_half_io ho he, BitVec.setWidth_setWidth_of_le v (by decide), BitVec.setWidth_eq]

end

/-- The byte of a merged write, in the halfword it is merged into (R121). -/
theorem merge_eq_withByte (high : Bool) (old : Half) (b : Byte) :
    (old &&& ~~~(if high then 0xFF00#16 else 0x00FF#16)) ||| ((b ++ b) &&& (if high then 0xFF00#16 else 0x00FF#16)) =
      withByte high old b := by
  have hmask : ∀ k, k < 16 → (0xFF00#16).getLsbD k = decide (8 ≤ k) ∧ (0x00FF#16).getLsbD k = decide (k < 8) := by
    decide
  apply BitVec.eq_of_getLsbD_eq
  intro k hk
  obtain ⟨hhi, hlo⟩ := hmask k hk
  cases high with
  | true =>
    simp only [withByte, if_true, BitVec.getLsbD_or, BitVec.getLsbD_and, BitVec.getLsbD_not, BitVec.getLsbD_append, hhi,
      loByte, BitVec.getLsbD_setWidth]
    by_cases h : k < 8
    · simp [h, hk, Nat.not_le.mpr h]
    · simp [h, Nat.le_of_not_lt h]
  | false =>
    simp only [withByte, Bool.false_eq_true, if_false, BitVec.getLsbD_or, BitVec.getLsbD_and, BitVec.getLsbD_not,
      BitVec.getLsbD_append, hlo, hiByte, BitVec.getLsbD_setWidth, BitVec.getLsbD_ushiftRight]
    by_cases h : k < 8
    · simp [h]
    · have hsub : k - 8 < 8 := by omega
      have hadd : 8 + (k - 8) = k := by omega
      simp [h, hk, hsub, hadd]

/-- An 8-bit write of the window is the 16-bit write of the byte merged with the register's stored bits (R121). -/
theorem memWrite_byte_io {a : Word} {o : Nat} (ho : o < 0x400) (h : a.toNat / 2 * 2 = 0x4000000 + o) (m : Master)
    (v : Word) (s : State) : memWrite m .byte a v s =
      ioWrite16 (io32 o) o (withByte (a.getLsbD 0) (stored16 (io32 o) s).1 (v.setWidth 8))
        (if a.getLsbD 0 then 0xFF00#16 else 0x00FF#16) (stored16 (io32 o) s).2 := by
  have hreg : region a = .io := by
    rw [region_eq_io_iff]
    omega
  have hoff : ioOffset a = o := by
    rw [ioOffset]
    omega
  unfold memWrite
  rw [hreg]
  simp only [ioWrite, hoff, merge_eq_withByte]

theorem ioOffset_alignTo_word {a : Word} (h : region a = .io) :
    ioOffset (alignTo .word a) < 0x3FE ∧ ioOffset (alignTo .word a) % 4 = 0 ∧
      a.toNat / 4 * 4 = 0x4000000 + ioOffset (alignTo .word a) := by
  rw [region_eq_io_iff] at h
  rw [ioOffset, alignTo_word_toNat]
  omega

/-- A 32-bit write of the window is the two 16-bit writes, low half first (R121). -/
theorem memWrite_word_io {a : Word} (h : region a = .io) (m : Master) (v : Word) (s : State) :
    memWrite m .word a v s = thenRes (memWrite m .half (BitVec.ofNat 32 (a.toNat / 4 * 4)) v s)
      (memWrite m .half (BitVec.ofNat 32 (a.toNat / 4 * 4 + 2)) (v >>> 16)) := by
  obtain ⟨hlt, hfour, haddr⟩ := ioOffset_alignTo_word h
  have hword : memWrite m .word a v s = ioWrite .word a v s := by
    unfold memWrite
    rw [h]
  have hhigh : memWrite m .half (BitVec.ofNat 32 (0x4000000 + (ioOffset (alignTo .word a) + 2))) (v >>> 16) =
      ioWrite16 (io32 (ioOffset (alignTo .word a) + 2)) (ioOffset (alignTo .word a) + 2) ((v >>> 16).setWidth 16)
        0xFFFF#16 := funext fun t => memWrite_half_io (by omega) (by omega) m _ t
  rw [hword, haddr, Nat.add_assoc, memWrite_half_io (by omega) (by omega), hhigh]
  rfl

/-! The decode (R122). -/

theorem io32_dma : ∀ n : Fin 4, io32 (0xB0 + 12 * n.val) = .dmaSad n false ∧ io32 (0xB2 + 12 * n.val) = .dmaSad n true ∧
    io32 (0xB4 + 12 * n.val) = .dmaDad n false ∧ io32 (0xB6 + 12 * n.val) = .dmaDad n true ∧
    io32 (0xB8 + 12 * n.val) = .dmaCount n ∧ io32 (0xBA + 12 * n.val) = .dmaControl n := by decide

theorem io32_timer : ∀ n : Fin 4, io32 (0x100 + 4 * n.val) = .timerCount n ∧
    io32 (0x102 + 4 * n.val) = .timerControl n := by decide

theorem io32_forwarded {o : Nat} (hdma : ¬ (0xB0 ≤ o ∧ o < 0xE0)) (htimer : ¬ (0x100 ≤ o ∧ o < 0x110))
    (h : o ∉ [0x130, 0x200, 0x202, 0x204, 0x208, 0x20A, 0x300]) : io32 o = .forwarded := by
  simp only [List.mem_cons, List.not_mem_nil, or_false, not_or] at h
  obtain ⟨h1, h2, h3, h4, h5, h6, h7⟩ := h
  unfold io32
  rw [if_neg hdma, if_neg htimer]
  split
  all_goals try contradiction
  rfl

theorem offset_of_io32_dmaControl {o : Nat} {n : Fin 4} (he : o % 2 = 0) (h : io32 o = .dmaControl n) :
    o = 0xBA + 12 * n.val := by
  unfold io32 at h
  split at h
  · rename_i hdma
    have hr : (o - 0xB0) % 12 = 10 := by
      have heven : (o - 0xB0) % 12 ∈ [0, 2, 4, 6, 8] ∨ (o - 0xB0) % 12 = 10 := by
        simp only [List.mem_cons, List.not_mem_nil, or_false]
        omega
      refine heven.resolve_left fun hlow => ?_
      simp only [List.mem_cons, List.not_mem_nil, or_false] at hlow
      obtain hr | hr | hr | hr | hr := hlow <;> rw [hr] at h <;> cases h
    rw [hr] at h
    cases h
    rw [Fin.val_ofNat]
    omega
  split at h
  · split at h <;> cases h
  split at h <;> cases h

theorem offset_of_io32_postHalt {o : Nat} (h : io32 o = .postHalt) : o = 0x300 := by
  unfold io32 at h
  split at h
  · unfold dmaRegister at h
    split at h <;> cases h
  split at h
  · split at h <;> cases h
  split at h
  all_goals try cases h
  rfl

end Sys2Proof.Proofs
end

section
/-! PROOFS. The IO registers' reads and writes (R61 to R66, R121, R131, R745, R746, R771). -/

namespace Sys2Proof.Proofs

open Sys2Proof.Machine Sys2Proof.Claims

/-! Words. -/

theorem toNat_append_half {n : Nat} (x : BitVec n) (h : Half) : (x ++ h).toNat = x.toNat * 0x10000 + h.toNat := by
  rw [BitVec.toNat_append, ← Nat.shiftLeft_add_eq_or_of_lt h.isLt, Nat.shiftLeft_eq]

theorem setHalf_eq_withHalf (high : Bool) (old : Word) (v : Half) : setHalf high old v = withHalf high old v := by
  have hold := old.isLt
  have hv := v.isLt
  apply BitVec.eq_of_toNat_eq
  cases high with
  | true =>
    refine (toNat_append_half v (old.setWidth 16)).trans ?_
    simp only [withHalf, if_true, BitVec.toNat_setWidth, BitVec.toNat_ofNat]
    omega
  | false =>
    refine (toNat_append_half ((old >>> 16).setWidth 16) v).trans ?_
    simp only [withHalf, Bool.false_eq_true, if_false, BitVec.toNat_setWidth, BitVec.toNat_ofNat,
      BitVec.toNat_ushiftRight, Nat.shiftRight_eq_div_pow]
    omega

theorem ofBool_setWidth (b : Bool) : (BitVec.ofBool b).setWidth 16 = if b then 1#16 else 0#16 := by
  cases b <;> rfl

theorem and_ffff (v : Half) : v &&& 0xFFFF#16 = v := BitVec.and_allOnes

/-! A register with unused bits (R13, D11). -/

theorem draw_eq_drawn16 (s : State) : (((draw 16 s).1.setWidth 32 : Word), (draw 16 s).2) = drawn16 0#16 0#16 s := by
  simp only [drawn16, draw, BitVec.zero_and, BitVec.zero_or, BitVec.not_zero, BitVec.and_allOnes]

/-! DMA control (R66, R770, R771). -/

theorem dmaMasks : ∀ n : Fin 4, (dmaMask n 8).setWidth 16 = dmaCountMask n ∧ (dmaMask n 10).setWidth 16 = dmaControlMask n := by
  decide

theorem dmaControlMask_bits : ∀ n : Fin 4, (dmaControlMask n).getLsbD 15 = true ∧ (dmaControlMask n).getLsbD 13 = true ∧
    (dmaControlMask n).getLsbD 12 = true ∧ (dmaControlMask n).getLsbD 8 = true ∧ (dmaControlMask n).getLsbD 7 = true := by
  decide

theorem enabled_masked (n : Fin 4) (v : Half) : (v &&& dmaControlMask n).getLsbD 15 = v.getLsbD 15 := by
  rw [BitVec.getLsbD_and, (dmaControlMask_bits n).1, Bool.and_true]

/-- A two-bit field, from its bits. -/
theorem field_congr {x y : Half} (k : Nat) (h0 : x.getLsbD k = y.getLsbD k) (h1 : x.getLsbD (k + 1) = y.getLsbD (k + 1)) :
    x.toNat / 2 ^ k % 4 = y.toNat / 2 ^ k % 4 := by
  have hfield : ∀ z : Half, z.toNat / 2 ^ k % 4 = ((z >>> k).setWidth 2).toNat := by
    intro z
    rw [BitVec.toNat_setWidth, BitVec.toNat_ushiftRight, Nat.shiftRight_eq_div_pow]
  rw [hfield, hfield]
  congr 1
  apply BitVec.eq_of_getLsbD_eq
  intro j hj
  rw [BitVec.getLsbD_setWidth, BitVec.getLsbD_setWidth, BitVec.getLsbD_ushiftRight, BitVec.getLsbD_ushiftRight]
  interval_cases j
  · rw [Nat.add_zero, h0]
  · rw [h1]

theorem srcControl_masked (n : Fin 4) (v : Half) : (v &&& dmaControlMask n).toNat / 128 % 4 = v.toNat / 128 % 4 := by
  obtain ⟨-, -, -, h8, h7⟩ := dmaControlMask_bits n
  refine field_congr 7 ?_ ?_
  · rw [BitVec.getLsbD_and, h7, Bool.and_true]
  · rw [BitVec.getLsbD_and, h8, Bool.and_true]

theorem timing_masked (n : Fin 4) (v : Half) : (v &&& dmaControlMask n).toNat / 4096 % 4 = v.toNat / 4096 % 4 := by
  obtain ⟨-, h13, h12, -, -⟩ := dmaControlMask_bits n
  refine field_congr 12 ?_ ?_
  · rw [BitVec.getLsbD_and, h12, Bool.and_true]
  · rw [BitVec.getLsbD_and, h13, Bool.and_true]

section
variable (n : Fin 4) (v : Half) (s : State)

/-- The channel with its control word written (R66). -/
def withControl : DmaChannel := { s.cpu32.dma[n] with control := v &&& dmaControlMask n }

theorem writeDmaControl_disables (hv : v.getLsbD 15 = false) :
    writeDmaControl n v s = .next (withDma n { withControl n v s with pending := false } s) := by
  have henabled : DmaChannel.enabled (withControl n v s) = false := (enabled_masked n v).trans hv
  exact if_pos henabled

theorem writeDmaControl_stays (hv : v.getLsbD 15 = true) (hd : s.cpu32.dma[n].control.getLsbD 15 = true) :
    writeDmaControl n v s = .next (withDma n (withControl n v s) s) := by
  have henabled : ¬ DmaChannel.enabled (withControl n v s) = false :=
    Bool.not_eq_false _ ▸ (enabled_masked n v).trans hv
  have hd' : DmaChannel.enabled s.cpu32.dma[n] = true := hd
  exact (if_neg henabled).trans (if_pos hd')

/-- The channel enabled: the addresses and the count latched, pending at once under start timing 0 (R770). -/
def latched : DmaChannel :=
  let d := withControl n v s
  { d with
    isrc := d.sad &&& dmaSadMask n, idst := d.dad &&& dmaDadMask n, icount := dmaUnits n d.cntL
    pending := d.pending || decide (v.toNat / 4096 % 4 = 0) }

variable (hv : v.getLsbD 15 = true) (hd : s.cpu32.dma[n].control.getLsbD 15 = false)
include hv hd

theorem writeDmaControl_refuses (hsrc : v.toNat / 128 % 4 = 3) : writeDmaControl n v s = .refused .dmaSourceControl3 := by
  have henabled : ¬ DmaChannel.enabled (withControl n v s) = false :=
    Bool.not_eq_false _ ▸ (enabled_masked n v).trans hv
  have hd' : ¬ DmaChannel.enabled s.cpu32.dma[n] = true := Bool.not_eq_true _ ▸ hd
  have hthree : DmaChannel.srcControl (withControl n v s) = 3 := (srcControl_masked n v).trans hsrc
  exact (if_neg henabled).trans ((if_neg hd').trans (if_pos hthree))

theorem writeDmaControl_enables (hsrc : v.toNat / 128 % 4 ≠ 3) :
    writeDmaControl n v s = .next (withDma n (latched n v s) s) := by
  have henabled : ¬ DmaChannel.enabled (withControl n v s) = false :=
    Bool.not_eq_false _ ▸ (enabled_masked n v).trans hv
  have hd' : ¬ DmaChannel.enabled s.cpu32.dma[n] = true := Bool.not_eq_true _ ▸ hd
  have hthree : ¬ DmaChannel.srcControl (withControl n v s) = 3 := fun h => hsrc ((srcControl_masked n v).symm.trans h)
  have htiming : DmaChannel.timing (withControl n v s) = v.toNat / 4096 % 4 := timing_masked n v
  refine (if_neg henabled).trans ((if_neg hd').trans ((if_neg hthree).trans ?_))
  rw [latched, ← htiming]
  rfl

end

/-- A write of a control word that is not refused sets the control word of its channel, and changes that channel only. -/
theorem writeDmaControl_next {n : Fin 4} {v : Half} {s t : State} (h : writeDmaControl n v s = .next t) :
    t.cpu32.dma[n].control = v &&& dmaControlMask n ∧ t = withDma n t.cpu32.dma[n] s := by
  have hset : ∀ d, (withDma n d s).cpu32.dma[n] = d := fun d => by simp [withDma]
  have hdone : ∀ d, d.control = v &&& dmaControlMask n → t = withDma n d s →
      t.cpu32.dma[n].control = v &&& dmaControlMask n ∧ t = withDma n t.cpu32.dma[n] s := by
    rintro d hc rfl
    rw [hset]
    exact ⟨hc, rfl⟩
  cases hv : v.getLsbD 15 with
  | false =>
    rw [writeDmaControl_disables n v s hv] at h
    cases h
    exact hdone _ rfl rfl
  | true =>
    cases hd : s.cpu32.dma[n].control.getLsbD 15 with
    | true =>
      rw [writeDmaControl_stays n v s hv hd] at h
      cases h
      exact hdone _ rfl rfl
    | false =>
      by_cases hsrc : v.toNat / 128 % 4 = 3
      · rw [writeDmaControl_refuses n v s hv hd hsrc] at h
        cases h
      · rw [writeDmaControl_enables n v s hv hd hsrc] at h
        cases h
        exact hdone _ rfl rfl

end Sys2Proof.Proofs
end

section
/-! PROOFS. The IO registers and the costs WAITCNT selects (R61 to R66, R121, R122, R131, R745, R746, R771). -/

namespace Sys2Proof.Proofs

open Sys2Proof.Machine Sys2Proof.Claims

/-! The plain registers. -/

theorem plainIo_accesses {s : State} {v : Half} {o : Nat} {used value : Half} {t : Cpu32} (h : PlainIo s v o used value t) :
    o < 0x400 ∧ o % 2 = 0 ∧ ((ioRead16 (io32 o) s).1.setWidth 32, (ioRead16 (io32 o) s).2) = drawn16 used value s ∧
      ioWrite16 (io32 o) o v 0xFFFF#16 s = .next { s with cpu32 := t } := by
  simp only [PlainIo, List.mem_cons, List.not_mem_nil, or_false, Prod.mk.injEq] at h
  obtain ⟨rfl, rfl, rfl, rfl⟩ | ⟨rfl, rfl, rfl, rfl⟩ | ⟨rfl, rfl, rfl, rfl⟩ | ⟨rfl, rfl, rfl, rfl⟩ := h
  · exact ⟨by decide, by decide, rfl, rfl⟩
  · have hwrite : ioWrite16 .iflag 0x202 v 0xFFFF#16 s =
        .next { s with cpu32 := { s.cpu32 with iflag := s.cpu32.iflag &&& ~~~((v &&& 0xFFFF#16).setWidth 14) } } := rfl
    rw [and_ffff] at hwrite
    exact ⟨by decide, by decide, rfl, hwrite⟩
  · exact ⟨by decide, by decide, rfl, rfl⟩
  · refine ⟨by decide, by decide, ?_, rfl⟩
    rw [← ofBool_setWidth]
    rfl

/-! The merged byte writes (R121). -/

/-- The registers whose write does not depend on the bytes it names. -/
theorem ioWrite16_mask {r : Io32} (hif : r ≠ .iflag) (hph : r ≠ .postHalt) (hfw : r ≠ .forwarded) (o : Nat)
    (v mask mask' : Half) (s : State) : ioWrite16 r o v mask s = ioWrite16 r o v mask' s := by
  cases r with
  | iflag => exact absurd rfl hif
  | postHalt => exact absurd rfl hph
  | forwarded => exact absurd rfl hfw
  | _ => rfl

theorem mergedIo_stored {s : State} {o : Nat} {stored : Half} (h : MergedIo s o stored) :
    o < 0x400 ∧ o % 2 = 0 ∧ stored16 (io32 o) s = (stored, s) ∧
      io32 o ≠ .iflag ∧ io32 o ≠ .postHalt ∧ io32 o ≠ .forwarded := by
  obtain h | ⟨n, h⟩ := h
  · simp only [List.mem_cons, List.not_mem_nil, or_false, Prod.mk.injEq] at h
    obtain ⟨rfl, rfl⟩ | ⟨rfl, rfl⟩ | ⟨rfl, rfl⟩ := h
    · exact ⟨by decide, by decide, rfl, by decide, by decide, by decide⟩
    · exact ⟨by decide, by decide, rfl, by decide, by decide, by decide⟩
    · rw [← ofBool_setWidth]
      exact ⟨by decide, by decide, rfl, by decide, by decide, by decide⟩
  · obtain ⟨hsl, hsh, hdl, hdh, hc, hctl⟩ := io32_dma n
    obtain ⟨htc, htctl⟩ := io32_timer n
    have hn := n.isLt
    simp only [List.mem_cons, List.not_mem_nil, or_false, Prod.mk.injEq] at h
    obtain ⟨rfl, rfl⟩ | ⟨rfl, rfl⟩ | ⟨rfl, rfl⟩ | ⟨rfl, rfl⟩ | ⟨rfl, rfl⟩ | ⟨rfl, rfl⟩ | ⟨rfl, rfl⟩ | ⟨rfl, rfl⟩ := h
    · exact ⟨by omega, by omega, htc ▸ ⟨rfl, nofun, nofun, nofun⟩⟩
    · exact ⟨by omega, by omega, htctl ▸ ⟨rfl, nofun, nofun, nofun⟩⟩
    · exact ⟨by omega, by omega, hsl ▸ ⟨rfl, nofun, nofun, nofun⟩⟩
    · exact ⟨by omega, by omega, hsh ▸ ⟨rfl, nofun, nofun, nofun⟩⟩
    · exact ⟨by omega, by omega, hdl ▸ ⟨rfl, nofun, nofun, nofun⟩⟩
    · exact ⟨by omega, by omega, hdh ▸ ⟨rfl, nofun, nofun, nofun⟩⟩
    · exact ⟨by omega, by omega, hc ▸ ⟨rfl, nofun, nofun, nofun⟩⟩
    · exact ⟨by omega, by omega, hctl ▸ ⟨rfl, nofun, nofun, nofun⟩⟩

theorem memWrite_byte_merged {a : Word} {o : Nat} {stored : Half} {s : State} (h : MergedIo s o stored)
    (ha : a.toNat / 2 * 2 = 0x4000000 + o) (m : Master) (v : Word) : memWrite m .byte a v s =
      memWrite m .half (BitVec.ofNat 32 (0x4000000 + o))
        ((withByte (a.getLsbD 0) stored (v.setWidth 8)).setWidth 32) s := by
  obtain ⟨ho, he, hstored, hif, hph, hfw⟩ := mergedIo_stored h
  rw [memWrite_byte_io ho ha, hstored, memWrite_half_io_setWidth ho he]
  exact ioWrite16_mask hif hph hfw o _ _ _ s

/-! The byte and word reads (R121). -/

theorem memRead_byte_io {a : Word} (h : region a = .io) (s : State) :
    memRead .byte a s = (BitVec.ofNat 32 ((memRead .half a s).1.toNat / 256 ^ (a.toNat % 2) % 256),
      (memRead .half a s).2) := by
  have hword : ∀ x : Half, ((if a.getLsbD 0 then hiByte x else loByte x).setWidth 32 : Word) =
      BitVec.ofNat 32 ((x.setWidth 32).toNat / 256 ^ (a.toNat % 2) % 256) := by
    intro x
    have hx := x.isLt
    have hwide : (x.setWidth 32).toNat = x.toNat := BitVec.toNat_setWidth_of_le (by decide)
    rw [getLsbD_zero_eq, hwide]
    apply BitVec.eq_of_toNat_eq
    obtain h0 | h1 : a.toNat % 2 = 0 ∨ a.toNat % 2 = 1 := by omega
    · simp only [h0, loByte_toNat, BitVec.toNat_setWidth, BitVec.toNat_ofNat, Nat.zero_ne_one, decide_false,
        Bool.false_eq_true, if_false, Nat.pow_zero, Nat.div_one]
    · simp only [h1, hiByte_toNat, BitVec.toNat_setWidth, BitVec.toNat_ofNat, decide_true, if_true, Nat.pow_one]
      omega
  unfold memRead
  rw [h]
  simp only [ioRead, hword]

theorem memRead_word_io {a : Word} (h : region a = .io) (s : State) :
    let lo := memRead .half (BitVec.ofNat 32 (a.toNat / 4 * 4)) s
    let hi := memRead .half (BitVec.ofNat 32 (a.toNat / 4 * 4 + 2)) lo.2
    memRead .word a s = (BitVec.ofNat 32 (lo.1.toNat + 0x10000 * hi.1.toNat), hi.2) := by
  obtain ⟨hlt, hfour, haddr⟩ := ioOffset_alignTo_word h
  have hword : memRead .word a s = ioRead .word a s := by
    unfold memRead
    rw [h]
  have happend : ∀ hi lo : Half, (hi ++ lo : Word) =
      BitVec.ofNat 32 ((lo.setWidth 32).toNat + 0x10000 * (hi.setWidth 32).toNat) := by
    intro hi lo
    have hhi := hi.isLt
    have hlo := lo.isLt
    apply BitVec.eq_of_toNat_eq
    refine (toNat_append_half hi lo).trans ?_
    rw [BitVec.toNat_setWidth_of_le (by decide), BitVec.toNat_setWidth_of_le (by decide), BitVec.toNat_ofNat]
    omega
  dsimp only
  rw [hword, haddr, Nat.add_assoc, memRead_half_io (by omega) (by omega), memRead_half_io (by omega) (by omega), ← happend]
  rfl

/-! The costs (R63, R131). -/

theorem firstWait_eq (n : Nat) : firstWait n = firstWaits n := by
  unfold firstWait firstWaits
  split
  · rfl
  · rfl
  · rfl
  · rw [if_neg ‹_›, if_neg ‹_›, if_neg ‹_›]

theorem bit_eq (v : Half) (k : Nat) : v.getLsbD k = decide (v.toNat / 2 ^ k % 2 = 1) := by
  rw [BitVec.getLsbD, Nat.testBit_eq_decide_div_mod_eq]

theorem waits_eq (wc : Half) (seq : Bool) {k : Nat} (hk : k < 3) :
    (if seq then sWait wc k else nWait wc k) = waits wc.toNat k seq := by
  cases seq with
  | true => interval_cases k <;> simp only [sWait, waits, if_true, bit_eq, decide_eq_true_eq] <;> rfl
  | false => interval_cases k <;> simp only [nWait, waits, firstWait_eq, bits, Bool.false_eq_true, if_false] <;> rfl

/-! The completing writes. -/

theorem writesIo_ioWrite16 {r : Io32} {o : Nat} {v mask : Half} {s : State}
    (hdma : ∀ n, r = .dmaControl n → v.getLsbD 15 = true →
      s.cpu32.dma[n].control.getLsbD 15 = true ∨ v.toNat / 128 % 4 ≠ 3)
    (hhalt : r = .postHalt → mask.getLsbD 8 = true → v.getLsbD 15 = false) :
    WritesIo s (ioWrite16 r o v mask s) := by
  cases r with
  | dmaControl n =>
    have hwith : ∀ d, WritesIo s (.next (withDma n d s)) := fun d => ⟨_, rfl, rfl, rfl, rfl, rfl⟩
    have hexec : ioWrite16 (.dmaControl n) o v mask s = writeDmaControl n v s := rfl
    rw [hexec]
    cases hv : v.getLsbD 15 with
    | false => exact writeDmaControl_disables n v s hv ▸ hwith _
    | true =>
      cases hd : s.cpu32.dma[n].control.getLsbD 15 with
      | true => exact writeDmaControl_stays n v s hv hd ▸ hwith _
      | false =>
        have hsrc := (hdma n rfl hv).resolve_left (hd ▸ Bool.false_ne_true)
        exact writeDmaControl_enables n v s hv hd hsrc ▸ hwith _
  | timerControl n =>
    have hwith : ∀ t, WritesIo s (.next (on32 (fun c => c.setTimer n t) s)) := fun t => ⟨_, rfl, rfl, rfl, rfl, rfl⟩
    have hexec : ioWrite16 (.timerControl n) o v mask s = .next (on32 (fun c => c.writeTimerControl n v) s) := rfl
    rw [hexec]
    simp only [on32, Cpu32.writeTimerControl]
    split
    · exact hwith _
    · exact hwith _
  | postHalt =>
    have hexec : ioWrite16 .postHalt o v mask s = writePostHalt v mask s := rfl
    rw [hexec, writePostHalt]
    cases hlow : mask.getLsbD 0 <;> cases hhigh : mask.getLsbD 8
    · exact ⟨_, rfl, rfl, rfl, rfl, rfl⟩
    · rw [hhalt rfl hhigh]
      exact ⟨_, rfl, rfl, rfl, rfl, rfl⟩
    · exact ⟨_, rfl, rfl, rfl, rfl, rfl⟩
    · rw [hhalt rfl hhigh]
      exact ⟨_, rfl, rfl, rfl, rfl, rfl⟩
  | _ => exact ⟨_, rfl, rfl, rfl, rfl, rfl⟩

theorem writesIo_trans {s t : State} {r : Res} (h : WritesIo s (.next t)) (h' : WritesIo t r) : WritesIo s r := by
  obtain ⟨t', ht, hslots, hpc, hcpsr, hmem⟩ := h
  cases ht
  obtain ⟨u, hu, hslots', hpc', hcpsr', hmem'⟩ := h'
  exact ⟨u, hu, hslots'.trans hslots, hpc'.trans hpc, hcpsr'.trans hcpsr, hmem'.trans hmem⟩

theorem writePostHalt_dma {v mask : Half} {s t : State} (h : writePostHalt v mask s = .next t) :
    t.cpu32.dma = s.cpu32.dma := by
  have hlow : (if mask.getLsbD 0 then on32 (fun c => { c with postflg := v.getLsbD 0 }) s else s).cpu32.dma =
      s.cpu32.dma := by
    split <;> rfl
  unfold writePostHalt at h
  dsimp only at h
  split at h
  · split at h
    · cases h
    · cases h
      exact hlow
  · cases h
    exact hlow

/-- A write of another register leaves every control word of the DMA channels. -/
theorem ioWrite16_control {r : Io32} (hr : ∀ n, r ≠ .dmaControl n) {o : Nat} {v mask : Half} {s t : State}
    (h : ioWrite16 r o v mask s = .next t) (n : Fin 4) : t.cpu32.dma[n].control = s.cpu32.dma[n].control := by
  have hset : ∀ (k : Fin 4) (d : DmaChannel), d.control = s.cpu32.dma[k].control →
      (withDma k d s).cpu32.dma[n].control = s.cpu32.dma[n].control := by
    intro k d hd
    by_cases hkn : k = n
    · subst hkn
      simp [withDma, hd]
    · have hkn' : k.val ≠ n.val := fun e => hkn (Fin.ext e)
      simp [withDma, hkn']
  cases r with
  | dmaControl k => exact absurd rfl (hr k)
  | dmaSad k high =>
    cases h
    exact hset k _ rfl
  | dmaDad k high =>
    cases h
    exact hset k _ rfl
  | dmaCount k =>
    cases h
    exact hset k _ rfl
  | timerControl k =>
    cases h
    simp only [on32, Cpu32.writeTimerControl]
    split <;> rfl
  | postHalt =>
    rw [writePostHalt_dma (v := v) (mask := mask) h]
  | _ =>
    cases h
    rfl

/-- The halfword write of the control word, as a condition on the value (R771). -/
theorem writesIo_half {o : Nat} (ho : o < 0x400) (he : o % 2 = 0) {v : Word} (m : Master) {s : State}
    (hhalt : o ≠ 0x300 ∨ v.getLsbD 15 = false)
    (hdma : ∀ n : Fin 4, o = 0xBA + 12 * n.val → v.getLsbD 15 = true →
      s.cpu32.dma[n].control.getLsbD 15 = true ∨ v.toNat / 128 % 4 ≠ 3) :
    WritesIo s (memWrite m .half (BitVec.ofNat 32 (0x4000000 + o)) v s) := by
  have hbit : (v.setWidth 16).getLsbD 15 = v.getLsbD 15 := by
    rw [BitVec.getLsbD_setWidth]
    rfl
  have hfield : (v.setWidth 16).toNat / 128 % 4 = v.toNat / 128 % 4 := by
    rw [BitVec.toNat_setWidth]
    omega
  rw [memWrite_half_io ho he]
  refine writesIo_ioWrite16 (fun n hr hv => ?_) (fun hr _ => ?_)
  · rw [hbit] at hv
    rw [hfield]
    exact hdma n (offset_of_io32_dmaControl he hr) hv
  · rw [hbit]
    exact hhalt.resolve_left (not_not.mpr (offset_of_io32_postHalt hr))

theorem withByte_true_bit (old : Half) (b : Byte) : (withByte true old b).getLsbD 15 = b.getLsbD 7 := by
  simp only [withByte, if_true, BitVec.getLsbD_append]
  rfl

theorem withByte_false_bit (old : Half) (b : Byte) : (withByte false old b).getLsbD 15 = old.getLsbD 15 := by
  simp only [withByte, Bool.false_eq_true, if_false, BitVec.getLsbD_append, hiByte, BitVec.getLsbD_setWidth,
    BitVec.getLsbD_ushiftRight]
  rfl

/-- The control word that a byte write merges: enable and source control come from its halves (R66, R121). -/
theorem withByte_control {high : Bool} {old : Half} {b : Byte} (h : (withByte high old b).getLsbD 15 = true)
    (hold : high = true → b.getLsbD 7 = true → old.getLsbD 15 = true ∨ ¬ (b.getLsbD 0 = true ∧ old.getLsbD 7 = true)) :
    old.getLsbD 15 = true ∨ (withByte high old b).toNat / 128 % 4 ≠ 3 := by
  cases high with
  | false =>
    exact .inl (withByte_false_bit old b ▸ h)
  | true =>
    have h7 : b.getLsbD 7 = true := withByte_true_bit old b ▸ h
    refine (hold rfl h7).imp_right fun hnot hthree => hnot ?_
    have hbits : (withByte true old b).toNat / 128 % 4 = (b.toNat % 2) * 2 + old.toNat / 128 % 2 := by
      have hb := b.isLt
      have happ : (withByte true old b).toNat = b.toNat * 256 + old.toNat % 256 := by
        refine (toNat_append_byte b (loByte old)).trans ?_
        rw [loByte_toNat]
      rw [happ]
      omega
    rw [hbits] at hthree
    refine ⟨?_, ?_⟩
    · rw [BitVec.getLsbD, Nat.testBit_zero, decide_eq_true_eq]
      omega
    · rw [bit_eq, decide_eq_true_eq]
      omega

theorem writesIo_byte {a v : Word} (h : region a = .io) (m : Master) {s : State}
    (hhalt : a ≠ 0x04000301#32 ∨ v.getLsbD 7 = false)
    (hdma : ∀ n : Fin 4, a.toNat = 0x040000BB + 12 * n.val → v.getLsbD 7 = true →
      s.cpu32.dma[n].control.getLsbD 15 = true ∨ ¬ (v.getLsbD 0 = true ∧ s.cpu32.dma[n].control.getLsbD 7 = true)) :
    WritesIo s (memWrite m .byte a v s) := by
  obtain ⟨o, ho, ha⟩ := exists_offset h
  have ho2 : o / 2 * 2 < 0x400 := by omega
  have ha2 : a.toNat / 2 * 2 = 0x4000000 + o / 2 * 2 := by omega
  have hbit : ∀ k, k < 8 → (v.setWidth 8 : Byte).getLsbD k = v.getLsbD k := by
    intro k hk
    rw [BitVec.getLsbD_setWidth, decide_eq_true hk, Bool.true_and]
  have hstate : WritesIo s (.next (stored16 (io32 (o / 2 * 2)) s).2) := by
    cases io32 (o / 2 * 2) <;> exact ⟨_, rfl, rfl, rfl, rfl, rfl⟩
  rw [memWrite_byte_io ho2 ha2]
  refine writesIo_trans hstate (writesIo_ioWrite16 (fun n hr hv => ?_) (fun hr hmask => ?_))
  · have hoff := offset_of_io32_dmaControl (by omega) hr
    rw [hr] at hv ⊢
    refine withByte_control hv fun hhigh h7 => ?_
    rw [hbit 7 (by decide)] at h7
    rw [hbit 0 (by decide)]
    rw [getLsbD_zero_eq, decide_eq_true_eq] at hhigh
    exact hdma n (by omega) h7
  · have hoff := offset_of_io32_postHalt hr
    cases hhigh : a.getLsbD 0 with
    | false =>
      rw [hhigh] at hmask
      cases hmask
    | true =>
      rw [getLsbD_zero_eq, decide_eq_true_eq] at hhigh
      have haddr : a = 0x04000301#32 := BitVec.eq_of_toNat_eq (by rw [BitVec.toNat_ofNat]; omega)
      have h7 := hhalt.resolve_left (not_not.mpr haddr)
      rw [← hbit 7 (by decide)] at h7
      rwa [withByte_true_bit]

theorem writesIo_word {a v : Word} (h : region a = .io) (m : Master) {s : State}
    (hhalt : a.toNat / 4 * 4 ≠ 0x04000300 ∨ v.getLsbD 15 = false)
    (hdma : ∀ n : Fin 4, a.toNat / 4 * 4 = 0x040000B8 + 12 * n.val → v.getLsbD 31 = true →
      s.cpu32.dma[n].control.getLsbD 15 = true ∨ v.toNat / 0x800000 % 4 ≠ 3) :
    WritesIo s (memWrite m .word a v s) := by
  obtain ⟨hlt, hfour, haddr⟩ := ioOffset_alignTo_word h
  rw [memWrite_word_io h, haddr, Nat.add_assoc]
  generalize ioOffset (alignTo .word a) = o at hlt hfour haddr
  have hlow : WritesIo s (memWrite m .half (BitVec.ofNat 32 (0x4000000 + o)) v s) := by
    refine writesIo_half (by omega) (by omega) m ?_ (fun n hn => by omega)
    exact hhalt.imp_left fun hne he => hne (by omega)
  obtain ⟨t, ht, hframe⟩ := hlow
  have hcontrol : ∀ n : Fin 4, t.cpu32.dma[n].control = s.cpu32.dma[n].control := by
    rw [memWrite_half_io (by omega) (by omega)] at ht
    refine ioWrite16_control (fun n hr => ?_) ht
    have := offset_of_io32_dmaControl (by omega) hr
    omega
  rw [ht, thenRes_next]
  refine writesIo_trans ⟨t, rfl, hframe⟩ (writesIo_half (by omega) (by omega) m (.inl (by omega)) fun n hn hv => ?_)
  have hbit : (v >>> 16).getLsbD 15 = v.getLsbD 31 := by rw [BitVec.getLsbD_ushiftRight]
  have hfield : (v >>> 16).toNat / 128 % 4 = v.toNat / 0x800000 % 4 := by
    rw [BitVec.toNat_ushiftRight, Nat.shiftRight_eq_div_pow]
    omega
  rw [hbit] at hv
  rw [hfield, hcontrol]
  exact hdma n (by omega) hv

end Sys2Proof.Proofs
end

section
/-! PROOFS. O48, clause by clause. -/

namespace Sys2Proof.Proofs

open Sys2Proof.Machine Sys2Proof.Claims

/-- The DMA registers' halfword writes (R66). -/
theorem dma_writes (n : Fin 4) (high : Bool) (v : Half) (m : Master) (s : State) :
    let d := s.cpu32.dma[n]
    let writes := fun (r : Nat) => memWrite m .half (BitVec.ofNat 32 (0x040000B0 + 12 * n.val + r)) (v.setWidth 32) s
    writes (if high then 2 else 0) = .next (withDma n { d with sad := withHalf high d.sad v &&& dmaMask n 0 } s) ∧
    writes (if high then 6 else 4) = .next (withDma n { d with dad := withHalf high d.dad v &&& dmaMask n 4 } s) ∧
    writes 8 = .next (withDma n { d with cntL := v &&& (dmaMask n 8).setWidth 16 } s) ∧
    ∀ t, writes 10 = .next t → t.cpu32.dma[n].control = v &&& (dmaMask n 10).setWidth 16 ∧
      t = withDma n t.cpu32.dma[n] s := by
  intro d writes
  obtain ⟨hsl, hsh, hdl, hdh, hc, hctl⟩ := io32_dma n
  obtain ⟨hcount, hcontrol⟩ := dmaMasks n
  have hn := n.isLt
  have hwrites : ∀ r, r < 12 → r % 2 = 0 → writes r = ioWrite16 (io32 (0xB0 + 12 * n.val + r)) (0xB0 + 12 * n.val + r) v
      0xFFFF#16 s := by
    intro r hr he
    have haddr : 0x040000B0 + 12 * n.val + r = 0x4000000 + (0xB0 + 12 * n.val + r) := by omega
    dsimp only [writes]
    rw [haddr, memWrite_half_io_setWidth (by omega) (by omega)]
  have hoff : ∀ r, 0xB0 + 12 * n.val + r = 0xB0 + r + 12 * n.val := fun r => by omega
  refine ⟨?_, ?_, ?_, fun t ht => ?_⟩
  · rw [← setHalf_eq_withHalf]
    cases high with
    | true => rw [if_pos rfl, hwrites 2 (by decide) (by decide), hoff, hsh]; rfl
    | false => rw [if_neg Bool.false_ne_true, hwrites 0 (by decide) (by decide), hoff, hsl]; rfl
  · rw [← setHalf_eq_withHalf]
    cases high with
    | true => rw [if_pos rfl, hwrites 6 (by decide) (by decide), hoff, hdh]; rfl
    | false => rw [if_neg Bool.false_ne_true, hwrites 4 (by decide) (by decide), hoff, hdl]; rfl
  · rw [hwrites 8 (by decide) (by decide), hoff, hc, hcount]
    rfl
  · rw [hwrites 10 (by decide) (by decide), hoff, hctl] at ht
    rw [hcontrol]
    exact writeDmaControl_next ht

/-- The registers with unused bits, and those that only write (R61 to R66). -/
theorem register_reads (n : Fin 4) (s : State) :
    memRead .half 0x04000300#32 s = drawn16 0x0001#16 (if s.cpu32.postflg then 1#16 else 0#16) s ∧
    memRead .half (BitVec.ofNat 32 (0x04000102 + 4 * n.val)) s = drawn16 0x00C7#16 s.cpu32.timers[n].control s ∧
    memRead .half (BitVec.ofNat 32 (0x040000BA + 12 * n.val)) s =
      drawn16 ((dmaMask n 10).setWidth 16) s.cpu32.dma[n].control s ∧
    ∀ o, o ∈ [0x20A, 0xB0 + 12 * n.val, 0xB2 + 12 * n.val, 0xB4 + 12 * n.val, 0xB6 + 12 * n.val, 0xB8 + 12 * n.val] →
      memRead .half (BitVec.ofNat 32 (0x04000000 + o)) s = drawn16 0#16 0#16 s := by
  obtain ⟨hsl, hsh, hdl, hdh, hc, hctl⟩ := io32_dma n
  have hn := n.isLt
  refine ⟨?_, ?_, ?_, fun o ho => ?_⟩
  · rw [← ofBool_setWidth]
    rfl
  · have haddr : 0x04000102 + 4 * n.val = 0x4000000 + (0x102 + 4 * n.val) := by omega
    rw [haddr, memRead_half_io (by omega) (by omega), (io32_timer n).2]
    rfl
  · have haddr : 0x040000BA + 12 * n.val = 0x4000000 + (0xBA + 12 * n.val) := by omega
    rw [haddr, memRead_half_io (by omega) (by omega), hctl, (dmaMasks n).2]
    rfl
  · rw [← draw_eq_drawn16]
    simp only [List.mem_cons, List.not_mem_nil, or_false] at ho
    obtain rfl | rfl | rfl | rfl | rfl | rfl := ho
    · rfl
    · rw [memRead_half_io (by omega) (by omega), hsl]; rfl
    · rw [memRead_half_io (by omega) (by omega), hsh]; rfl
    · rw [memRead_half_io (by omega) (by omega), hdl]; rfl
    · rw [memRead_half_io (by omega) (by omega), hdh]; rfl
    · rw [memRead_half_io (by omega) (by omega), hc]; rfl

/-- A forwarded register is a draw, and a write is handed on with the bytes it names (R122; log entry 32). -/
theorem forwarded_accesses {o : Nat} (ho : o < 0x400) (he : o % 2 = 0) (hfw : io32 o = .forwarded) (v : Word)
    (m : Master) (s : State) :
    memRead .half (BitVec.ofNat 32 (0x04000000 + o)) s = drawn16 0#16 0#16 s ∧
    memWrite m .half (BitVec.ofNat 32 (0x04000000 + o)) v s =
      .next { s with outbox := s.outbox ++ [.io32 o (v.setWidth 16) 0xFFFF#16] } ∧
    ∀ high : Bool, memWrite m .byte (BitVec.ofNat 32 (0x04000000 + o + if high then 1 else 0)) v s =
      .next { s with
        draws := s.draws + 1
        outbox := s.outbox ++ [.io32 o (withByte high (Config.draw 16 s.draws) (v.setWidth 8))
          (if high then 0xFF00#16 else 0x00FF#16)] } := by
  have hbyte : ∀ (high : Bool) (k : Nat), k < 2 → decide (k = 1) = high →
      memWrite m .byte (BitVec.ofNat 32 (0x04000000 + o + k)) v s = .next { s with
        draws := s.draws + 1
        outbox := s.outbox ++ [.io32 o (withByte high (Config.draw 16 s.draws) (v.setWidth 8))
          (if high then 0xFF00#16 else 0x00FF#16)] } := by
    intro high k hk hhigh
    have haddr := toNat_io (o := o + k) (by omega)
    have hodd : (0x4000000 + (o + k)) % 2 = 1 ↔ k = 1 := by omega
    have hlow : (BitVec.ofNat 32 (0x4000000 + (o + k))).getLsbD 0 = high := by
      rw [getLsbD_zero_eq, haddr, decide_eq_decide.mpr hodd, hhigh]
    rw [Nat.add_assoc, memWrite_byte_io ho (by omega), hlow, hfw]
    rfl
  refine ⟨?_, ?_, fun high => ?_⟩
  · rw [memRead_half_io ho he, hfw, ← draw_eq_drawn16]
    rfl
  · rw [memWrite_half_io ho he, hfw]
    rfl
  · cases high with
    | true => exact hbyte true 1 (by decide) rfl
    | false => exact hbyte false 0 (by decide) rfl

/-- The cost of an access, by its region (R63, R131). -/
theorem accessCost_by_region (seq : Bool) (w : Width) (a : Word) (s : State) :
    let n := a.toNat / 0x1000000
    let wc := s.cpu32.waitcnt.toNat
    let cost := accessCost seq w a s
    (∀ k, k < 3 → n = 8 + 2 * k ∨ n = 9 + 2 * k →
      cost = 1 + waits wc k seq + (if w = .word then 1 + waits wc k true else 0)) ∧
    (n = 14 ∨ n = 15 → cost = 1 + firstWaits (wc % 4)) ∧
    (n = 2 → cost = if w = .word then 6 else 3) ∧
    (n = 5 ∨ n = 6 → cost = if w = .word then 2 else 1) ∧
    (n = 0 ∨ n = 1 ∨ n = 3 ∨ n = 4 ∨ n = 7 ∨ 16 ≤ n → cost = 1) := by
  intro n wc cost
  have hpage : n = a.toNat / 0x1000000 := rfl
  clear_value n
  refine ⟨fun k hk hn => ?_, fun hn => ?_, fun hn => ?_, fun hn => ?_, fun hn => ?_⟩
  · have hreg : region a = .rom k := by
      interval_cases k <;> obtain hn | hn := hn <;> simp only [region, ← hpage, hn, Nat.reduceMul, Nat.reduceAdd]
    have hfirst : (if seq then 1 + sWait s.cpu32.waitcnt k else 1 + nWait s.cpu32.waitcnt k) = 1 + waits wc k seq := by
      rw [← waits_eq _ _ hk]
      cases seq <;> rfl
    have hnext : 1 + sWait s.cpu32.waitcnt k = 1 + waits wc k true := by
      rw [← waits_eq _ _ hk]
      rfl
    dsimp only [cost]
    unfold accessCost
    rw [hreg]
    dsimp only
    rw [hfirst, hnext]
    split <;> rfl
  · have hreg : region a = .save := by
      obtain hn | hn := hn <;> simp only [region, ← hpage, hn]
    dsimp only [cost]
    unfold accessCost
    rw [hreg, ← firstWait_eq]
    dsimp only
    rw [bits, Nat.pow_zero, Nat.div_one]
    rfl
  · have hreg : region a = .ewram := by simp only [region, ← hpage, hn]
    dsimp only [cost]
    unfold accessCost
    rw [hreg]
  · have hreg : region a = .palette ∨ region a = .vram := by
      obtain hn | hn := hn
      · exact .inl (by simp only [region, ← hpage, hn])
      · exact .inr (by simp only [region, ← hpage, hn])
    dsimp only [cost]
    unfold accessCost
    obtain hreg | hreg := hreg <;> rw [hreg]
  · have hreg : region a ∈ [.bios, .iwram, .io, .oam, .unmapped] := by
      unfold region
      rw [← hpage]
      split
      · split <;> decide
      · omega
      · decide
      · split <;> decide
      · omega
      · omega
      · decide
      all_goals try omega
      decide
    dsimp only [cost]
    unfold accessCost
    simp only [List.mem_cons, List.not_mem_nil, or_false] at hreg
    obtain hreg | hreg | hreg | hreg | hreg := hreg <;> rw [hreg]

/-! IF, POSTFLG and HALTCNT by bytes (R62, R64, R121, R745, R746). -/

theorem setWidth8_bit {v : Word} {k : Nat} (hk : k < 8) : (v.setWidth 8 : Byte).getLsbD k = v.getLsbD k := by
  rw [BitVec.getLsbD_setWidth, decide_eq_true hk, Bool.true_and]

theorem setWidth16_bit {v : Word} {k : Nat} (hk : k < 16) : (v.setWidth 16 : Half).getLsbD k = v.getLsbD k := by
  rw [BitVec.getLsbD_setWidth, decide_eq_true hk, Bool.true_and]

theorem writeIf_low (old : Half) (v : Word) (s : State) :
    ioWrite16 .iflag 0x202 (withByte false old (v.setWidth 8)) 0x00FF#16 s = .next
      { s with cpu32 := { s.cpu32 with iflag := s.cpu32.iflag &&& ~~~(v.setWidth 14 &&& 0x00FF#14) } } := by
  have hmask : ∀ k, k < 14 → (0x00FF#16).getLsbD k = decide (k < 8) ∧ (0x00FF#14).getLsbD k = decide (k < 8) := by decide
  have hbits : (withByte false old (v.setWidth 8) &&& 0x00FF#16).setWidth 14 = v.setWidth 14 &&& 0x00FF#14 := by
    apply BitVec.eq_of_getLsbD_eq
    intro k hk
    simp only [withByte, Bool.false_eq_true, if_false, BitVec.getLsbD_setWidth, BitVec.getLsbD_and, BitVec.getLsbD_append,
      (hmask k hk).1, (hmask k hk).2]
    by_cases h : k < 8 <;> simp [h]
  rw [← hbits]
  rfl

theorem writeIf_high (old : Half) (v : Word) (s : State) :
    ioWrite16 .iflag 0x202 (withByte true old (v.setWidth 8)) 0xFF00#16 s = .next
      { s with cpu32 := { s.cpu32 with iflag := s.cpu32.iflag &&& ~~~((v <<< 8).setWidth 14 &&& 0x3F00#14) } } := by
  have hmask : ∀ k, k < 14 → (0xFF00#16).getLsbD k = decide (8 ≤ k) ∧ (0x3F00#14).getLsbD k = decide (8 ≤ k) := by decide
  have hbits : (withByte true old (v.setWidth 8) &&& 0xFF00#16).setWidth 14 = (v <<< 8).setWidth 14 &&& 0x3F00#14 := by
    apply BitVec.eq_of_getLsbD_eq
    intro k hk
    simp only [withByte, if_true, BitVec.getLsbD_setWidth, BitVec.getLsbD_and, BitVec.getLsbD_append,
      BitVec.getLsbD_shiftLeft, (hmask k hk).1, (hmask k hk).2]
    by_cases h : k < 8
    · simp [h, Nat.not_le.mpr h]
    · have hsub : k - 8 < 8 := by omega
      have hwide : k < 32 := by omega
      simp [h, hsub, hwide, Bool.and_assoc]
  rw [← hbits]
  rfl

theorem writeHaltcnt_eq (v : Half) (s : State) : ioWrite16 .postHalt 0x300 v 0xFF00#16 s =
    if v.getLsbD 15 then .refused .cpu32StopMode
    else .next { s with cpu32 := { s.cpu32 with haltcnt := hiByte v, halted := true } } := rfl

theorem writePostHalt_eq (v : Half) (s : State) : ioWrite16 .postHalt 0x300 v 0xFFFF#16 s =
    if v.getLsbD 15 then .refused .cpu32StopMode
    else .next { s with cpu32 := { s.cpu32 with
      postflg := v.getLsbD 0, haltcnt := hiByte v, halted := true } } := rfl

section
variable {v : Word}

theorem writeHaltcnt_next (old : Half) (hv : v.getLsbD 7 = false) (s : State) :
    ioWrite16 .postHalt 0x300 (withByte true old (v.setWidth 8)) 0xFF00#16 s =
      .next { s with cpu32 := { s.cpu32 with haltcnt := v.setWidth 8, halted := true } } := by
  have hhi : hiByte (withByte true old (v.setWidth 8)) = v.setWidth 8 := hiByte_pair _ _
  rw [writeHaltcnt_eq, withByte_true_bit, setWidth8_bit (by decide), hv, hhi]
  rfl

theorem writeHaltcnt_refused (old : Half) (hv : v.getLsbD 7 = true) (s : State) :
    ioWrite16 .postHalt 0x300 (withByte true old (v.setWidth 8)) 0xFF00#16 s = .refused .cpu32StopMode := by
  rw [writeHaltcnt_eq, withByte_true_bit, setWidth8_bit (by decide), if_pos hv]

theorem writePostflg (old : Half) (v : Word) (s : State) :
    ioWrite16 .postHalt 0x300 (withByte false old (v.setWidth 8)) 0x00FF#16 s =
      .next { s with cpu32 := { s.cpu32 with postflg := v.getLsbD 0 } } := by
  have hbit : (withByte false old (v.setWidth 8)).getLsbD 0 = v.getLsbD 0 := by
    rw [← setWidth8_bit (v := v) (by decide)]
    simp only [withByte, Bool.false_eq_true, if_false, BitVec.getLsbD_append]
    rfl
  rw [← hbit]
  rfl

theorem writePostHalt_next (hv : v.getLsbD 15 = false) (s : State) :
    ioWrite16 .postHalt 0x300 (v.setWidth 16) 0xFFFF#16 s = .next { s with cpu32 := { s.cpu32 with
      postflg := v.getLsbD 0, haltcnt := (v >>> 8).setWidth 8, halted := true } } := by
  have hhi : hiByte (v.setWidth 16) = (v >>> 8).setWidth 8 := by
    apply BitVec.eq_of_toNat_eq
    simp only [hiByte_toNat, BitVec.toNat_setWidth, BitVec.toNat_ushiftRight, Nat.shiftRight_eq_div_pow]
    omega
  rw [writePostHalt_eq, setWidth16_bit (by decide), setWidth16_bit (by decide), hv, hhi]
  rfl

theorem writePostHalt_refused (hv : v.getLsbD 15 = true) (s : State) :
    ioWrite16 .postHalt 0x300 (v.setWidth 16) 0xFFFF#16 s = .refused .cpu32StopMode := by
  rw [writePostHalt_eq, setWidth16_bit (by decide), if_pos hv]

end

/-- A halfword write of the window is at its address aligned down (R103). -/
theorem memWrite_half_aligned {a : Word} (h : region a = .io) (m : Master) (v : Word) (s : State) :
    ioOffset a < 0x400 ∧ ioOffset a % 2 = 0 ∧ a.toNat / 2 * 2 = 0x4000000 + ioOffset a ∧
      memWrite m .half a v s = memWrite m .half (BitVec.ofNat 32 (0x4000000 + ioOffset a)) v s := by
  obtain ⟨o, ho, ha⟩ := exists_offset h
  have hoff := ioOffset_of_toNat ho ha
  have hwrite : memWrite m .half a v s = ioWrite .half a v s := by
    unfold memWrite
    rw [h]
  refine ⟨by omega, by omega, by omega, ?_⟩
  rw [hwrite, memWrite_half_io (by omega) (by omega)]
  rfl

/-- Settles O48: each clause is the access at an offset of the window, and the register's own read or write there. -/
theorem cpu32IoRegisters : Obligations.Cpu32IoRegisters := by
  refine ⟨fun v used value o t m s h => ?_, fun v m s => ⟨rfl, fun a ha => ?_, fun a ha => ?_⟩, dma_writes,
    fun a v o stored m s h ha => memWrite_byte_merged h ha m v, register_reads,
    fun o v m s ho he hdma htimer h => forwarded_accesses ho he (io32_forwarded hdma htimer h) v m s,
    fun a s h => ⟨memRead_byte_io h s, memRead_word_io h s⟩, fun n v m s hd hv hsrc => ?_,
    accessCost_by_region, fun v m s => ⟨?_, ?_⟩, fun a v m s h => memWrite_word_io h m v s,
    fun v m s => ⟨fun hv => ?_, fun hv => ?_, ?_, fun hv => ?_, fun hv => ?_⟩,
    fun a v m s h => ⟨writesIo_byte h m, fun hhalt hdma => ?_, writesIo_word h m⟩⟩
  · obtain ⟨ho, he, hread, hwrite⟩ := plainIo_accesses h
    exact ⟨(memRead_half_io ho he s).trans hread, (memWrite_half_io_setWidth ho he m v s).trans hwrite⟩
  · simp only [List.mem_cons, List.not_mem_nil, or_false] at ha
    obtain rfl | rfl := ha <;> rfl
  · simp only [List.mem_cons, List.not_mem_nil, or_false] at ha
    obtain rfl | rfl | rfl | rfl := ha <;> rfl
  · have hn := n.isLt
    have haddr : 0x040000BA + 12 * n.val = 0x4000000 + (0xBA + 12 * n.val) := by omega
    obtain ⟨-, -, -, -, -, hctl⟩ := io32_dma n
    rw [haddr, memWrite_half_io_setWidth (by omega) (by omega), hctl]
    exact writeDmaControl_refuses n v s hv hd hsrc
  · exact (memWrite_byte_io (o := 0x202) (by decide) rfl m v s).trans (writeIf_low _ v s)
  · exact (memWrite_byte_io (o := 0x202) (by decide) rfl m v s).trans (writeIf_high _ v s)
  · exact (memWrite_byte_io (o := 0x300) (by decide) rfl m v s).trans (writeHaltcnt_next _ hv s)
  · exact (memWrite_byte_io (o := 0x300) (by decide) rfl m v s).trans (writeHaltcnt_refused _ hv s)
  · exact (memWrite_byte_io (o := 0x300) (by decide) rfl m v s).trans (writePostflg _ v s)
  · exact (memWrite_half_io (o := 0x300) (by decide) rfl m v s).trans (writePostHalt_next hv s)
  · exact (memWrite_half_io (o := 0x300) (by decide) rfl m v s).trans (writePostHalt_refused hv s)
  · obtain ⟨hlt, heven, haddr, hwrite⟩ := memWrite_half_aligned h m v s
    rw [hwrite]
    refine writesIo_half hlt heven m ?_ fun n hn hv => hdma n (by omega) hv
    exact hhalt.imp_left fun hne he => hne (by omega)

end Sys2Proof.Proofs
end

section
/-! PROOFS. The CPU-32 timers (R65, R730, R731). -/

namespace Sys2Proof.Proofs

open Sys2Proof.Machine Sys2Proof.Claims

/-! One timer changed. -/

theorem setTimer_same (c : Cpu32) (n : Fin 4) (t : Timer) : (c.setTimer n t).timers[n] = t := by
  simp [Cpu32.setTimer]

theorem setTimer_ne (c : Cpu32) {n m : Fin 4} (t : Timer) (h : m ≠ n) : (c.setTimer n t).timers[m] = c.timers[m] := by
  have hval : n.val ≠ m.val := fun e => h (Fin.ext e.symm)
  simp [Cpu32.setTimer, hval]

theorem setTimer_setTimer (c : Cpu32) (n : Fin 4) (t t' : Timer) : (c.setTimer n t).setTimer n t' = c.setTimer n t' := by
  simp [Cpu32.setTimer]

theorem raise_bit (c : Cpu32) {b : Nat} (j : Fin 14) :
    (c.raise b).iflag.getLsbD j = true ↔ c.iflag.getLsbD j = true ∨ j.val = b := by
  rw [Cpu32.raise, BitVec.getLsbD_or, Bool.or_eq_true, BitVec.getLsbD_ofNat, Nat.testBit_two_pow, Bool.and_eq_true,
    decide_eq_true_eq, decide_eq_true_eq]
  exact or_congr_right ⟨fun h => h.2.symm, fun h => ⟨j.isLt, h.symm⟩⟩

/-! One count (R730). -/

/-- A timer after one count: past 0xFFFF it is reloaded. -/
def counted (t : Timer) : Timer := { t with counter := if t.counter = 0xFFFF#16 then t.reload else t.counter + 1 }

/-- A count of timer n without what it moves: the timer, and its IF bit where it overflows with the IRQ bit. -/
def countOnce (c : Cpu32) (n : Fin 4) : Cpu32 :=
  if c.timers[n].counter = 0xFFFF#16 ∧ c.timers[n].control.getLsbD 6 = true then
    (c.setTimer n (counted c.timers[n])).raise (3 + n.val)
  else c.setTimer n (counted c.timers[n])

theorem countOnce_timers (c : Cpu32) (n : Fin 4) :
    (countOnce c n).timers = (c.setTimer n (counted c.timers[n])).timers := by
  unfold countOnce
  split <;> rfl

theorem countOnce_iflag (c : Cpu32) (n : Fin 4) (j : Fin 14) : (countOnce c n).iflag.getLsbD j = true ↔
    c.iflag.getLsbD j = true ∨
      j.val = 3 + n.val ∧ c.timers[n].counter = 0xFFFF#16 ∧ c.timers[n].control.getLsbD 6 = true := by
  unfold countOnce
  split
  · rename_i h
    rw [raise_bit, and_iff_left h]
    rfl
  · rename_i h
    rw [or_iff_left fun hj => h hj.2]
    rfl

theorem tickChain_cons (c : Cpu32) (n : Fin 4) (rest : List (Fin 4)) : c.tickChain (n :: rest) =
    if c.timers[n].counter = 0xFFFF#16 ∧ (countOnce c n).chained rest = true then (countOnce c n).tickChain rest
    else countOnce c n := by
  have hirq : Timer.irq c.timers[n] = c.timers[n].control.getLsbD 6 := rfl
  by_cases hov : c.timers[n].counter = 0xFFFF#16
  · have honce : (if Timer.irq c.timers[n] = true then
        (c.setTimer n { c.timers[n] with counter := c.timers[n].reload }).raise (3 + n.val)
        else c.setTimer n { c.timers[n] with counter := c.timers[n].reload }) = countOnce c n := by
      simp only [countOnce, counted, hirq, hov, if_true, true_and]
    simp only [Cpu32.tickChain, if_pos hov, honce, and_iff_right hov]
  · have hnot : ∀ p : Prop, ¬ (c.timers[n].counter = 0xFFFF#16 ∧ p) := fun _ h => hov h.1
    simp only [Cpu32.tickChain, if_neg hov, if_neg (hnot _), countOnce, counted]

/-! The chain. -/

theorem ticks_congr {c d : Cpu32} {n m : Fin 4}
    (h : ∀ k : Fin 4, n ≤ k → c.timers[k].counter = d.timers[k].counter ∧ c.timers[k].control = d.timers[k].control) :
    Ticks c n m ↔ Ticks d n m := by
  refine and_congr_right fun _ => forall_congr' fun k => and_congr ?_ ?_
  · refine imp_congr_right fun hk => ?_
    rw [(h k hk).1]
  · refine imp_congr_right fun hk => ?_
    rw [(h k hk.le).2]

/-- A count of a timer moves itself, and past an overflow what a count of the next one moves, where that counts up. -/
theorem ticks_succ {c : Cpu32} {n n' m : Fin 4} (hn : n'.val = n.val + 1) : Ticks c n m ↔ m = n ∨
    (c.timers[n].counter = 0xFFFF#16 ∧
      (c.timers[n'].control.getLsbD 7 = true ∧ c.timers[n'].control.getLsbD 2 = true) ∧ Ticks c n' m) := by
  constructor
  · rintro ⟨hle, h⟩
    by_cases hm : m = n
    · exact .inl hm
    · have hlt : n < m := lt_of_le_of_ne hle (Ne.symm hm)
      refine .inr ⟨(h n).1 le_rfl hlt, (h n').2 ?_ ?_, ?_, fun k => ⟨fun hk => (h k).1 ?_, fun hk => (h k).2 ?_⟩⟩
      all_goals (rw [Fin.lt_def] at *; rw [Fin.le_def] at *; omega)
  · rintro (rfl | ⟨hov, hup, hle, h⟩)
    · exact ⟨le_rfl, fun k => ⟨fun hk hk' => absurd hk (not_le.mpr hk'), fun hk hk' => absurd hk (not_lt.mpr hk')⟩⟩
    · refine ⟨?_, fun k => ⟨fun hk hk' => ?_, fun hk hk' => ?_⟩⟩
      · rw [Fin.le_def] at *
        omega
      · by_cases hkn : k = n
        · exact hkn ▸ hov
        · refine (h k).1 ?_ hk'
          have hne : k.val ≠ n.val := fun e => hkn (Fin.ext e)
          rw [Fin.le_def] at *
          omega
      · by_cases hkn : k = n'
        · exact hkn ▸ hup
        · refine (h k).2 ?_ hk'
          have hne : k.val ≠ n'.val := fun e => hkn (Fin.ext e)
          rw [Fin.lt_def] at *
          omega

/-- `d` is `c` after a count of timer n and of every timer that moves with it. -/
structure Counts (c : Cpu32) (n : Fin 4) (d : Cpu32) : Prop where
  ticked : ∀ m, Ticks c n m → d.timers[m] = counted c.timers[m]
  stayed : ∀ m, ¬ Ticks c n m → d.timers[m] = c.timers[m]
  raised : ∀ j : Fin 14, d.iflag.getLsbD j = true ↔ c.iflag.getLsbD j = true ∨
    ∃ m : Fin 4, j.val = 3 + m.val ∧ Ticks c n m ∧ c.timers[m].counter = 0xFFFF#16 ∧
      c.timers[m].control.getLsbD 6 = true

theorem countOnce_same (c : Cpu32) (n : Fin 4) : (countOnce c n).timers[n] = counted c.timers[n] := by
  rw [countOnce_timers]
  exact setTimer_same c n _

theorem countOnce_ne (c : Cpu32) {n m : Fin 4} (h : m ≠ n) : (countOnce c n).timers[m] = c.timers[m] := by
  rw [countOnce_timers]
  exact setTimer_ne c _ h

/-- A count that moves no other timer. -/
theorem counts_alone {c : Cpu32} {n : Fin 4} (h : ∀ m, Ticks c n m ↔ m = n) : Counts c n (countOnce c n) where
  ticked m hm := by
    obtain rfl := (h m).mp hm
    exact countOnce_same c m
  stayed m hm := countOnce_ne c (mt (h m).mpr hm)
  raised j := by
    rw [countOnce_iflag]
    simp only [h]
    refine or_congr_right ⟨fun ⟨hj, hov, hirq⟩ => ⟨n, hj, rfl, hov, hirq⟩, ?_⟩
    rintro ⟨m, hj, rfl, hov, hirq⟩
    exact ⟨hj, hov, hirq⟩

/-- A count that overflows into the next timer. -/
theorem counts_chain {c d : Cpu32} {n n' : Fin 4} (hn : n'.val = n.val + 1) (hov : c.timers[n].counter = 0xFFFF#16)
    (hup : c.timers[n'].control.getLsbD 7 = true ∧ c.timers[n'].control.getLsbD 2 = true)
    (h : Counts (countOnce c n) n' d) : Counts c n d := by
  obtain ⟨hticked, hstayed, hraised⟩ := h
  have hne : ∀ k, n' ≤ k → k ≠ n := by
    rintro k hk rfl
    rw [Fin.le_def] at hk
    omega
  have hrest : ∀ m, Ticks (countOnce c n) n' m ↔ Ticks c n' m := by
    intro m
    refine ticks_congr fun k hk => ?_
    rw [countOnce_ne c (hne k hk)]
    exact ⟨rfl, rfl⟩
  have hsucc : ∀ m, Ticks c n m ↔ m = n ∨ Ticks c n' m := by
    intro m
    rw [ticks_succ hn]
    exact or_congr_right ⟨fun h => h.2.2, fun h => ⟨hov, hup, h⟩⟩
  have hself : ¬ Ticks c n' n := fun ht => hne n ht.1 rfl
  refine ⟨fun m hm => ?_, fun m hm => ?_, fun j => ?_⟩
  · obtain rfl | hm := (hsucc m).mp hm
    · rw [hstayed m (mt (hrest m).mp hself), countOnce_same]
    · rw [hticked m ((hrest m).mpr hm), countOnce_ne c (hne m hm.1)]
  · obtain ⟨hmn, hm⟩ := not_or.mp (mt (hsucc m).mpr hm)
    rw [hstayed m (mt (hrest m).mp hm), countOnce_ne c hmn]
  · rw [hraised, countOnce_iflag, or_assoc]
    refine or_congr_right ⟨?_, ?_⟩
    · rintro (⟨hj, hov, hirq⟩ | ⟨m, hj, ht, hov', hirq⟩)
      · exact ⟨n, hj, (hsucc n).mpr (.inl rfl), hov, hirq⟩
      · have ht' := (hrest m).mp ht
        rw [countOnce_ne c (hne m ht'.1)] at hov' hirq
        exact ⟨m, hj, (hsucc m).mpr (.inr ht'), hov', hirq⟩
    · rintro ⟨m, hj, ht, hov', hirq⟩
      obtain rfl | ht' := (hsucc m).mp ht
      · exact .inl ⟨hj, hov', hirq⟩
      · refine .inr ⟨m, hj, (hrest m).mpr ht', ?_⟩
        rw [countOnce_ne c (hne m ht'.1)]
        exact ⟨hov', hirq⟩

/-- One link of the chain. -/
theorem tickChain_link {c : Cpu32} {n n' : Fin 4} {rest : List (Fin 4)} (hn : n'.val = n.val + 1)
    (h : ∀ c, Counts c n' (c.tickChain (n' :: rest))) : Counts c n (c.tickChain (n :: n' :: rest)) := by
  have hne : n' ≠ n := by
    rintro rfl
    omega
  have hchained : (countOnce c n).chained (n' :: rest) = true ↔
      c.timers[n'].control.getLsbD 7 = true ∧ c.timers[n'].control.getLsbD 2 = true := by
    simp only [Cpu32.chained, countOnce_ne c hne, Bool.and_eq_true]
    rfl
  rw [tickChain_cons]
  split
  · rename_i hgo
    exact counts_chain hn hgo.1 (hchained.mp hgo.2) (h _)
  · rename_i hstop
    refine counts_alone fun m => ?_
    rw [ticks_succ hn]
    exact or_iff_left fun hm => hstop ⟨hm.1, hchained.mpr hm.2.1⟩

/-- A count of timer n moves the timers of its chain (R730). -/
theorem tickChain_counts (n : Fin 4) (c : Cpu32) : Counts c n (c.tickChain (timersFrom n)) := by
  have h3 : ∀ c : Cpu32, Counts c 3 (c.tickChain [3]) := by
    intro c
    rw [tickChain_cons, if_neg fun h => Bool.false_ne_true h.2]
    refine counts_alone fun m => ⟨fun h => le_antisymm (Fin.le_last m) h.1, ?_⟩
    rintro rfl
    exact ⟨le_rfl, fun k => ⟨fun hk hk' => absurd hk (not_le.mpr hk'), fun hk hk' => absurd hk (not_lt.mpr hk')⟩⟩
  have h2 : ∀ c : Cpu32, Counts c 2 (c.tickChain [2, 3]) := fun c => tickChain_link rfl h3
  have h1 : ∀ c : Cpu32, Counts c 1 (c.tickChain [1, 2, 3]) := fun c => tickChain_link rfl h2
  have h0 : ∀ c : Cpu32, Counts c 0 (c.tickChain [0, 1, 2, 3]) := fun c => tickChain_link rfl h1
  match n with
  | 0 => exact h0 c
  | 1 => exact h1 c
  | 2 => exact h2 c
  | 3 => exact h3 c

/-! One cycle (R730). -/

/-- A timer that counts cycles: enabled, and not counting another's overflows; timer 0 never does. -/
def Running (c : Cpu32) (n : Fin 4) : Prop :=
  c.timers[n].control.getLsbD 7 = true ∧ (n.val = 0 ∨ c.timers[n].control.getLsbD 2 = false)

theorem running_iff (c : Cpu32) (n : Fin 4) : Running c n ↔
    Timer.enabled c.timers[n] = true ∧ ¬ (n.val > 0 ∧ Timer.countUp c.timers[n] = true) := by
  refine and_congr_right fun _ => ⟨?_, fun h => ?_⟩
  · rintro (h | h) ⟨hpos, hup⟩
    · omega
    · exact Bool.false_ne_true (h.symm.trans hup)
  · by_cases hn : n.val = 0
    · exact .inl hn
    · exact .inr (Bool.eq_false_iff.mpr fun hup => h ⟨Nat.pos_of_ne_zero hn, hup⟩)

theorem cycleTimer_idle {c : Cpu32} {n : Fin 4} (h : ¬ Running c n) : c.cycleTimer n = c :=
  if_neg (mt (running_iff c n).mpr h)

theorem cycleTimer_phase {c : Cpu32} {n : Fin 4} (h : Running c n)
    (hdiv : c.timers[n].phase + 1 ≠ Timer.divisor c.timers[n]) :
    c.cycleTimer n = c.setTimer n { c.timers[n] with phase := c.timers[n].phase + 1 } :=
  (if_pos ((running_iff c n).mp h)).trans (if_neg hdiv)

/-- The phase at its end: cleared, and the timer counts. -/
theorem cycleTimer_count {c : Cpu32} {n : Fin 4} (h : Running c n)
    (hdiv : c.timers[n].phase + 1 = Timer.divisor c.timers[n]) :
    c.cycleTimer n = (c.setTimer n { c.timers[n] with phase := 0 }).tickChain (timersFrom n) :=
  (if_pos ((running_iff c n).mp h)).trans (if_pos hdiv)

theorem timersFrom_eq_cons (n : Fin 4) : ∃ rest, timersFrom n = n :: rest := by
  match n with
  | 0 => exact ⟨_, rfl⟩
  | 1 => exact ⟨_, rfl⟩
  | 2 => exact ⟨_, rfl⟩
  | 3 => exact ⟨_, rfl⟩

theorem cycleTimer_increment {c : Cpu32} {n : Fin 4} (h : Running c n)
    (hdiv : c.timers[n].phase + 1 = Timer.divisor c.timers[n]) (hcounter : c.timers[n].counter ≠ 0xFFFF#16) :
    c.cycleTimer n = c.setTimer n { c.timers[n] with phase := 0, counter := c.timers[n].counter + 1 } := by
  obtain ⟨rest, hrest⟩ := timersFrom_eq_cons n
  have hsame := setTimer_same c n { c.timers[n] with phase := 0 }
  have hov : ¬ (c.setTimer n { c.timers[n] with phase := 0 }).timers[n].counter = 0xFFFF#16 := by
    rw [hsame]
    exact hcounter
  rw [cycleTimer_count h hdiv, hrest, tickChain_cons, if_neg fun h => hov h.1, countOnce, if_neg fun h => hov h.1,
    setTimer_setTimer, hsame, counted, if_neg hcounter]

theorem cycleTimer_overflow {c : Cpu32} {n : Fin 4} (h : Running c n)
    (hdiv : c.timers[n].phase + 1 = Timer.divisor c.timers[n]) :
    (∀ m : Fin 4,
      (Ticks c n m → (c.cycleTimer n).timers[m] = { c.timers[m] with
        phase := if m = n then 0 else c.timers[m].phase
        counter := if c.timers[m].counter = 0xFFFF#16 then c.timers[m].reload else c.timers[m].counter + 1 }) ∧
      (¬ Ticks c n m → (c.cycleTimer n).timers[m] = c.timers[m])) ∧
    ∀ j : Fin 14, (c.cycleTimer n).iflag.getLsbD j = true ↔ c.iflag.getLsbD j = true ∨
      ∃ m : Fin 4, j.val = 3 + m.val ∧ Ticks c n m ∧ c.timers[m].counter = 0xFFFF#16 ∧
        c.timers[m].control.getLsbD 6 = true := by
  have hcleared : ∀ m : Fin 4, (c.setTimer n { c.timers[n] with phase := 0 }).timers[m] =
      { c.timers[m] with phase := if m = n then 0 else c.timers[m].phase } := by
    intro m
    by_cases hm : m = n
    · subst hm
      rw [setTimer_same, if_pos rfl]
    · rw [setTimer_ne c _ hm, if_neg hm]
  have hticks : ∀ m, Ticks (c.setTimer n { c.timers[n] with phase := 0 }) n m ↔ Ticks c n m := by
    intro m
    refine ticks_congr fun k _ => ?_
    rw [hcleared]
    exact ⟨rfl, rfl⟩
  have hself : Ticks c n n :=
    ⟨le_rfl, fun k => ⟨fun hk hk' => absurd hk (not_le.mpr hk'), fun hk hk' => absurd hk (not_lt.mpr hk')⟩⟩
  obtain ⟨hticked, hstayed, hraised⟩ := tickChain_counts n (c.setTimer n { c.timers[n] with phase := 0 })
  rw [cycleTimer_count h hdiv]
  refine ⟨fun m => ⟨fun hm => ?_, fun hm => ?_⟩, fun j => ?_⟩
  · rw [hticked m ((hticks m).mpr hm), hcleared]
    rfl
  · have hmn : m ≠ n := fun e => hm (e ▸ hself)
    rw [hstayed m (mt (hticks m).mp hm), hcleared, if_neg hmn]
  · rw [hraised j]
    simp only [hticks, hcleared]
    rfl

/-! Many cycles of timer 0 under prescaler 1 (R730). -/

theorem cycleTimer_disabled {c : Cpu32} {n : Fin 4} (h : c.timers[n].control.getLsbD 7 = false) : c.cycleTimer n = c :=
  cycleTimer_idle fun hr => Bool.false_ne_true (h.symm.trans hr.1)

/-- A cycle of timer 0 alone, with 64 cycles to a count, from below its last count. -/
theorem tick_timer0 {c : Cpu32} (hen : c.timers[0].control.getLsbD 7 = true) (hpre : c.timers[0].control.toNat % 4 = 1)
    (hothers : ∀ n : Fin 4, n ≠ 0 → c.timers[n].control.getLsbD 7 = false) (hphase : c.timers[0].phase < 64)
    (hmax : c.timers[0].counter.toNat + (c.timers[0].phase + 1) / 64 < 0x10000) :
    ∃ t : Timer, c.tick = c.setTimer 0 t ∧ t.control = c.timers[0].control ∧ t.phase = (c.timers[0].phase + 1) % 64 ∧
      t.counter.toNat = c.timers[0].counter.toNat + (c.timers[0].phase + 1) / 64 := by
  have hrun : Running c 0 := ⟨hen, .inl rfl⟩
  have hdiv : Timer.divisor c.timers[0] = 64 := by
    simp only [Timer.divisor, hpre]
  have hrest : ∀ t : Timer, (((c.setTimer 0 t).cycleTimer 1).cycleTimer 2).cycleTimer 3 = c.setTimer 0 t := by
    intro t
    have hoff : ∀ n : Fin 4, n ≠ 0 → (c.setTimer 0 t).cycleTimer n = c.setTimer 0 t := by
      intro n hn
      refine cycleTimer_disabled ?_
      rw [setTimer_ne c t hn]
      exact hothers n hn
    rw [hoff 1 (by decide), hoff 2 (by decide), hoff 3 (by decide)]
  by_cases hlast : c.timers[0].phase + 1 = 64
  · have hcounter : c.timers[0].counter.toNat + 1 < 0x10000 := by omega
    have hne : c.timers[0].counter ≠ 0xFFFF#16 := by
      intro h
      rw [h] at hcounter
      exact absurd hcounter (by decide)
    refine ⟨{ c.timers[0] with phase := 0, counter := c.timers[0].counter + 1 }, ?_, rfl, ?_, ?_⟩
    · rw [Cpu32.tick, cycleTimer_increment hrun (hlast.trans hdiv.symm) hne]
      exact hrest _
    · rw [hlast]
    · rw [hlast, BitVec.toNat_add_of_lt hcounter]
      rfl
  · have hnext : c.timers[0].phase + 1 < 64 := by omega
    refine ⟨{ c.timers[0] with phase := c.timers[0].phase + 1 }, ?_, rfl, ?_, ?_⟩
    · rw [Cpu32.tick, cycleTimer_phase hrun (hdiv ▸ hlast)]
      exact hrest _
    · rw [Nat.mod_eq_of_lt hnext]
    · rw [Nat.div_eq_of_lt hnext]
      rfl

theorem advance_timer0 (k : Nat) (c : Cpu32) (hen : c.timers[0].control.getLsbD 7 = true)
    (hpre : c.timers[0].control.toNat % 4 = 1) (hothers : ∀ n : Fin 4, n ≠ 0 → c.timers[n].control.getLsbD 7 = false)
    (hphase : c.timers[0].phase < 64) (hmax : c.timers[0].counter.toNat + (c.timers[0].phase + k) / 64 < 0x10000) :
    (Cpu32.advance k c).timers[0].counter.toNat = c.timers[0].counter.toNat + (c.timers[0].phase + k) / 64 ∧
    (Cpu32.advance k c).timers[0].phase = (c.timers[0].phase + k) % 64 := by
  induction k generalizing c with
  | zero => exact ⟨by rw [Cpu32.advance]; omega, by rw [Cpu32.advance]; omega⟩
  | succ k ih =>
    obtain ⟨t, htick, hcontrol, htphase, htcounter⟩ := tick_timer0 hen hpre hothers hphase (by omega)
    have hsame : c.tick.timers[0] = t := by rw [htick]; exact setTimer_same c 0 t
    have hne : ∀ n : Fin 4, n ≠ 0 → c.tick.timers[n].control.getLsbD 7 = false := by
      intro n hn
      rw [htick, setTimer_ne c t hn]
      exact hothers n hn
    have hstep := ih c.tick (by rw [hsame, hcontrol, hen]) (by rw [hsame, hcontrol, hpre]) hne
      (by rw [hsame]; omega) (by rw [hsame]; omega)
    rw [hsame] at hstep
    obtain ⟨hcounter, hph⟩ := hstep
    rw [Cpu32.advance]
    exact ⟨by omega, by omega⟩

/-! The registers (R65, R731). -/

theorem writeTimerControl_eq (c : Cpu32) (n : Fin 4) (v : Half) : c.writeTimerControl n v =
    c.setTimer n (if c.timers[n].control.getLsbD 7 = false ∧ v.getLsbD 7 = true then
      { c.timers[n] with control := v &&& 0x00C7#16, counter := c.timers[n].reload, phase := 0 }
      else { c.timers[n] with control := v &&& 0x00C7#16 }) := by
  have hbit : Timer.enabled { c.timers[n] with control := v &&& timerControlMask } = v.getLsbD 7 := by
    have hmask : (v &&& timerControlMask).getLsbD 7 = (v.getLsbD 7 && true) := BitVec.getLsbD_and
    exact hmask.trans (Bool.and_true _)
  simp only [Cpu32.writeTimerControl, hbit]
  have hold : Timer.enabled c.timers[n] = c.timers[n].control.getLsbD 7 := rfl
  rw [hold]
  split <;> rfl

theorem timer_registers (n : Fin 4) (v : Half) (m : Master) (s : State) :
    memWrite m .half (BitVec.ofNat 32 (0x04000100 + 4 * n.val)) (v.setWidth 32) s =
      .next { s with cpu32 := { s.cpu32 with
        timers := s.cpu32.timers.set n { s.cpu32.timers[n] with reload := v } } } ∧
    memWrite m .half (BitVec.ofNat 32 (0x04000102 + 4 * n.val)) (v.setWidth 32) s =
      .next { s with cpu32 := { s.cpu32 with
        timers := s.cpu32.timers.set n (if s.cpu32.timers[n].control.getLsbD 7 = false ∧ v.getLsbD 7 = true then
            { s.cpu32.timers[n] with control := v &&& 0x00C7#16, counter := s.cpu32.timers[n].reload, phase := 0 }
          else { s.cpu32.timers[n] with control := v &&& 0x00C7#16 }) } } ∧
    memRead .half (BitVec.ofNat 32 (0x04000100 + 4 * n.val)) s = (s.cpu32.timers[n].counter.setWidth 32, s) := by
  have hn := n.isLt
  obtain ⟨hcount, hcontrol⟩ := io32_timer n
  have haddr : 0x04000100 + 4 * n.val = 0x4000000 + (0x100 + 4 * n.val) := by omega
  have haddr' : 0x04000102 + 4 * n.val = 0x4000000 + (0x102 + 4 * n.val) := by omega
  refine ⟨?_, ?_, ?_⟩
  · rw [haddr, memWrite_half_io_setWidth (by omega) (by omega), hcount]
    rfl
  · have hwrite := writeTimerControl_eq s.cpu32 n v
    rw [haddr', memWrite_half_io_setWidth (by omega) (by omega), hcontrol]
    exact congrArg (fun c => Host.Outcome.next { s with cpu32 := c }) hwrite
  · rw [haddr, memRead_half_io (by omega) (by omega), hcount]
    rfl

/-- Settles O50: one cycle by the timer's phase, the chain by induction from timer 3 down, and the control writes. -/
theorem cpu32Timers : Obligations.Cpu32Timers := by
  refine ⟨?_, advance_timer0, timer_registers⟩
  intro c n div hdiv
  have hdivisor : Timer.divisor c.timers[n] = div := hdiv
  refine ⟨cycleTimer_idle, fun hrun hp => ?_, fun hrun hp hcounter => ?_, fun hrun hp _ => ?_⟩
  · exact cycleTimer_phase hrun (hdivisor ▸ hp)
  · exact cycleTimer_increment hrun (hp.trans hdivisor.symm) hcounter
  · have hover := cycleTimer_overflow hrun (hp.trans hdivisor.symm)
    exact ⟨_, rfl, cycleTimer_timersOnly c n, hover⟩

end Sys2Proof.Proofs
end

section
/-! PROOFS. The units of a DMA run between regions of core memory (R102, R103, R773). -/

namespace Sys2Proof.Proofs

open Sys2Proof.Machine Sys2Proof.Claims

/-! An aligned unit of core memory. -/

theorem alignTo_half_toNat (a : Word) : (alignTo .half a).toNat = a.toNat / 2 * 2 := by
  have hmask : ∀ k, k < 32 → (~~~1#32).getLsbD k = decide (1 ≤ k) := by decide
  have h : alignTo .half a = a >>> 1 <<< 1 := by
    apply BitVec.eq_of_getLsbD_eq
    intro k hk
    rw [alignTo, BitVec.getLsbD_and, hmask k hk, BitVec.getLsbD_shiftLeft, BitVec.getLsbD_ushiftRight]
    by_cases h1 : 1 ≤ k
    · simp [hk, h1, Nat.not_lt.mpr h1]
    · simp [h1, Nat.lt_of_not_le h1]
  rw [h, BitVec.toNat_shiftLeft, BitVec.toNat_ushiftRight, Nat.shiftRight_eq_div_pow, Nat.shiftLeft_eq]
  have := a.isLt
  omega

theorem alignTo_toNat (w : Width) (a : Word) : (alignTo w a).toNat = a.toNat / w.bytes * w.bytes := by
  cases w with
  | byte => exact ((Nat.mul_one _).trans (Nat.div_one _)).symm
  | half => exact alignTo_half_toNat a
  | word => exact alignTo_word_toNat a

theorem alignTo_alignTo (w : Width) (a : Word) : alignTo w (alignTo w a) = alignTo w a := by
  apply BitVec.eq_of_toNat_eq
  rw [alignTo_toNat, alignTo_toNat, Nat.mul_div_cancel _ (by cases w <;> decide)]

theorem region_alignTo (w : Width) (a : Word) : region (alignTo w a) = region a := by
  cases w with
  | byte => rfl
  | word => exact region_alignTo_word a
  | half =>
    have hdiv : a.toNat / 2 * 2 / 0x1000000 = a.toNat / 0x1000000 := by omega
    have hbios : a.toNat / 2 * 2 < 0x4000 ↔ a.toNat < 0x4000 := by omega
    have hio : a.toNat / 2 * 2 < 0x4000400 ↔ a.toNat < 0x4000400 := by omega
    simp only [region, alignTo_half_toNat, hdiv, hbios, hio]

/-- A unit does not cross the places where the mirrors of a region meet (R124 to R127). -/
theorem unit_mod {b k : Nat} (hb : b = 1 ∨ b = 2 ∨ b = 4) (hk : 4 ∣ k) (a : Nat) {j : Nat} (hj : j < b) :
    (a / b * b + j) % k = a / b * b % k + j := by
  obtain ⟨q, rfl⟩ := hk
  have hbq : b ∣ 4 * q := Dvd.dvd.mul_right (by obtain rfl | rfl | rfl := hb <;> decide) q
  obtain ⟨p, hp⟩ := hbq
  rw [hp, Nat.mul_comm (a / b) b, Nat.mul_mod_mul_left, Nat.add_mod, Nat.mul_mod_mul_left]
  by_cases hzero : p = 0
  · subst hzero
    simp
  · have hlt : a / b % p < p := Nat.mod_lt _ (Nat.pos_of_ne_zero hzero)
    have hmul : b * (a / b % p + 1) ≤ b * p := Nat.mul_le_mul_left b hlt
    have hbp : b * 1 ≤ b * p := Nat.mul_le_mul_left b (Nat.pos_of_ne_zero hzero)
    rw [Nat.mod_eq_of_lt (show j < b * p by omega), Nat.mod_eq_of_lt (by rw [Nat.mul_add] at hmul; omega)]

theorem vramOffset_unit {b : Nat} (hb : b = 1 ∨ b = 2 ∨ b = 4) (a : Nat) {j : Nat} (hj : j < b) :
    vramOffset (a / b * b + j) = vramOffset (a / b * b) + j := by
  have hfold : a / b * b % 0x20000 < 0x18000 ↔ a / b * b % 0x20000 + j < 0x18000 := by
    obtain rfl | rfl | rfl := hb <;> omega
  unfold vramOffset
  rw [unit_mod hb (by decide) a hj]
  by_cases h : a / b * b % 0x20000 < 0x18000
  · rw [if_pos h, if_pos (hfold.mp h)]
  · rw [if_neg h, if_neg (mt hfold.mpr h)]
    omega

/-- The bytes of an aligned unit stand side by side (R124 to R127). -/
theorem memKey_unit {r : Region} (hr : isRam r) (w : Width) (a : Nat) {j : Nat} (hj : j < w.bytes) :
    memKey r (a / w.bytes * w.bytes + j) = memKey r (a / w.bytes * w.bytes) + j := by
  have hb : w.bytes = 1 ∨ w.bytes = 2 ∨ w.bytes = 4 := by cases w <;> decide
  obtain rfl | rfl | rfl | rfl | rfl := hr
  · simp only [memKey, unit_mod hb (show 4 ∣ 0x40000 by decide) a hj, Nat.add_assoc]
  · simp only [memKey, unit_mod hb (show 4 ∣ 0x8000 by decide) a hj, Nat.add_assoc]
  · simp only [memKey, unit_mod hb (show 4 ∣ 0x400 by decide) a hj, Nat.add_assoc]
  · simp only [memKey, vramOffset_unit hb a hj, Nat.add_assoc]
  · simp only [memKey, unit_mod hb (show 4 ∣ 0x400 by decide) a hj, Nat.add_assoc]

theorem vramOffset_lt (a : Nat) : vramOffset a < 0x18000 := by
  unfold vramOffset
  split <;> omega

/-- The page a region's keys stand in. -/
def pageOf : Region → Nat
  | .ewram => 2
  | .iwram => 3
  | .palette => 5
  | .vram => 6
  | .oam => 7
  | _ => 0

theorem memKey_page {r : Region} (hr : isRam r) (a : Nat) : memKey r a / 0x1000000 = pageOf r := by
  have hvram := vramOffset_lt a
  obtain rfl | rfl | rfl | rfl | rfl := hr <;> simp only [memKey, pageOf] <;> omega

/-- The region of core memory on a page. -/
def ramOfPage : Nat → Region
  | 2 => .ewram
  | 3 => .iwram
  | 5 => .palette
  | 6 => .vram
  | 7 => .oam
  | _ => .unmapped

theorem ramOfPage_pageOf {r : Region} (hr : isRam r) : ramOfPage (pageOf r) = r := by
  obtain rfl | rfl | rfl | rfl | rfl := hr <;> rfl

theorem memKey_ne_of_region {r r' : Region} (hr : isRam r) (hr' : isRam r') (hne : r ≠ r') (a b : Nat) :
    memKey r a ≠ memKey r' b := by
  intro h
  have hpage := memKey_page hr a
  rw [h, memKey_page hr'] at hpage
  rw [← ramOfPage_pageOf hr, ← ramOfPage_pageOf hr', hpage] at hne
  exact hne rfl

/-- A byte of a little-endian read (R102). -/
theorem readLe_byte (m : Memory) (a n : Nat) {k : Nat} (hk : k < n) :
    BitVec.ofNat 8 (Memory.readLe m a n / 256 ^ k) = Memory.read m (a + k) := by
  induction n generalizing a k with
  | zero => omega
  | succ n ih =>
    have hbyte := (Memory.read m a).isLt
    rw [Memory.readLe]
    cases k with
    | zero =>
      refine BitVec.eq_of_toNat_eq ((BitVec.toNat_ofNat _ _).trans ?_)
      rw [Nat.pow_zero, Nat.div_one, show a + 0 = a from rfl]
      omega
    | succ k =>
      have hdiv : ((Memory.read m a).toNat + 256 * Memory.readLe m (a + 1) n) / 256 ^ (k + 1) =
          Memory.readLe m (a + 1) n / 256 ^ k := by
        rw [Nat.pow_succ', ← Nat.div_div_eq_div_mul]
        congr 1
        omega
      rw [hdiv, ih (a + 1) (Nat.lt_of_succ_lt_succ hk), Nat.add_assoc, Nat.add_comm 1 k]

theorem ofNat8_mod_div (x : Nat) {j : Nat} (hj : j < 4) :
    BitVec.ofNat 8 (x % 2 ^ 32 / 256 ^ j) = BitVec.ofNat 8 (x / 256 ^ j) := by
  apply BitVec.eq_of_toNat_eq
  rw [BitVec.toNat_ofNat, BitVec.toNat_ofNat]
  interval_cases j <;> omega

/-! One unit. -/

/-- The memory after one unit from the region rs to the region rd (R773). -/
def unitMem (rs rd : Region) (w : Width) (src dst : Word) (m : Memory) : Memory :=
  Memory.writeLe m (memKey rd (dst.toNat / w.bytes * w.bytes))
    (Memory.readLe m (memKey rs (src.toNat / w.bytes * w.bytes)) w.bytes % 2 ^ 32) w.bytes

theorem wf_unitMem (rs rd : Region) (w : Width) (src dst : Word) {m : Memory} (h : Memory.wf m = true) :
    Memory.wf (unitMem rs rd w src dst m) = true := Memory.wf_writeLe _ _ _ h

theorem bytes_le_four (w : Width) : w.bytes ≤ 4 := by cases w <;> decide

theorem read_unitMem_inside {rs rd : Region} (hrs : isRam rs) (hrd : isRam rd) (w : Width) (src dst : Word) {m : Memory}
    (h : Memory.wf m = true) {j : Nat} (hj : j < w.bytes) :
    Memory.read (unitMem rs rd w src dst m) (memKey rd (dst.toNat / w.bytes * w.bytes + j)) =
      Memory.read m (memKey rs (src.toNat / w.bytes * w.bytes + j)) := by
  rw [memKey_unit hrd w _ hj, memKey_unit hrs w _ hj, unitMem, Memory.read_writeLe_inside _ _ _ _ h hj,
    ofNat8_mod_div _ (Nat.lt_of_lt_of_le hj (bytes_le_four w)), readLe_byte _ _ _ hj]

theorem read_unitMem_outside {rd : Region} (hrd : isRam rd) (rs : Region) (w : Width) (src dst : Word) {m : Memory}
    (h : Memory.wf m = true) {x : Nat} (hx : ∀ j, j < w.bytes → x ≠ memKey rd (dst.toNat / w.bytes * w.bytes + j)) :
    Memory.read (unitMem rs rd w src dst m) x = Memory.read m x := by
  refine Memory.read_writeLe_outside _ _ _ _ h ?_
  by_contra hin
  have hlt : x - memKey rd (dst.toNat / w.bytes * w.bytes) < w.bytes := by omega
  refine hx _ hlt ?_
  rw [memKey_unit hrd w _ hlt]
  omega

theorem memWrite_work {rd : Region} {w : Width} {a : Word} (h : region a = rd) (hrd : rd = .ewram ∨ rd = .iwram)
    (m : Master) (v : Word) (s : State) : memWrite m w a v s = .next (ramWrite rd w a v s) := by
  unfold memWrite
  obtain rfl | rfl := hrd <;> rw [h]

theorem isRam_of_work {r : Region} (h : r = .ewram ∨ r = .iwram) : isRam r := by
  obtain rfl | rfl := h
  · exact .inl rfl
  · exact .inr (.inl rfl)

/-- The state after units of channel n: its addresses, memory, and the last access. -/
def dmaAfter (n : Fin 4) (d : DmaChannel) (m : Memory) (last : Option Access) (s : State) : State :=
  { s with cpu32 := { s.cpu32 with dma := s.cpu32.dma.set n d, mem := m, lastAccess := last } }

theorem dmaUnit_copies {n : Fin 4} {w : Width} {rs rd : Region} {d : DmaChannel} {s : State} (count : Nat)
    (hd : s.cpu32.dma[n] = d) (hsrc : d.srcControl ≠ 3) (hrs : isRam rs) (hrd : rd = .ewram ∨ rd = .iwram)
    (hs : region d.isrc = rs) (ht : region d.idst = rd) :
    ∃ last, dmaUnit n w count s =
      .next (dmaAfter n (d.next w) (unitMem rs rd w d.isrc d.idst s.cpu32.mem) last s) := by
  subst hs
  have hread := memRead_ram (w := w) (a := alignTo w d.isrc)
    (s := recordAccess (alignTo w d.isrc) w false s) (by rwa [region_alignTo])
  have hwrite := memWrite_work (w := w) (a := alignTo w d.idst) (by rwa [region_alignTo]) hrd
  refine ⟨some { addr := alignTo w d.idst, width := 8 * w.bytes, code := false }, ?_⟩
  simp only [dmaUnit, hd, if_neg hsrc, hread, hwrite, thenRes_next]
  simp only [ramWrite, ramRead, region_alignTo, alignTo_alignTo, alignTo_toNat, BitVec.toNat_ofNat]
  subst hd
  rfl

end Sys2Proof.Proofs
end

section
/-! PROOFS. A DMA run (R66, R770, R773 to R776). -/

namespace Sys2Proof.Proofs

open Sys2Proof.Machine Sys2Proof.Claims

/-! The addresses of a run (R773). -/

theorem dmaStep_eq_dmaMove (control : Nat) (w : Width) : dmaStep control w = dmaMove control w := by
  unfold dmaStep dmaMove
  split
  · rfl
  · rfl
  · rename_i h1 h2
    rw [if_neg h1, if_neg h2]

/-- The address of the k-th unit. -/
def unitAddr (a move : Word) (k : Nat) : Word := a + BitVec.ofNat 32 k * move

theorem unitAddr_zero (a move : Word) : unitAddr a move 0 = a := by
  simp [unitAddr]

theorem unitAddr_succ (a move : Word) (k : Nat) : unitAddr (a + move) move k = unitAddr a move (k + 1) := by
  rw [unitAddr, unitAddr, BitVec.ofNat_add, BitVec.add_mul, BitVec.add_assoc, BitVec.add_comm move]
  simp

theorem page_of_work {a : Word} {rd : Region} (h : region a = rd) (hrd : rd = .ewram ∨ rd = .iwram) :
    a.toNat / 0x1000000 = pageOf rd := by
  unfold region at h
  split at h
  all_goals try split at h
  all_goals (subst h; obtain hrd | hrd := hrd)
  all_goals try cases hrd
  all_goals assumption

/-- Two units of a run at different addresses stand this far apart. -/
theorem unitAddr_toNat {a : Word} {rd : Region} (ha : region a = rd) (hrd : rd = .ewram ∨ rd = .iwram) {control : Nat}
    {w : Width} {k : Nat} (hne : unitAddr a (dmaMove control w) k ≠ a) (hk : k * w.bytes ≤ 0x8000) :
    0 < k ∧ ((unitAddr a (dmaMove control w) k).toNat = a.toNat + k * w.bytes ∨
      a.toNat = (unitAddr a (dmaMove control w) k).toNat + k * w.bytes) := by
  have hpage := page_of_work ha hrd
  have hbounds : 0x2000000 ≤ a.toNat ∧ a.toNat < 0x4000000 := by
    obtain rfl | rfl := hrd <;> (rw [pageOf] at hpage; omega)
  have hpos : 0 < k := by
    refine Nat.pos_of_ne_zero ?_
    rintro rfl
    exact hne (unitAddr_zero a _)
  refine ⟨hpos, ?_⟩
  unfold unitAddr dmaMove at *
  split at hne
  · rename_i h1
    rw [if_pos h1]
    refine .inr ?_
    have hsub : a + BitVec.ofNat 32 k * -BitVec.ofNat 32 w.bytes = a - BitVec.ofNat 32 (k * w.bytes) := by
      rw [BitVec.mul_neg, ← BitVec.ofNat_mul, BitVec.sub_eq_add_neg]
    rw [hsub, BitVec.toNat_sub, BitVec.toNat_ofNat]
    omega
  · rename_i h1
    split at hne
    · exact absurd (by simp) hne
    · rename_i h2
      rw [if_neg h1, if_neg h2]
      refine .inl ?_
      rw [← BitVec.ofNat_mul, BitVec.toNat_add, BitVec.toNat_ofNat]
      omega

/-- Units of EWRAM or IWRAM at different addresses of one run share no byte, through the mirrors (R124, R125). -/
theorem memKey_units_ne {a : Word} {rd : Region} (ha : region a = rd) (hrd : rd = .ewram ∨ rd = .iwram) {control : Nat}
    {w : Width} {k : Nat} (hne : unitAddr a (dmaMove control w) k ≠ a) (hk : (k + 1) * w.bytes ≤ 0x8000) {j j' : Nat}
    (hj : j < w.bytes) (hj' : j' < w.bytes) :
    memKey rd (a.toNat / w.bytes * w.bytes + j) ≠
      memKey rd ((unitAddr a (dmaMove control w) k).toNat / w.bytes * w.bytes + j') := by
  rw [Nat.add_mul] at hk
  obtain ⟨hpos, hdist⟩ := unitAddr_toNat ha hrd hne (by omega)
  generalize (unitAddr a (dmaMove control w) k).toNat = x at hdist
  generalize a.toNat = y at hdist
  cases w <;> simp only [Width.bytes] at * <;> obtain rfl | rfl := hrd <;> simp only [memKey] <;> omega

/-! The units (R773). -/

/-- A channel after k units. -/
def dmaAdvanced (d : DmaChannel) (w : Width) (k : Nat) : DmaChannel :=
  { d with
    isrc := unitAddr d.isrc (dmaMove d.srcControl w) k, idst := unitAddr d.idst (dmaMove d.dstControl w) k }

theorem dmaNext_eq (d : DmaChannel) (w : Width) : d.next w =
    { d with isrc := d.isrc + dmaMove d.srcControl w, idst := d.idst + dmaMove d.dstControl w } := by
  rw [DmaChannel.next, dmaStep_eq_dmaMove, dmaStep_eq_dmaMove]

theorem dmaAdvanced_zero (d : DmaChannel) (w : Width) : dmaAdvanced d w 0 = d := by
  rw [dmaAdvanced, unitAddr_zero, unitAddr_zero]

theorem dmaAdvanced_next (d : DmaChannel) (w : Width) (k : Nat) : dmaAdvanced (d.next w) w k = dmaAdvanced d w (k + 1) := by
  rw [dmaNext_eq]
  simp only [dmaAdvanced, ← unitAddr_succ]
  rfl

/-- The memory after N units of a run: each byte of a unit that no later one stores over is the source's, and no byte
outside the units has changed (R773). -/
structure Copied (rs rd : Region) (w : Width) (d : DmaChannel) (N : Nat) (m m' : Memory) : Prop where
  wf : Memory.wf m' = true
  copied : ∀ k j, k < N → j < w.bytes →
    (∀ l, k < l → l < N → (dmaAdvanced d w l).idst ≠ (dmaAdvanced d w k).idst) →
    Memory.read m' (memKey rd ((dmaAdvanced d w k).idst.toNat / w.bytes * w.bytes + j)) =
      Memory.read m (memKey rs ((dmaAdvanced d w k).isrc.toNat / w.bytes * w.bytes + j))
  kept : ∀ x, (∀ k j, k < N → j < w.bytes →
      x ≠ memKey rd ((dmaAdvanced d w k).idst.toNat / w.bytes * w.bytes + j)) →
    Memory.read m' x = Memory.read m x

section
variable {n : Fin 4} {w : Width} {rs rd : Region} (hrs : isRam rs) (hrd : rd = .ewram ∨ rd = .iwram) (hne : rs ≠ rd)
include hrs hrd hne

/-- One unit, then the rest. -/
theorem copied_succ {d : DmaChannel} {N : Nat} {m m' : Memory} (hm : Memory.wf m = true)
    (hN : (N + 1) * w.bytes ≤ 0x8000)
    (hregions : ∀ k, k < N + 1 → region (dmaAdvanced d w k).isrc = rs ∧ region (dmaAdvanced d w k).idst = rd)
    (h : Copied rs rd w (d.next w) N (unitMem rs rd w d.isrc d.idst m) m') : Copied rs rd w d (N + 1) m m' := by
  obtain ⟨hwf, hcopied, hkept⟩ := h
  simp only [dmaAdvanced_next] at hcopied hkept
  have hram := isRam_of_work hrd
  have hfirst := dmaAdvanced_zero d w
  have houtside := fun {x} => read_unitMem_outside hram rs w d.isrc d.idst hm (x := x)
  refine ⟨hwf, fun k j hk hj hlast => ?_, fun x hx => ?_⟩
  · cases k with
    | zero =>
      rw [hfirst] at hlast ⊢
      rw [hkept, read_unitMem_inside hrs hram w d.isrc d.idst hm hj]
      intro l j' hl hj'
      have hdst : region d.idst = rd := by
        have h0 := (hregions 0 (Nat.succ_pos N)).2
        rwa [hfirst] at h0
      have hbytes : (l + 1 + 1) * w.bytes ≤ 0x8000 :=
        Nat.le_trans (Nat.mul_le_mul_right _ (by omega)) hN
      exact memKey_units_ne hdst hrd (hlast (l + 1) (Nat.succ_pos l) (Nat.succ_lt_succ hl)) hbytes hj hj'
    | succ k =>
      rw [hcopied k j (Nat.lt_of_succ_lt_succ hk) hj fun l hl hlN => hlast (l + 1) (Nat.succ_lt_succ hl) (Nat.succ_lt_succ hlN)]
      exact houtside fun j' _ => memKey_ne_of_region hrs hram hne _ _
  · rw [hkept x fun k j hk hj => hx (k + 1) j (Nat.succ_lt_succ hk) hj]
    refine houtside fun j hj => ?_
    have h0 := hx 0 j (Nat.succ_pos N) hj
    rwa [hfirst] at h0

theorem dmaTransfer_copies (count N : Nat) {d : DmaChannel} {s : State} (hm : Memory.wf s.cpu32.mem = true)
    (hd : s.cpu32.dma[n] = d) (hsrc : d.srcControl ≠ 3) (hN : N * w.bytes ≤ 0x8000)
    (hregions : ∀ k, k < N → region (dmaAdvanced d w k).isrc = rs ∧ region (dmaAdvanced d w k).idst = rd) :
    ∃ m last, dmaTransfer n w count N s = .next (dmaAfter n (dmaAdvanced d w N) m last s) ∧
      Copied rs rd w d N s.cpu32.mem m := by
  induction N generalizing d s with
  | zero =>
    refine ⟨s.cpu32.mem, s.cpu32.lastAccess, ?_, hm, fun k j hk => absurd hk (Nat.not_lt_zero k), fun _ _ => rfl⟩
    rw [dmaAdvanced_zero, dmaAfter, ← hd]
    simp [dmaTransfer]
  | succ N ih =>
    have hfirst := hregions 0 (Nat.succ_pos N)
    rw [dmaAdvanced_zero] at hfirst
    obtain ⟨last, hunit⟩ := dmaUnit_copies count hd hsrc hrs hrd hfirst.1 hfirst.2
    have hchannel : (dmaAfter n (d.next w) (unitMem rs rd w d.isrc d.idst s.cpu32.mem) last s).cpu32.dma[n] = d.next w := by
      simp [dmaAfter]
    obtain ⟨m, last', hrest, hcopied⟩ := ih (wf_unitMem rs rd w d.isrc d.idst hm) hchannel hsrc
      (Nat.le_trans (Nat.mul_le_mul_right _ (Nat.le_succ N)) hN)
      (fun k hk => by rw [dmaAdvanced_next]; exact hregions (k + 1) (Nat.succ_lt_succ hk))
    refine ⟨m, last', ?_, copied_succ hrs hrd hne hm hN hregions hcopied⟩
    rw [dmaTransfer, hunit, thenRes_next, hrest, dmaAdvanced_next]
    simp [dmaAfter]

end

end Sys2Proof.Proofs
end

section
/-! PROOFS. The end of a DMA run, its place in the step, and control writes (R66, R770, R774 to R776). -/

namespace Sys2Proof.Proofs

open Sys2Proof.Machine Sys2Proof.Claims

/-! The channel after its run (R774). -/

theorem dmaUnits_eq (n : Fin 4) (v : Half) :
    dmaUnits n v = if v = 0#16 then (if n = 3 then 0x10000 else 0x4000) else v.toNat := by
  have hzero : v.toNat = 0 ↔ v = 0#16 := by rw [← BitVec.toNat_inj, BitVec.toNat_ofNat, Nat.zero_mod]
  simp only [dmaUnits, hzero]

/-- The channel is to run again (R774). -/
def Repeats (d : DmaChannel) : Prop := d.control.getLsbD 9 = true ∧ d.control.toNat / 4096 % 4 ≠ 0

theorem complete_of_repeats {n : Fin 4} {d : DmaChannel} (h : Repeats d) : d.complete n = { d with
    pending := false, icount := dmaUnits n d.cntL
    idst := if d.control.toNat / 32 % 4 = 3 then d.dad &&& dmaDadMask n else d.idst } := if_pos h

theorem complete_of_not_repeats {n : Fin 4} {d : DmaChannel} (h : ¬ Repeats d) :
    d.complete n = { d with pending := false, control := d.control &&& 0x7FFF#16 } := if_neg h

/-- The CPU-32 half after a run, but for the cycles' timers. -/
def dmaFinished (n : Fin 4) (d : DmaChannel) (w : Width) (m : Memory) (last : Option Access) (c : Cpu32) : Cpu32 :=
  { c with
    mem := m, lastAccess := last, dma := c.dma.set n ((dmaAdvanced d w d.icount).complete n)
    iflag := if d.control.getLsbD 14 then c.iflag ||| BitVec.ofNat 14 (2 ^ (8 + n.val)) else c.iflag }

theorem dmaFinished_same (n : Fin 4) (d : DmaChannel) (w : Width) (m : Memory) (last : Option Access) (c : Cpu32) :
    (dmaFinished n d w m last c).dma[n] = (dmaAdvanced d w d.icount).complete n := by simp [dmaFinished]

theorem dmaFinished_ne {n k : Fin 4} (h : k ≠ n) (d : DmaChannel) (w : Width) (m : Memory) (last : Option Access)
    (c : Cpu32) : (dmaFinished n d w m last c).dma[k] = c.dma[k] := by
  have hval : n.val ≠ k.val := fun e => h (Fin.ext e.symm)
  simp [dmaFinished, hval]

/-- A run is its units, then the end of its channel and the cycles it takes (R773 to R776). -/
theorem dmaRun_of_transfer {n : Fin 4} {d : DmaChannel} {w : Width} {m : Memory} {last : Option Access} {s : State}
    (hd : s.cpu32.dma[n] = d) (hw : w = if d.control.getLsbD 10 then .word else .half)
    (h : dmaTransfer n w d.icount d.icount s = .next (dmaAfter n (dmaAdvanced d w d.icount) m last s)) :
    dmaRun n s = .next (ran (dmaCycles w d.isrc d.idst d.icount s)
      { s with cpu32 := dmaFinished n d w m last s.cpu32 }) := by
  have hwidth : DmaChannel.width d = w := hw.symm
  have hchannel : (dmaAfter n (dmaAdvanced d w d.icount) m last s).cpu32.dma[n] = dmaAdvanced d w d.icount := by
    simp [dmaAfter]
  have hcost : dmaCost d s = dmaCycles w d.isrc d.idst d.icount s := by
    rw [← hwidth]
    rfl
  have hset : (on32 (fun c => c.setDma n (c.dma[n].complete n)) (dmaAfter n (dmaAdvanced d w d.icount) m last s)) =
      dmaAfter n ((dmaAdvanced d w d.icount).complete n) m last s := by
    simp only [on32, hchannel]
    simp [dmaAfter, Cpu32.setDma]
  have hirq : (dmaAdvanced d w d.icount).control.getLsbD 14 = d.control.getLsbD 14 := rfl
  simp only [dmaRun, hd, hwidth, h, thenRes_next, hset, hchannel, hcost, hirq]
  cases hbit : d.control.getLsbD 14 with
  | true =>
    simp only [dmaFinished, hbit, if_true]
    rfl
  | false =>
    simp only [dmaFinished, hbit, Bool.false_eq_true, if_false]
    rfl

/-! The step (R775, R811). -/

theorem lowestPending_eq_some {c : Cpu32} {n : Fin 4} (hn : c.dma[n].pending = true)
    (hlow : ∀ m : Fin 4, m.val < n.val → c.dma[m].pending = false) : c.lowestPending = some n := by
  match n with
  | 0 => exact if_pos hn
  | 1 =>
    have h0 : ¬ c.dma[0].pending = true := Bool.eq_false_iff.mp (hlow 0 (by decide))
    exact (if_neg h0).trans (if_pos hn)
  | 2 =>
    have h0 : ¬ c.dma[0].pending = true := Bool.eq_false_iff.mp (hlow 0 (by decide))
    have h1 : ¬ c.dma[1].pending = true := Bool.eq_false_iff.mp (hlow 1 (by decide))
    exact (if_neg h0).trans ((if_neg h1).trans (if_pos hn))
  | 3 =>
    have h0 : ¬ c.dma[0].pending = true := Bool.eq_false_iff.mp (hlow 0 (by decide))
    have h1 : ¬ c.dma[1].pending = true := Bool.eq_false_iff.mp (hlow 1 (by decide))
    have h2 : ¬ c.dma[2].pending = true := Bool.eq_false_iff.mp (hlow 2 (by decide))
    exact (if_neg h0).trans ((if_neg h1).trans ((if_neg h2).trans (if_pos hn)))

theorem thenRes_assoc (r : Res) (f g : State → Res) :
    thenRes (thenRes r f) g = thenRes r fun s => thenRes (f s) g := by
  cases r <;> rfl

theorem step_eq_step32 {s : State} (hf : s.fault = none) (hv : s.params.variant = .cpu32) : step s = step32 s := by
  simp only [step, hf, hv]

theorem dmaPhase_of_pos {fuel : Nat} (hfuel : 0 < fuel) {n : Fin 4} {s : State} (h : s.cpu32.lowestPending = some n) :
    dmaPhase fuel s = thenRes (dmaRun n s) (dmaPhase (fuel - 1)) := by
  obtain ⟨k, rfl⟩ := Nat.exists_eq_succ_of_ne_zero hfuel.ne'
  exact dmaPhase_pending k h

theorem step_of_pending {n : Fin 4} {s : State} (hf : s.fault = none) (hv : s.params.variant = .cpu32)
    (h : s.cpu32.lowestPending = some n) :
    step s = thenRes (dmaRun n { s with cycles := 0, outbox := [] }) fun u =>
      thenRes (dmaPhase (Config.dmaRunsPerStep - 1) u) afterDma := by
  have hpos : 0 < Config.dmaRunsPerStep := Nat.two_pow_pos 64
  rw [step_eq_step32 hf hv, step32, dmaPhase_of_pos hpos (s := beginStep s) h, thenRes_assoc]
  rfl

/-- Settles O51: the units by induction, the end of the run by its repeat bit, and the step by its lowest pending
channel. -/
theorem cpu32DmaRun : Obligations.Cpu32DmaRun := by
  refine ⟨?_, fun n s hf hv hn hlow => step_of_pending hf hv (lowestPending_eq_some hn hlow), fun n v m s => ?_⟩
  · intro n rs rd d w s hm hd hw hsrc hrs hrd hne hN src dst repeats hregions
    obtain ⟨m, last, htransfer, hwf, hcopied, hkept⟩ :=
      dmaTransfer_copies hrs hrd hne d.icount d.icount hm hd hsrc hN hregions
    refine ⟨_, dmaFinished n d w m last s.cpu32, dmaRun_of_transfer hd hw htransfer, rfl, hcopied, hkept, ?_⟩
    have hother : ∀ k : Fin 4, k ≠ n → (dmaFinished n d w m last s.cpu32).dma[k] = s.cpu32.dma[k] :=
      fun k hk => dmaFinished_ne hk d w m last s.cpu32
    by_cases hrep : repeats
    · have hadv : Repeats (dmaAdvanced d w d.icount) := hrep
      rw [dmaFinished_same, complete_of_repeats hadv]
      refine ⟨rfl, ?_, ?_, ?_, hother, rfl, rfl⟩
      · by_cases hinc : d.control.toNat / 32 % 4 = 3
        · exact (if_pos hinc).trans (if_pos ⟨hrep, hinc⟩).symm
        · exact (if_neg hinc).trans (if_neg fun h => hinc h.2).symm
      · rw [if_neg (not_not.mpr hrep)]
        exact dmaUnits_eq n d.cntL
      · rw [if_pos hrep]
        rfl
    · have hadv : ¬ Repeats (dmaAdvanced d w d.icount) := hrep
      rw [dmaFinished_same, complete_of_not_repeats hadv]
      refine ⟨rfl, ?_, ?_, ?_, hother, rfl, rfl⟩
      · exact (if_neg fun h => hrep h.1).symm
      · rw [if_pos hrep]
        rfl
      · rw [if_neg hrep]
        rfl
  · have hn := n.isLt
    have haddr : 0x040000BA + 12 * n.val = 0x4000000 + (0xBA + 12 * n.val) := by omega
    obtain ⟨-, -, -, -, -, hctl⟩ := io32_dma n
    dsimp only
    rw [haddr, memWrite_half_io_setWidth (by omega) (by omega), hctl, (dmaMasks n).2]
    refine ⟨writeDmaControl_disables n v s, writeDmaControl_stays n v s, fun hv hd hsrc => ?_⟩
    refine (writeDmaControl_enables n v s hv (Bool.not_eq_true _ ▸ hd) hsrc).trans ?_
    rw [latched, dmaUnits_eq]
    rfl

end Sys2Proof.Proofs
end

section
/-! PROOFS. A CPU-8 step runs the decoded instruction (R34, R300, R446, R810). -/

namespace Sys2Proof.Proofs

open Sys2Proof.Machine Sys2Proof.Claims

/-- The state with PC at an address. -/
def withPc8 (p : Half) (s : State) : State := on8 (fun c => { c with pc := p }) s

/-- A read does not look at PC, and leaves it. -/
theorem read8_withPc8 (a p : Half) (s : State) :
    read8 a (withPc8 p s) = ((read8 a s).1, withPc8 p (read8 a s).2) := by
  have hplace : place8 (withPc8 p s).params.colorMode (withPc8 p s).cpu8 a = place8 s.params.colorMode s.cpu8 a := rfl
  have hcart : (withPc8 p s).cart8 = s.cart8 := rfl
  have hmode : (withPc8 p s).params.colorMode = s.params.colorMode := rfl
  unfold read8
  rw [hplace, hcart, hmode]
  cases place8 s.params.colorMode s.cpu8 a with
  | cart =>
    dsimp only
    cases Image.find? s.cart8 a.toNat <;> rfl
  | io offset =>
    dsimp only
    cases io8 s.params.colorMode offset <;> rfl
  | _ => rfl

/-! The fetch (R300). -/

section
variable {s : State} {bytes : List Byte} (h : CodeAt8 s s.cpu8.pc bytes)
include h

/-- Each byte of the code is fetched in turn, PC past it. -/
theorem fetchByte_code {j : Nat} {b : Byte} (hj : bytes[j]? = some b) :
    fetchByte (withPc8 (s.cpu8.pc + BitVec.ofNat 16 j) s) = (b, withPc8 (s.cpu8.pc + BitVec.ofNat 16 (j + 1)) s) := by
  have hpc : (withPc8 (s.cpu8.pc + BitVec.ofNat 16 j) s).cpu8.pc = s.cpu8.pc + BitVec.ofNat 16 j := rfl
  rw [fetchByte, hpc, read8_withPc8, h j b hj, BitVec.ofNat_add, ← BitVec.add_assoc]
  rfl

theorem fetchByte_first {b : Byte} (hb : bytes[0]? = some b) :
    fetchByte s = (b, withPc8 (s.cpu8.pc + BitVec.ofNat 16 1) s) := by
  have hstart : withPc8 (s.cpu8.pc + BitVec.ofNat 16 0) s = s := by
    rw [BitVec.add_zero]
    rfl
  have hfetch := fetchByte_code h hb
  rwa [hstart] at hfetch

/-- The bytes at PC that decode are fetched as their instruction, PC past them (R200, R300). -/
theorem fetch8_of_decode {i : Instr} (hi : decode .cpu8 bytes = .ok (i, [])) :
    fetch8 s = (i, withPc8 (s.cpu8.pc + BitVec.ofNat 16 bytes.length) s) := by
  have hdecode : decode8 bytes = .ok (i, []) := hi
  unfold decode8 at hdecode
  split at hdecode
  · cases hdecode
  · rename_i op rest
    have hop := fetchByte_first h (b := op) rfl
    have hsecond : ∀ n, rest[0]? = some n → fetchByte (withPc8 (s.cpu8.pc + BitVec.ofNat 16 1) s) =
        (n, withPc8 (s.cpu8.pc + BitVec.ofNat 16 2) s) := fun n hn => fetchByte_code h (j := 1) hn
    have hthird : ∀ n, rest[1]? = some n → fetchByte (withPc8 (s.cpu8.pc + BitVec.ofNat 16 2) s) =
        (n, withPc8 (s.cpu8.pc + BitVec.ofNat 16 3) s) := fun n hn => fetchByte_code h (j := 2) hn
    split at hdecode
    · rename_i hlen
      cases hdecode
      simp only [fetch8, hop, hlen]
      rfl
    · rename_i hlen
      cases hdecode
      simp only [fetch8, hop, hlen, hsecond _ rfl]
      rfl
    · rename_i hlen
      cases hdecode
      simp only [fetch8, hop, hlen, hsecond _ rfl, hthird _ rfl]
      rfl
    · cases hdecode

end

/-! The step (R810). -/

theorem completeEi_eq (pend : Bool) (t : State) : completeEi pend t = { t with
    cpu8 := if pend = true ∧ t.cpu8.eiPending = true then { t.cpu8 with ime := true, eiPending := false } else t.cpu8 } := by
  unfold completeEi
  split <;> rfl

theorem step_of_fetches8 {s : State} (h : Fetches8 s) : step s = runInstruction8 { s with cycles := 0, outbox := [] } := by
  obtain ⟨hf, hv, hstop, hhalt, hirq⟩ := h
  have hdispatch : Cpu8.dispatches s.cpu8 = false := by
    rw [Cpu8.dispatches, Bool.and_eq_false_iff, bne_eq_false_iff_eq]
    by_cases hime : s.cpu8.ime = true
    · exact .inr (not_not.mp fun hs => hirq ⟨hime, hs⟩)
    · exact .inl (Bool.eq_false_iff.mpr hime)
  have hstep : step s = step8 s := by simp only [step, hf, hv]
  rw [hstep, step8]
  simp only [beginStep, hstop, hhalt, Bool.false_eq_true, if_false, boundary8, hdispatch]

/-- Settles O18: the fetch decodes the bytes at PC, and the step runs that instruction. -/
theorem cpu8StepRunsDecoded : Obligations.Cpu8StepRunsDecoded := by
  intro i bytes s hf hdecode hcode
  have hfetch := fetch8_of_decode (s := { s with cycles := 0, outbox := [] }) hcode hdecode
  rw [step_of_fetches8 hf, runInstruction8, hfetch]
  simp only [completeEi_eq]
  rfl

end Sys2Proof.Proofs
end

section
/-! PROOFS. The state after reset (R800 to R802). -/

namespace Sys2Proof.Proofs

open Sys2Proof.Machine Sys2Proof.Claims

/-! Memory from a table. -/

/-- Memory made of a table reads as the table lists, and 0 elsewhere (R7). -/
theorem read_ofImage (i : Image) (k : Nat) : Memory.read (Memory.ofImage i) k = (Image.find? i k).getD 0#8 := by
  induction i with
  | nil => rfl
  | cons cell rest ih =>
    obtain ⟨a, v⟩ := cell
    rw [Memory.ofImage, Memory.read_write _ _ _ (Memory.wf_ofImage rest), Image.find?]
    by_cases h : a = k
    · rw [if_pos h.symm, if_pos h]
      rfl
    · rw [if_neg (Ne.symm h), if_neg h, ih]

theorem find?_append (i j : Image) (k : Nat) : Image.find? (i ++ j) k = (Image.find? i k).or (Image.find? j k) := by
  induction i with
  | nil => rfl
  | cons cell rest ih =>
    obtain ⟨a, v⟩ := cell
    rw [List.cons_append, Image.find?, Image.find?]
    split
    · rfl
    · exact ih

theorem find?_filter (p : Nat → Bool) (i : Image) (k : Nat) :
    Image.find? (i.filter fun cell => p cell.1) k = if p k then Image.find? i k else none := by
  induction i with
  | nil => exact (ite_self _).symm
  | cons cell rest ih =>
    obtain ⟨a, v⟩ := cell
    have hcons : ((a, v) :: rest : Image).filter (fun cell => p cell.1) =
        if p a then (a, v) :: rest.filter (fun cell => p cell.1) else rest.filter (fun cell => p cell.1) :=
      List.filter_cons
    rw [hcons]
    by_cases ha : a = k
    · subst ha
      cases hp : p a with
      | true => rw [if_pos rfl, if_pos rfl, Image.find?, Image.find?, if_pos rfl, if_pos rfl]
      | false => rw [if_neg Bool.false_ne_true, if_neg Bool.false_ne_true, ih, hp, if_neg Bool.false_ne_true]
    · have hskip : ∀ l, Image.find? ((a, v) :: l) k = Image.find? l k := fun l => if_neg ha
      rw [hskip, ← ih]
      split
      · exact hskip _
      · rfl

theorem read_reset32 (p : Params) (k : Nat) : Memory.read (Cpu32.reset p).mem k =
    ((if 0x0E000000 ≤ k then Image.find? p.saveBytes k else none).or
      (if k < 0x0E000000 then Image.find? p.ramInit32 k else none)).getD 0#8 := by
  have hsave := find?_filter (fun a => decide (0x0E000000 ≤ a)) p.saveBytes k
  have hram := find?_filter (fun a => decide (a < 0x0E000000)) p.ramInit32 k
  simp only [decide_eq_true_eq] at hsave hram
  rw [Cpu32.reset, read_ofImage, find?_append, hsave, hram]

/-! The shape. -/

theorem and_psrMask_clear (v : Word) : v &&& 0xF00000FF#32 &&& ~~~psrMask = 0#32 := by
  rw [BitVec.and_assoc, show 0xF00000FF#32 &&& ~~~psrMask = 0#32 from rfl]
  exact BitVec.and_zero

theorem resetWith_wf (p : Params) : (State.resetWith p).wf := by
  have hflags : 0xB0#8 &&& 0x0F#8 = 0#8 := by decide
  refine ⟨⟨hflags, Memory.wf_ofImage _⟩, ?_, ?_, ⟨Nat.zero_le _, Nat.zero_le _⟩, Memory.wf_ofImage _⟩
  · exact (BitVec.zero_and : 0#32 &&& 3#32 = 0#32)
  · exact ⟨and_psrMask_clear _, and_psrMask_clear _, and_psrMask_clear _, and_psrMask_clear _, and_psrMask_clear _⟩

theorem resetReg_zero {p : Params} (h : p.resetRegs = .zero) (slot : Nat) : resetReg p slot = 0#32 := by
  simp only [resetReg, h]
  rfl

theorem resetSpsr_zero {p : Params} (h : p.resetRegs = .zero) (slot : Nat) : resetSpsr p slot = 0#32 := by
  rw [resetSpsr, resetReg_zero h]
  exact BitVec.zero_and

theorem regIn_reset_zero {p : Params} (h : p.resetRegs = .zero) (m : Mode) (i : RegNum) :
    (Cpu32.reset p).regIn m i = 0#32 := by
  have hslot : (Cpu32.reset p).regIn m i = resetReg p (slotOf i m).val := Vector.getElem_ofFn _
  rw [hslot, resetReg_zero h]

/-- Settles O57: the values as `reset` writes them, and memory as the tables list it. -/
theorem resetState : Obligations.ResetState := by
  refine ⟨fun p => ?_, fun p => ?_, fun p => ⟨rfl, rfl, rfl, resetWith_wf p⟩, fun s t hp hc hd ho hcb => ?_,
    fun s => ⟨rfl, rfl, rfl, rfl, rfl⟩⟩
  · have hbc : pair 0x00#8 0x13#8 = 0x0013#16 := by decide
    have hde : pair 0x00#8 0xD8#8 = 0x00D8#16 := by decide
    have hhl : pair 0x01#8 0xD4#8 = 0x01D4#16 := by decide
    exact ⟨rfl, rfl, hbc, hde, hhl, rfl, rfl, rfl, rfl, rfl, rfl, rfl, rfl, rfl, rfl, rfl, rfl, rfl, rfl, rfl, rfl, rfl,
      rfl, rfl, rfl, rfl, rfl, read_ofImage p.ramInit8⟩
  · have htimer : ∀ n : Fin 4, (State.resetWith p).cpu32.timers[n] = Timer.reset := fun n => Vector.getElem_replicate _
    have hdma : ∀ n : Fin 4, (State.resetWith p).cpu32.dma[n] = DmaChannel.reset := fun n => Vector.getElem_replicate _
    have hcpsr : Psr.toWord Psr.reset = 0x000000D3#32 := by decide
    refine ⟨hcpsr, rfl, fun hz => ⟨regIn_reset_zero hz, resetSpsr_zero hz 30, resetSpsr_zero hz 31, resetSpsr_zero hz 32,
      resetSpsr_zero hz 33, resetSpsr_zero hz 34⟩, rfl, rfl, rfl, rfl, rfl, rfl, rfl, rfl, rfl, fun n => ?_,
      rfl, rfl, rfl, rfl, rfl, rfl, rfl, fun k hk => ?_, fun k hk => ?_⟩
    · rw [htimer, hdma]
      exact ⟨rfl, rfl, rfl, rfl, rfl, rfl, rfl, rfl, rfl, rfl, rfl, rfl⟩
    · refine (read_reset32 p k).trans ?_
      rw [if_neg (Nat.not_le.mpr hk), if_pos hk]
      rfl
    · refine (read_reset32 p k).trans ?_
      rw [if_pos hk, if_neg (Nat.not_lt.mpr hk), Option.or_none]
  · rw [hostReset, hostReset, hp, hc, hd, ho, hcb]

end Sys2Proof.Proofs
end

section
/-! PROOFS. A CPU-32 step runs the decoded instruction (R105, R811). -/

namespace Sys2Proof.Proofs

open Sys2Proof.Machine Sys2Proof.Claims

/-! The boundary (R741, R745, R811). -/

theorem lowestPending_eq_none {c : Cpu32} (h : ∀ n : Fin 4, c.dma[n].pending = false) : c.lowestPending = none := by
  have hidle : ∀ n : Fin 4, ¬ c.dma[n].pending = true := fun n => Bool.eq_false_iff.mp (h n)
  exact (if_neg (hidle 0)).trans ((if_neg (hidle 1)).trans ((if_neg (hidle 2)).trans (if_neg (hidle 3))))

theorem takesIrq_iff (s : State) : s.cpu32.takesIrq = true ↔ Irq32 s := by
  rw [Cpu32.takesIrq, Bool.and_eq_true, Bool.and_eq_true, bne_iff_ne, Bool.not_eq_true', and_assoc]
  rfl

/-- At a boundary with nothing to do first, the step fetches and runs (R811). -/
theorem step_of_boundary32 {s : State} (h : Boundary32 s) (hhalt : s.cpu32.halted = false) (hirq : ¬ Irq32 s) :
    step s = runInstruction32 { s with cycles := 0, outbox := [] } := by
  obtain ⟨hf, hv, hdma⟩ := h
  have hidle : (beginStep s).cpu32.lowestPending = none := lowestPending_eq_none hdma
  have hhalt' : ¬ (beginStep s).cpu32.halted = true := Bool.eq_false_iff.mp hhalt
  have hirq' : ¬ (beginStep s).cpu32.takesIrq = true := mt (takesIrq_iff s).mp hirq
  rw [step_eq_step32 hf hv, step32, dmaPhase_idle _ hidle, thenRes_next, afterDma, if_neg (not_not.mpr hidle),
    if_neg hhalt', boundary32, if_neg hirq']
  rfl

/-! The fetch (R105, R224). -/

theorem eq_of_readsTo {s t : State} (h : ReadsTo s t)
    (ht : t = { s with cpu32 := { s.cpu32 with lastAccess := t.cpu32.lastAccess } }) : t = s := by
  obtain ⟨d, e, rfl⟩ := h
  exact ht

theorem ofLeBytes_lt (bytes : List Byte) : ofLeBytes bytes < 256 ^ bytes.length := by
  induction bytes with
  | nil => exact Nat.one_pos
  | cons b rest ih =>
    have hb := b.isLt
    rw [ofLeBytes, List.length_cons, Nat.pow_succ']
    omega

theorem ofLeBytes_lt_of_length {bytes : List Byte} (h : bytes.length ≤ 4) : ofLeBytes bytes < 2 ^ 32 :=
  Nat.lt_of_lt_of_le (ofLeBytes_lt bytes) (Nat.pow_le_pow_right (n := 256) (by decide) h)

/-- What decodes with nothing left over is one word of the state's width (R224). -/
theorem word_of_decode {thumb : Bool} {bytes : List Byte} {i : Instr}
    (h : decode (if thumb then .thumb else .arm) bytes = .ok (i, [])) : ofLeBytes bytes < 2 ^ 32 ∧
      i = if thumb then decodeThumbWord (ofLeBytes bytes) else decodeArmWord (ofLeBytes bytes) := by
  cases thumb with
  | false =>
    match bytes, h with
    | [b0, b1, b2, b3], h =>
      cases h
      exact ⟨ofLeBytes_lt_of_length (Nat.le_refl 4), rfl⟩
  | true =>
    match bytes, h with
    | [b0, b1], h =>
      cases h
      exact ⟨ofLeBytes_lt_of_length (show 2 ≤ 4 by decide), rfl⟩

/-- The bytes at PC that decode are fetched as their instruction, and the fetch is the last access. -/
theorem fetch32_of_decode {s : State} {i : Instr} {bytes : List Byte} (hcode : CodeAt32 s (ofLeBytes bytes))
    (hi : decode (if s.cpu32.cpsr.t then .thumb else .arm) bytes = .ok (i, [])) :
    fetch32 s = (i, recordAccess s.cpu32.pc s.cpu32.codeWidth true s) := by
  obtain ⟨s1, hread, hs1⟩ := hcode
  obtain ⟨hlt, rfl⟩ := word_of_decode hi
  have hfetch : memRead s.cpu32.codeWidth s.cpu32.pc (recordAccess s.cpu32.pc s.cpu32.codeWidth true s) =
      (BitVec.ofNat 32 (ofLeBytes bytes), s1) := hread
  have hreads := memRead_readsTo s.cpu32.codeWidth s.cpu32.pc (recordAccess s.cpu32.pc s.cpu32.codeWidth true s)
  rw [hfetch] at hreads
  have hword : (BitVec.ofNat 32 (ofLeBytes bytes)).toNat = ofLeBytes bytes :=
    (BitVec.toNat_ofNat _ _).trans (Nat.mod_eq_of_lt hlt)
  simp only [fetch32, hfetch, hword, eq_of_readsTo hreads hs1]

/-- Settles O53: the fetch decodes the bytes at PC, and the step runs that instruction. -/
theorem cpu32StepRunsDecoded : Obligations.Cpu32StepRunsDecoded := by
  intro i bytes s hb hhalt hirq hdecode hcode
  have hfetch := fetch32_of_decode (s := { s with cycles := 0, outbox := [] }) hcode hdecode
  rw [step_of_boundary32 hb hhalt hirq, runInstruction32, hfetch]
  rfl

end Sys2Proof.Proofs
end

section
/-! PROOFS. The host's calls between steps (R150, R705, R772, R791 to R795, R821). -/

namespace Sys2Proof.Proofs

open Sys2Proof.Machine Sys2Proof.Claims

/-! A run (R794, R705). -/

theorem budget_eq (ms : Nat) (s : State) : budget ms s = ms * (if s.params.variant = .cpu32 then 16777216
    else if s.cpu8.doubleSpeed then 8388608 else 4194304) / 1000 := by
  unfold budget clockHz
  cases s.params.variant <;> rfl

theorem runReturns_iff (s : State) :
    runReturns s = true ↔ s.fault ≠ none ∨ (s.params.variant = .cpu8 ∧ s.cpu8.stopped = true) := by
  rw [runReturns, Bool.or_eq_true, Bool.and_eq_true, beq_iff_eq, Option.isSome_iff_ne_none]

theorem runBudget_fault {fuel b : Nat} {s : State} {f : Fault} (hb : b ≠ 0) (hr : runReturns s = false)
    (h : step s = .fault f) : runBudget (fuel + 1) b s = .next { s with fault := some f } := by
  simp [runBudget, hb, hr, h]

/-- When `run` is refused, what it runs, and when it is over at once. -/
theorem run_cases (ms : Nat) (s : State) :
    (s.wasReset = false → run ms s = .refused .hostMisuse) ∧
    (s.wasReset = true → ∀ b, b = ms * (if s.params.variant = .cpu32 then 16777216
        else if s.cpu8.doubleSpeed then 8388608 else 4194304) / 1000 →
      run ms s = runBudget b b s ∧
      (b = 0 ∨ s.fault ≠ none ∨ (s.params.variant = .cpu8 ∧ s.cpu8.stopped = true) → run ms s = .next s)) := by
  refine ⟨fun h => if_neg (Bool.eq_false_iff.mp h), fun h b hb => ?_⟩
  rw [run, if_pos h, budget_eq, ← hb, ← runReturns_iff]
  exact ⟨rfl, runBudget_over⟩

/-! Raised interrupts (R791). -/

theorem flagged_bit (x : BitVec 5) {bit : Nat} (j : Fin 5) :
    (x ||| (1#5 <<< bit)).getLsbD j = (x.getLsbD j || decide (j.val = bit)) := by
  rw [← BitVec.twoPow_eq, BitVec.getLsbD_or, BitVec.getLsbD_twoPow]
  by_cases h : bit = j.val
  · subst h
    simp
  · simp [h, Ne.symm h]

theorem raised_bit (c : Cpu32) {bit : Nat} (j : Fin 14) :
    (c.raise bit).iflag.getLsbD j = (c.iflag.getLsbD j || decide (j.val = bit)) := by
  rw [Bool.eq_iff_iff, raise_bit, Bool.or_eq_true, decide_eq_true_eq]

theorem flagInterrupt8 {bit : Nat} {s : State} (hv : s.params.variant = .cpu8) (h : bit < 5) :
    flagInterrupt bit s = .next { s with cpu8 := { s.cpu8 with iflag := s.cpu8.iflag ||| (1#5 <<< bit) } } := by
  simp only [flagInterrupt, hv, if_pos h]
  rfl

theorem flagInterrupt32 {bit : Nat} {s : State} (hv : s.params.variant = .cpu32) (h : bit < 14) :
    flagInterrupt bit s = .next { s with cpu32 := { s.cpu32 with iflag := (s.cpu32.raise bit).iflag } } := by
  simp only [flagInterrupt, hv, if_pos h]
  rfl

/-- A callback whose next call is `flagInterrupt` (R795). -/
theorem cycleCallback_flagInterrupt {bit : Nat} {rest : Callback} {s : State} (hv : s.params.variant = .cpu8)
    (hcb : s.callback = some ([.flagInterrupt bit] :: rest)) (h : bit < 5) : cycleCallback s = .next { s with
      cpu8 := { s.cpu8 with iflag := s.cpu8.iflag ||| (1#5 <<< bit) }
      callback := some rest
      outbox := s.outbox ++ [.retired8 s.cycles] } := by
  rw [cycleCallback_some hv hcb, List.headD_cons, List.tail_cons, hostCalls, hostCall,
    flagInterrupt8 (s := deliver (.retired8 s.cycles) { s with callback := some rest }) hv h]
  rfl

/-! Save blobs (R150). -/

theorem find?_blobImage (blob : List Byte) (a j : Nat) : Image.find? (blobImage blob a) (a + j) = blob[j]? := by
  induction blob generalizing a j with
  | nil => rfl
  | cons b rest ih =>
    rw [blobImage, Image.find?]
    cases j with
    | zero => exact if_pos rfl
    | succ j =>
      rw [if_neg (by omega), show a + (j + 1) = a + 1 + j by omega, ih]
      rfl

theorem loadSave_of_size {blob : List Byte} {kind : SaveType} (h : saveTypeOfSize blob.length = some kind) (s : State) :
    loadSave blob s =
      .next { s with params := { s.params with saveType := kind, saveBytes := blobImage blob saveBase } } := by
  simp only [loadSave, h]

/-- The next reset finds the blob: its bytes, and 0 beyond it. -/
theorem read_reset_blob (p : Params) (blob : List Byte) (j : Nat) :
    Memory.read (Cpu32.reset { p with saveBytes := blobImage blob saveBase }).mem (0x0E000000 + j) = blob.getD j 0#8 := by
  have hfind := find?_blobImage blob saveBase j
  rw [saveBase] at hfind
  rw [read_reset32, if_pos (by omega), if_neg (by omega), Option.or_none]
  exact (congrArg (Option.getD · 0#8) hfind).trans (List.getD_eq_getElem?_getD ..).symm

theorem saveTypeOfSize_listed : ∀ e ∈ [(0, SaveType.unknown), (512, .eeprom512), (8192, .eeprom8k), (32768, .sram),
    (65536, .flash64), (131072, .flash128)], saveTypeOfSize e.1 = some e.2 := by decide

theorem saveTypeOfSize_other {n : Nat} (h : n ∉ [0, 512, 8192, 32768, 65536, 131072]) : saveTypeOfSize n = none := by
  unfold saveTypeOfSize
  split
  case h_7 => rfl
  all_goals exact absurd (by decide) h

/-! DMA events (R772). -/

theorem mapDma_dma (c : Cpu32) (f : DmaChannel → DmaChannel) (n : Fin 4) : (c.mapDma f).dma[n] = f c.dma[n] := by
  simp only [Cpu32.mapDma, Cpu32.setDma]
  fin_cases n <;> simp

theorem mapDma_frame (c : Cpu32) (f : DmaChannel → DmaChannel) : c.mapDma f = { c with dma := (c.mapDma f).dma } := by
  simp only [Cpu32.mapDma, Cpu32.setDma]

theorem triggerDma32 {e : DmaEvent} {s : State} (hv : s.params.variant = .cpu32) (he : e ≠ .other) :
    triggerDma e s = .next (on32 (fun c => c.mapDma fun d =>
      if d.enabled = true ∧ d.timing = e.timing then { d with pending := true } else d) s) := by
  cases e with
  | other => exact absurd rfl he
  | _ => simp only [triggerDma, hv]

/-- An event makes pending every channel that is enabled and waits for it. -/
theorem triggered_eq (d : DmaChannel) (timing : Nat) :
    (if d.enabled = true ∧ d.timing = timing then { d with pending := true } else d) = { d with
      pending := d.pending || (d.control.getLsbD 15 && decide (d.control.toNat / 4096 % 4 = timing)) } := by
  have ht : d.timing = d.control.toNat / 4096 % 4 := rfl
  have he : d.enabled = d.control.getLsbD 15 := rfl
  rw [ht, he]
  cases d.control.getLsbD 15 <;> by_cases h : d.control.toNat / 4096 % 4 = timing <;> simp [h]

/-- Settles O60: each call is what its definition says, and a run goes on as its budget lasts. -/
theorem hostCalls : Obligations.HostCalls := by
  refine ⟨run_cases, ?_, ?_, ?_, ?_⟩
  · intro fuel b s hb hf hstop
    have hr : runReturns s = false := by
      rw [Bool.eq_false_iff, Ne, runReturns_iff]
      exact fun h => h.elim (· hf) hstop
    refine ⟨fun t u ht hu => ?_, fun f => runBudget_fault hb hr⟩
    rw [runBudget_step hb hr ht, hu, thenRes_next]
  · intro bit rest fn s
    refine ⟨fun hv => ?_, fun hv => ?_, cycleCallback_none,
      fun hv hcb hbit => ⟨_, cycleCallback_flagInterrupt hv hcb hbit, flagged_bit _⟩⟩
    · simp only [setCycleCallback, hv]
    · simp only [setCycleCallback, hv]
  · intro blob s
    refine ⟨fun kind hk => ?_, fun h => ?_⟩
    · have hsize := saveTypeOfSize_listed _ hk
      refine ⟨_, loadSave_of_size hsize s, rfl, rfl, ?_⟩
      exact read_reset_blob { s.params with saveType := kind } blob
    · simp only [loadSave, saveTypeOfSize_other h]
  · intro s bit mask
    refine ⟨fun hv => ?_, fun hv hbit => ⟨_, flagInterrupt8 hv hbit, flagged_bit _⟩,
      fun hv hbit => ⟨_, flagInterrupt32 hv hbit, raised_bit _⟩, ?_, fun hv => ⟨fun h => ?_, fun h => ?_⟩, fun hv e => ?_,
      fun hv => ⟨?_, fun e timing he => ?_⟩⟩
    · simp only [setInputs, hv]
      by_cases hm : mask = 0 <;> simp [hm, deliver, on8]
    · rintro (⟨hv, h⟩ | ⟨hv, h⟩)
      · simp only [flagInterrupt, hv, if_neg (Nat.not_lt.mpr h)]
      · simp only [flagInterrupt, hv, if_neg (Nat.not_lt.mpr h)]
    · simp only [setInputs, hv, if_pos h]
      rfl
    · simp only [setInputs, hv, if_neg (Nat.not_lt.mpr h)]
    · simp only [triggerDma, hv]
    · simp only [triggerDma, hv]
    · have htiming : e ≠ .other ∧ e.timing = timing := by
        simp only [List.mem_cons, Prod.mk.injEq, List.not_mem_nil, or_false] at he
        obtain ⟨rfl, rfl⟩ | ⟨rfl, rfl⟩ := he <;> exact ⟨nofun, rfl⟩
      obtain ⟨hne, rfl⟩ := htiming
      refine ⟨_, triggerDma32 hv hne, fun n => ?_, ?_⟩
      · exact (mapDma_dma s.cpu32 _ n).trans (triggered_eq _ _)
      · exact congrArg (fun c => { s with cpu32 := c }) (mapDma_frame s.cpu32 _)

end Sys2Proof.Proofs
end

section
/-! PROOFS. SWP and SWPB (R590, R591, R834, R842). -/

namespace Sys2Proof.Proofs

open Sys2Proof.Machine Sys2Proof.Claims

/-! The hazard of a store after a load (R842). -/

theorem hazard_iff (s : State) (w : Width) (a : Word) :
    Hazard s w a ↔ touchesPrefetch s.cpu32 (storeSpan w a s).1 (storeSpan w a s).2 = true := by
  have hlen : 2 * (len32 s).toNat = 2 * s.cpu32.codeBytes := by
    unfold len32 Cpu32.codeBytes
    split <;> rfl
  rw [touchesPrefetch_iff, Hazard, hlen, codeBytes_eq_len32]

theorem LoadsTo.hazard_iff {s t : State} (h : LoadsTo s t) (w : Width) (a : Word) : Hazard t w a ↔ Hazard s w a := by
  obtain ⟨d, e, l, n, rfl⟩ := h
  exact Iff.rfl

theorem storeData_of_hazard {s : State} {w : Width} {a : Word} (h : Hazard s w a) (seq : Bool) (v : Word) :
    storeData seq w a v s = unpredictable .storeIntoPrefetch s := if_pos ((hazard_iff s w a).mp h)

theorem storeData_of_not_hazard {s : State} {w : Width} {a : Word} (h : ¬ Hazard s w a) (hio : region a ≠ .io)
    (seq : Bool) (v : Word) : ∃ t, storeData seq w a v s = .next t := by
  obtain ⟨ht, -⟩ | ⟨-, t, ht, -⟩ := storeData_cases seq w a v s hio
  · exact absurd ((hazard_iff s w a).mpr ht) h
  · exact ⟨t, ht⟩

/-! The instruction. -/

/-- The restrictions of R590. -/
def SwapRestricted (o : SwapOps) : Prop :=
  o.rn = 15#4 ∨ o.rd = 15#4 ∨ o.rm = 15#4 ∨ o.rn = o.rd ∨ o.rn = o.rm

theorem swap_restricted {o : SwapOps} {s : State} (w : Width) (hc : CondHolds o.cond s.cpu32.cpsr)
    (h : SwapRestricted o) : swap w o s = unpredictable .swapOperands s := by
  rw [swap, ifCond_pass ((condPasses_iff _ _).mpr hc)]
  exact if_pos h

/-- A swap is a load, a store of Rm's value as it was before, and the loaded value's write. -/
theorem swap_allowed {o : SwapOps} {s s1 : State} {v : Word} {w : Width} (hc : CondHolds o.cond s.cpu32.cpsr)
    (h : ¬ SwapRestricted o)
    (hload : loadValue (if w = .byte then .unsignedByte else .word) (readReg o.rn s) s = (v, s1)) :
    swap w o s = thenRes (storeData false w (readReg o.rn s) (readReg o.rm s) s1)
      fun s2 => .next (past s2 (setX s2 o.rd v) (sCost s2 + 1)) := by
  rw [swap, ifCond_pass ((condPasses_iff _ _).mpr hc)]
  refine (if_neg h).trans ?_
  simp only [hload, retire_writeReg]

theorem exec_swap (byte : Bool) (o : SwapOps) (s : State) :
    exec (if byte then .armSwpb o else .armSwp o) s = swap (if byte then .byte else .word) o s := by
  cases byte <;> rfl

/-- Settles O38: the hazard is that of the state before, since the load changes neither PC nor what is stored where. -/
theorem armSwap : Obligations.ArmSwap := by
  intro byte o s s1 v hc
  refine ⟨fun h => (exec_swap byte o s).trans (swap_restricted _ hc h), fun h hload => ?_⟩
  have hkind : (if (if byte then Width.byte else .word) = .byte then LoadKind.unsignedByte else .word) =
      if byte then .unsignedByte else .word := by cases byte <;> rfl
  have hloads : LoadsTo s s1 := by
    have h := loadValue_loadsTo (if byte then .unsignedByte else .word) (readReg o.rn s) s
    rwa [hload] at h
  have hexec := (exec_swap byte o s).trans (swap_allowed hc h (hkind ▸ hload))
  refine ⟨fun hhaz => ?_, hexec, fun hhaz hio => ?_⟩
  · rw [hexec, storeData_of_hazard ((hloads.hazard_iff _ _).mpr hhaz)]
    obtain ⟨d, e, l, n, rfl⟩ := hloads
    rfl
  · obtain ⟨s2, hs2⟩ := storeData_of_not_hazard (mt (hloads.hazard_iff _ _).mp hhaz) hio false (readReg o.rm s)
    refine ⟨s2, hs2, ?_⟩
    rw [hexec, hs2, thenRes_next]

end Sys2Proof.Proofs
end

section
/-! PROOFS. The CPU-8 address map and the core's IO registers (R37 to R44, R110 to R118). -/

namespace Sys2Proof.Proofs

open Sys2Proof.Machine Sys2Proof.Claims

/-! Where an address leads (R110). -/

theorem wramBank_eq (s : State) : wramBank s.params.colorMode s.cpu8 =
    if s.params.colorMode = true ∧ s.cpu8.svbk.toNat ≠ 0 then s.cpu8.svbk.toNat else 1 := by
  unfold wramBank
  cases s.params.colorMode <;> by_cases h : s.cpu8.svbk.toNat = 0 <;> simp [h]
  omega

theorem cellOf_eq (s : State) (a : Nat) : cellOf s a =
    if 0x8000 ≤ a ∧ a < 0xA000 then some (vramBank s.params.colorMode s.cpu8 * 0x10000 + a)
    else if 0xC000 ≤ a ∧ a < 0xD000 then some a
    else if 0xD000 ≤ a ∧ a < 0xE000 then some (wramBank s.params.colorMode s.cpu8 * 0x10000 + a)
    else if 0xE000 ≤ a ∧ a < 0xF000 then some (a - 0x2000)
    else if 0xF000 ≤ a ∧ a < 0xFE00 then some (wramBank s.params.colorMode s.cpu8 * 0x10000 + (a - 0x2000))
    else if 0xFE00 ≤ a ∧ a < 0xFEA0 then some a
    else if 0xFF80 ≤ a ∧ a < 0xFFFF then some a
    else none := by
  rw [wramBank_eq]
  rfl

/-- The core memory of the statements is that of the model's map (R110, R112, R114, R115). -/
theorem place8_eq_cell_iff (s : State) (a : Half) (k : Nat) :
    place8 s.params.colorMode s.cpu8 a = .cell k ↔ cellOf s a.toNat = some k := by
  have ha := a.isLt
  rw [cellOf_eq]
  unfold place8 wramKey
  dsimp only
  split
  · simp (disch := omega) only [if_neg, reduceCtorEq]
  split
  · simp (disch := omega) only [if_pos, Place8.cell.injEq, Option.some.injEq]
  split
  · simp (disch := omega) only [if_neg, reduceCtorEq]
  split
  · split
    · simp (disch := omega) only [if_pos, if_neg, Place8.cell.injEq, Option.some.injEq]
    · simp (disch := omega) only [if_pos, if_neg, Place8.cell.injEq, Option.some.injEq]
  split
  · split
    · simp (disch := omega) only [if_pos, if_neg, Place8.cell.injEq, Option.some.injEq]
    · simp (disch := omega) only [if_pos, if_neg, Place8.cell.injEq, Option.some.injEq]
  split
  · simp (disch := omega) only [if_pos, if_neg, Place8.cell.injEq, Option.some.injEq]
  split
  · simp (disch := omega) only [if_neg, reduceCtorEq]
  split
  · simp (disch := omega) only [if_neg, reduceCtorEq]
  split
  · simp (disch := omega) only [if_pos, if_neg, Place8.cell.injEq, Option.some.injEq]
  · simp (disch := omega) only [if_neg, reduceCtorEq]

theorem place8_cart (color : Bool) (c : Cpu8) {a : Half}
    (h : a.toNat < 0x8000 ∨ (0xA000 ≤ a.toNat ∧ a.toNat < 0xC000)) : place8 color c a = .cart := by
  unfold place8
  obtain h | ⟨hlo, hhi⟩ := h
  · exact if_pos h
  · simp (disch := omega) only [if_pos, if_neg]

theorem place8_absent (color : Bool) (c : Cpu8) {a : Half} (h : 0xFEA0 ≤ a.toNat ∧ a.toNat < 0xFF00) :
    place8 color c a = .absent := by
  unfold place8
  simp (disch := omega) only [if_pos, if_neg]

theorem place8_io (color : Bool) (c : Cpu8) {a : Half} (h : 0xFF00 ≤ a.toNat ∧ a.toNat < 0xFF80) :
    place8 color c a = .io (a.toNat - 0xFF00) := by
  unfold place8
  simp (disch := omega) only [if_pos, if_neg]

theorem place8_eq_io {color : Bool} {c : Cpu8} {a : Half} {o : Nat} (h : place8 color c a = .io o) :
    0xFF00 ≤ a.toNat ∧ a.toNat = 0xFF00 + o ∧ o < 0x80 := by
  unfold place8 at h
  dsimp only at h
  split_ifs at h
  injection h with h
  omega

theorem read8_io {a : Half} {s : State} {o : Nat} (h : place8 s.params.colorMode s.cpu8 a = .io o) :
    read8 a s = readIo8 (io8 s.params.colorMode o) s := by
  unfold read8
  rw [h]

theorem write8_io {a : Half} {s : State} {o : Nat} (h : place8 s.params.colorMode s.cpu8 a = .io o) (v : Byte) :
    write8 a v s = writeIo8 (io8 s.params.colorMode o) a v s := by
  unfold write8
  rw [h]

/-! Forwarded addresses (R117, R118). -/

/-- The offsets of the core's registers (R117). -/
theorem io8_forwarded {color : Bool} {o : Nat} (h : o ∉ [0x04, 0x05, 0x06, 0x07, 0x0F, 0x46])
    (hcolor : color = true → o ∉ [0x4D, 0x4F, 0x51, 0x52, 0x53, 0x54, 0x55, 0x70]) : io8 color o = .forwarded := by
  unfold io8
  split
  case h_15 => rfl
  case h_1 | h_2 | h_3 | h_4 | h_5 | h_6 => exact absurd (by decide) h
  all_goals exact absurd (by decide) (hcolor rfl)

theorem io8_of_not_isIo8 {s : State} {a : Half} (hlo : 0xFF00 ≤ a.toNat) (h : ¬ isIo8 s a.toNat) :
    io8 s.params.colorMode (a.toNat - 0xFF00) = .forwarded := by
  have hadd : a.toNat = a.toNat - 0xFF00 + 0xFF00 := by omega
  rw [isIo8, not_or, hadd] at h
  obtain ⟨hplain, hcolor⟩ := h
  generalize a.toNat - 0xFF00 = o at *
  refine io8_forwarded (fun ho => hplain ?_) (fun hc ho => hcolor ⟨hc, ?_⟩)
  · simp only [List.mem_cons, List.not_mem_nil, or_false] at ho ⊢
    omega
  · simp only [List.mem_cons, List.not_mem_nil, or_false] at ho ⊢
    omega

/-! The registers (R37 to R44). -/

theorem io8_plain : ∀ color, io8 color 0x04 = .div ∧ io8 color 0x05 = .tima ∧ io8 color 0x06 = .tma ∧
    io8 color 0x07 = .tac ∧ io8 color 0x0F = .iflag ∧ io8 color 0x46 = .dma := by decide

theorem io8_color {color : Bool} (h : color = true) : io8 color 0x4D = .key1 ∧ io8 color 0x4F = .vbk ∧
    io8 color 0x51 = .hdma1 ∧ io8 color 0x52 = .hdma2 ∧ io8 color 0x53 = .hdma3 ∧ io8 color 0x54 = .hdma4 ∧
    io8 color 0x55 = .hdma5 ∧ io8 color 0x70 = .svbk := by
  subst h
  decide

theorem place8_register (color : Bool) (c : Cpu8) {a : Half} {o : Nat} (ho : o < 0x80)
    (ha : a = BitVec.ofNat 16 (0xFF00 + o)) : place8 color c a = .io o := by
  have hn : a.toNat = 0xFF00 + o := by
    rw [ha, BitVec.toNat_ofNat]
    omega
  rw [place8_io color c (by omega), hn, Nat.add_sub_cancel_left]

theorem read8_register {a : Half} {s : State} {o : Nat} {r : Io8} (hr : io8 s.params.colorMode o = r)
    (ha : a = BitVec.ofNat 16 (0xFF00 + o)) (ho : o < 0x80 := by decide) : read8 a s = readIo8 r s := by
  rw [read8_io (place8_register _ _ ho ha), hr]

theorem write8_register {a : Half} {s : State} {o : Nat} {r : Io8} (hr : io8 s.params.colorMode o = r) (v : Byte)
    (ha : a = BitVec.ofNat 16 (0xFF00 + o)) (ho : o < 0x80 := by decide) : write8 a v s = writeIo8 r a v s := by
  rw [write8_io (place8_register _ _ ho ha), hr]

theorem hiByte_eq (v : Half) : hiByte v = BitVec.ofNat 8 (v.toNat / 256) := by
  apply BitVec.eq_of_toNat_eq
  have hv := v.isLt
  rw [hiByte_toNat, BitVec.toNat_ofNat]
  omega

/-- Settles O13: the map by the intervals of R110, and the registers by their offsets. -/
theorem cpu8AddressMap : Obligations.Cpu8AddressMap := by
  refine ⟨fun a v s => ⟨fun k hk => ?_, fun h => ?_, fun h => ?_, fun h hio => ?_⟩, fun v s => ?_⟩
  · have hplace := (place8_eq_cell_iff s a k).mpr hk
    exact ⟨read8_cell hplace, write8_cell hplace⟩
  · have hplace := place8_cart s.params.colorMode s.cpu8 h
    refine ⟨?_, fun b => ⟨fun hb => ?_, fun hb => ?_⟩⟩
    · rw [write8, hplace]
      rfl
    · simp only [read8, hplace, hb]
    · simp only [read8, hplace, hb]
  · have hplace := place8_absent s.params.colorMode s.cpu8 h
    exact ⟨by simp only [read8, hplace], by simp only [write8, hplace]⟩
  · have hplace := place8_io s.params.colorMode s.cpu8 h
    have hfw := io8_of_not_isIo8 h.1 hio
    rw [read8_io hplace, write8_io hplace, hfw]
    exact ⟨rfl, rfl⟩
  · obtain ⟨hdiv, htima, htma, htac, hif, hdma⟩ := io8_plain s.params.colorMode
    refine ⟨?_, read8_register htima rfl, read8_register htma rfl, read8_register htac rfl, read8_register hif rfl,
      read8_register hdma rfl, rfl, write8_register htima v rfl, write8_register htma v rfl, write8_register hif v rfl, rfl,
      fun hc => ?_⟩
    · exact (read8_register hdiv rfl).trans (congrArg (·, s) (hiByte_eq s.cpu8.div16))
    · obtain ⟨hkey1, hvbk, hhdma1, hhdma2, hhdma3, hhdma4, hhdma5, hsvbk⟩ := io8_color hc
      refine ⟨read8_register hkey1 rfl, read8_register hvbk rfl, read8_register hsvbk rfl, read8_register hhdma5 rfl, ?_,
        write8_register hkey1 v rfl, write8_register hvbk v rfl, write8_register hsvbk v rfl, write8_register hhdma1 v rfl,
        write8_register hhdma2 v rfl, write8_register hhdma3 v rfl, write8_register hhdma4 v rfl⟩
      simp only [List.mem_cons, List.not_mem_nil, or_false]
      rintro a (rfl | rfl | rfl | rfl)
      · exact read8_register hhdma1 rfl
      · exact read8_register hhdma2 rfl
      · exact read8_register hhdma3 rfl
      · exact read8_register hhdma4 rfl

end Sys2Proof.Proofs
end

section
/-! PROOFS. What a CPU-8 write leaves unchanged (R110 to R119, R760, R762, R763). -/

namespace Sys2Proof.Proofs

open Sys2Proof.Machine Sys2Proof.Claims

/-! The frame of a write. -/

/-- A write that stores to these keys at most: no register of the CPU changes, and no other byte. -/
def StoresOnly (keys : Nat → Prop) (c d : Cpu8) : Prop :=
  SameCpu8 c d ∧ (Memory.wf c.mem = true → ∀ k, ¬ keys k → Memory.read d.mem k = Memory.read c.mem k)

theorem SameCpu8.rfl {c : Cpu8} : SameCpu8 c c :=
  ⟨Eq.refl _, Eq.refl _, Eq.refl _, Eq.refl _, Eq.refl _, Eq.refl _, Eq.refl _, Eq.refl _, Eq.refl _, Eq.refl _,
    Eq.refl _, Eq.refl _, Eq.refl _, Eq.refl _, Eq.refl _⟩

theorem StoresOnly.mono {keys keys' : Nat → Prop} {c d : Cpu8} (h : StoresOnly keys c d) (hk : ∀ k, keys k → keys' k) :
    StoresOnly keys' c d := ⟨h.1, fun hm k hn => h.2 hm k fun hkey => hn (hk k hkey)⟩

/-- Registers that no bus write names may change. -/
theorem StoresOnly.of_sameCpu8 {keys : Nat → Prop} {c d : Cpu8} (h : SameCpu8 c d) (hm : d.mem = c.mem) :
    StoresOnly keys c d := ⟨h, fun _ k _ => by rw [hm]⟩

theorem storesOnly_of_timerOnly {keys : Nat → Prop} {c d : Cpu8} (h : TimerOnly8 c d) : StoresOnly keys c d := by
  rw [h]
  exact .of_sameCpu8 SameCpu8.rfl rfl

theorem storesOnly_setCell8 {keys : Nat → Prop} {key : Nat} (h : keys key) (v : Byte) (s : State) :
    StoresOnly keys s.cpu8 (setCell8 key v s).cpu8 := by
  refine ⟨SameCpu8.rfl, fun hm k hk => ?_⟩
  exact Memory.read_write_ne v hm fun e => hk (e ▸ h)

/-! The copies (R760, R762). -/

/-- A copy's bytes: memory alone changes in the CPU-8 half, and only at these keys. -/
def Copies8 (keys : Nat → Prop) (s t : State) : Prop :=
  t.cpu8 = { s.cpu8 with mem := t.cpu8.mem } ∧ (Memory.wf s.cpu8.mem = true → Memory.wf t.cpu8.mem = true ∧
    ∀ k, ¬ keys k → Memory.read t.cpu8.mem k = Memory.read s.cpu8.mem k)

theorem Copies8.rfl {keys : Nat → Prop} {s : State} : Copies8 keys s s :=
  ⟨Eq.refl _, fun hm => ⟨hm, fun _ _ => Eq.refl _⟩⟩

/-- One byte more: any byte read from the bus, to one of the keys. -/
theorem Copies8.step {keys : Nat → Prop} {s t : State} (h : Copies8 keys s t) (a : Half) {key : Nat} (hkey : keys key) :
    Copies8 keys s (setCell8 key (read8 a t).1 (read8 a t).2) := by
  obtain ⟨hcpu, hmem⟩ := h
  refine ⟨?_, fun hm => ?_⟩
  · rw [setCell8_cpu8, read8_cpu8, hcpu]
  · obtain ⟨hwf, hkept⟩ := hmem hm
    rw [setCell8_cpu8, read8_cpu8]
    refine ⟨Memory.wf_write _ _ hwf, fun k hk => ?_⟩
    exact (Memory.read_write_ne _ hwf (by rintro rfl; exact hk hkey)).trans (hkept k hk)

theorem Copies8.storesOnly {keys : Nat → Prop} {s t : State} (h : Copies8 keys s t) : StoresOnly keys s.cpu8 t.cpu8 := by
  obtain ⟨hcpu, hmem⟩ := h
  refine ⟨?_, fun hm => (hmem hm).2⟩
  rw [hcpu]
  exact SameCpu8.rfl

theorem oamCopy_copies8 (page : Byte) {n : Nat} (hn : n ≤ 160) (s : State) :
    Copies8 (fun k => 0xFE00 ≤ k ∧ k < 0xFEA0) s (oamCopy page n s) := by
  induction n with
  | zero => exact Copies8.rfl
  | succ n ih => exact (ih (by omega)).step _ (by omega)

theorem hdmaCopy_copies8 (src dst : Half) (n : Nat) (s : State) :
    Copies8 (fun k => s.cpu8.vbk.toNat * 0x10000 + 0x8000 ≤ k ∧ k < s.cpu8.vbk.toNat * 0x10000 + 0xA000) s
      (hdmaCopy src dst n s) := by
  induction n with
  | zero => exact Copies8.rfl
  | succ n ih =>
    refine ih.step _ ?_
    rw [read8_cpu8, ih.1]
    dsimp only
    omega

/-! One write. -/

theorem writeHdma5_storesOnly {v : Byte} {s t : State} (h : writeHdma5 v s = .next t) :
    StoresOnly (fun k => s.cpu8.vbk.toNat * 0x10000 + 0x8000 ≤ k ∧ k < s.cpu8.vbk.toNat * 0x10000 + 0xA000)
      s.cpu8 t.cpu8 := by
  unfold writeHdma5 at h
  split at h
  · cases h
  · cases h
    exact (hdmaCopy_copies8 _ _ _ s).storesOnly

/-- The keys a register's write may store to: OAM, by the DMA register (R760); the VRAM bank, by HDMA5 (R762). -/
def registerKeys (r : Io8) (s : State) (k : Nat) : Prop :=
  (r = .dma ∧ 0xFE00 ≤ k ∧ k < 0xFEA0) ∨
    (r = .hdma5 ∧ s.cpu8.vbk.toNat * 0x10000 + 0x8000 ≤ k ∧ k < s.cpu8.vbk.toNat * 0x10000 + 0xA000)

theorem writeIo8_storesOnly {r : Io8} {a : Half} {v : Byte} {s t : State} (h : writeIo8 r a v s = .next t) :
    StoresOnly (registerKeys r s) s.cpu8 t.cpu8 := by
  cases r with
  | dma =>
    cases h
    have hcopy := (oamCopy_copies8 v (Nat.le_refl 160) (on8 (fun c => { c with oamDma := v }) s)).storesOnly
    exact StoresOnly.mono (keys := fun k => 0xFE00 ≤ k ∧ k < 0xFEA0) hcopy fun k hk => .inl ⟨rfl, hk⟩
  | hdma5 => exact (writeHdma5_storesOnly h).mono fun k hk => .inr ⟨rfl, hk⟩
  | div =>
    cases h
    exact storesOnly_of_timerOnly (c := { s.cpu8 with div16 := 0 }) (updateTimerIn_timerOnly _)
  | tac =>
    cases h
    exact storesOnly_of_timerOnly (c := { s.cpu8 with tac := v.setWidth 3 }) (updateTimerIn_timerOnly _)
  | _ =>
    cases h
    exact .of_sameCpu8 SameCpu8.rfl rfl


theorem io8_dma {color : Bool} {o : Nat} (h : io8 color o = .dma) : o = 0x46 := by
  unfold io8 at h
  split at h
  case h_6 => rfl
  all_goals cases h

theorem storesTo8_of_registerKeys {s : State} {a : Half} {o k : Nat} (ho : place8 s.params.colorMode s.cpu8 a = .io o)
    (h : registerKeys (io8 s.params.colorMode o) s k) : StoresTo8 s a k := by
  obtain ⟨-, ha, -⟩ := place8_eq_io ho
  have hoff : a = BitVec.ofNat 16 (0xFF00 + o) := by rw [← ha, BitVec.ofNat_toNat, BitVec.setWidth_eq]
  obtain ⟨hdma, hk⟩ | ⟨hhdma, hk⟩ := h
  · rw [io8_dma hdma] at hoff
    exact .inr (.inl ⟨hoff, hk⟩)
  · obtain ⟨hc, h55⟩ := io8_hdma5 hhdma
    rw [h55] at hoff
    exact .inr (.inr ⟨hc, hoff, hk⟩)

/-- A write changes no register of the CPU, and no byte but those it stores to. -/
theorem write8_storesOnly {a : Half} {v : Byte} {s t : State} (h : write8 a v s = .next t) :
    StoresOnly (StoresTo8 s a) s.cpu8 t.cpu8 := by
  cases hp : place8 s.params.colorMode s.cpu8 a with
  | cell key =>
    rw [write8_cell hp] at h
    cases h
    exact storesOnly_setCell8 (keys := StoresTo8 s a) (.inl ((place8_eq_cell_iff s a key).mp hp)) v s
  | io o =>
    rw [write8_io hp] at h
    exact (writeIo8_storesOnly h).mono fun k hk => storesTo8_of_registerKeys hp hk
  | _ =>
    unfold write8 at h
    rw [hp] at h
    cases h
    exact .of_sameCpu8 SameCpu8.rfl rfl

theorem write8_refused {a : Half} {v : Byte} {s : State} (h : Refused8 s a v) : write8 a v s = .refused .hblankHdma := by
  obtain ⟨hc, ha, hv⟩ := h
  obtain ⟨-, -, -, -, -, -, hhdma5, -⟩ := io8_color hc
  rw [write8_register hhdma5 v ha]
  exact if_pos hv

/-! The stores (R303 to R309, R311 to R319, R360, R362, R400 to R411). -/

/-- What a store does after its write: no byte, and of the registers neither PC, SP, A nor IME changes. -/
def Follows8 (t u : State) : Prop :=
  u.cpu8.mem = t.cpu8.mem ∧ u.cpu8.pc = t.cpu8.pc ∧ u.cpu8.sp = t.cpu8.sp ∧ u.cpu8.a = t.cpu8.a ∧
    u.cpu8.ime = t.cpu8.ime ∧ outside8 u = outside8 t

/-- An instruction that writes one byte at an address, from a state with the CPU-8 half of `s`. -/
def IsStore8 (a : Half) (s : State) (r : Res) : Prop :=
  ∃ (v : Byte) (u : State) (k : State → Res), u.cpu8 = s.cpu8 ∧ outside8 u = outside8 s ∧
    (∀ t, Answers Follows8 t (k t)) ∧ r = thenRes (write8 a v u) k

theorem answers_finish8 (clocks : Nat) (t : State) : Answers Follows8 t (finish8 clocks t) :=
  .next ⟨rfl, rfl, rfl, rfl, rfl, rfl⟩

theorem answers_finish8_setF (clocks : Nat) (f : Byte) (t : State) :
    Answers Follows8 t (finish8 clocks (on8 (fun c => c.setF f) t)) := .next ⟨rfl, rfl, rfl, rfl, rfl, rfl⟩

theorem isStore8_of_read {k : State → Res} (v : Byte) (s : State) (hk : ∀ t, Answers Follows8 t (k t)) :
    IsStore8 (s.cpu8.pairOf .hl) s (thenRes (writeOperand8 .hlm v (readOperand8 .hlm s).2) k) := by
  refine ⟨v, (readOperand8 .hlm s).2, k, readOperand8_cpu8 _ s, outside8_readOperand8 _ s, hk, ?_⟩
  rw [writeOperand8, if_pos rfl, readOperand8_cpu8]
  rfl

theorem storeAAt_isStore8 {p : RP} (hp : p ≠ .sp) (delta : Half) (s : State) :
    IsStore8 (s.cpu8.pairOf p) s (storeAAt p delta s) := by
  refine ⟨s.cpu8.a, s, _, rfl, rfl, fun t => .next ?_, rfl⟩
  cases p with
  | sp => exact absurd rfl hp
  | _ => exact ⟨rfl, rfl, rfl, rfl, rfl, rfl⟩

theorem storeATo_isStore8 (a : Half) (clocks : Nat) (s : State) : IsStore8 a s (storeATo a clocks s) :=
  ⟨s.cpu8.a, s, _, rfl, rfl, answers_finish8 clocks, rfl⟩

theorem load8_isStore8 {src : R8} (h : src ≠ .hlm) (s : State) :
    IsStore8 (s.cpu8.pairOf .hl) s (load8 .hlm src s) := by
  have hread : readOperand8 src s = (s.cpu8.reg src, s) := if_neg h
  refine ⟨s.cpu8.reg src, s, finish8 8, rfl, rfl, answers_finish8 8, ?_⟩
  rw [load8, hread]
  rfl

theorem StoresTo8.congr {s u : State} (hc : u.cpu8 = s.cpu8) (ho : outside8 u = outside8 s) (a : Half) :
    StoresTo8 u a = StoresTo8 s a := by
  have hparams : u.params = s.params := congrArg (fun x => x.1.1) ho
  funext k
  simp only [StoresTo8, cellOf, hc, hparams]

/-- The frame of a store, from the state before. -/
theorem IsStore8.frame {a : Half} {s t : State} {r : Res} (h : IsStore8 a s r) (hr : r = .next t)
    (hm : Memory.wf s.cpu8.mem = true) :
    (∀ k, ¬ StoresTo8 s a k → Memory.read t.cpu8.mem k = Memory.read s.cpu8.mem k) ∧
      t.cpu8.pc = s.cpu8.pc ∧ t.cpu8.sp = s.cpu8.sp ∧ t.cpu8.a = s.cpu8.a ∧ t.cpu8.ime = s.cpu8.ime ∧
      t.cpu32 = s.cpu32 ∧ t.params = s.params := by
  obtain ⟨v, u, k, hcpu, hout, hk, rfl⟩ := h
  obtain ⟨w, hw, ht⟩ := thenRes_eq_next.mp hr
  have hstores := write8_storesOnly hw
  have hkeeps := (write8_keeps a v u w hw).trans hout
  rw [StoresTo8.congr hcpu hout, hcpu] at hstores
  obtain ⟨⟨ha, -, -, -, -, -, -, -, hsp, hpc, hime, -⟩, hmem⟩ := hstores
  obtain ⟨hmem', hpc', hsp', ha', hime', hout'⟩ := hk w t ht
  have houtside := hout'.trans hkeeps
  refine ⟨fun k hk => ?_, hpc'.trans hpc, hsp'.trans hsp, ha'.trans ha, hime'.trans hime, congrArg (·.2) houtside,
    congrArg (fun x => x.1.1) houtside⟩
  rw [hmem', hmem hm k hk]

/-- Settles O14: each store is one `write8`, whose frame is that of its place in the map. -/
theorem cpu8AccessFrame : Obligations.Cpu8AccessFrame := by
  refine ⟨fun a v s => ⟨?_, write8_refused, fun h => ?_⟩, fun i a s t hm hi ht => ?_⟩
  · obtain h | h := read8_state a s <;> rw [h]
  · obtain ⟨t, ht⟩ := (write8_next_iff a v s).mpr h
    obtain ⟨hsame, hmem⟩ := write8_storesOnly ht
    have hout := write8_keeps a v s t ht
    exact ⟨t, ht, hsame, congrArg (fun x => x.1.1) hout, congrArg (·.2) hout, congrArg (fun x => x.1.2.1) hout,
      congrArg (fun x => x.1.2.2.1) hout, hmem⟩
  · refine IsStore8.frame ?_ ht hm
    obtain ⟨rfl, hi⟩ | ⟨rfl, rfl⟩ | ⟨rfl, rfl⟩ | rfl | ⟨n, rfl, rfl⟩ | ⟨rfl, rfl⟩ := hi
    · obtain ⟨src, hsrc, rfl⟩ | ⟨n, rfl⟩ | rfl | rfl | rfl | rfl | ⟨op, rfl⟩ | ⟨b, rfl⟩ | ⟨b, rfl⟩ := hi
      · rw [exec_ldInstr s (.inr hsrc)]
        exact load8_isStore8 hsrc s
      · exact ⟨n, s, _, rfl, rfl, answers_finish8 12, rfl⟩
      · exact isStore8_of_read _ s (answers_finish8_setF 12 _)
      · exact isStore8_of_read _ s (answers_finish8_setF 12 _)
      · exact storeAAt_isStore8 (p := .hl) nofun 1 s
      · exact storeAAt_isStore8 (p := .hl) nofun (-1) s
      · rw [exec_rotInstr]
        exact isStore8_of_read _ s (answers_finish8_setF 16 _)
      · rw [exec_resInstr]
        exact isStore8_of_read _ s (answers_finish8 16)
      · rw [exec_setInstr]
        exact isStore8_of_read _ s (answers_finish8 16)
    · exact storeAAt_isStore8 (p := .bc) nofun 0 s
    · exact storeAAt_isStore8 (p := .de) nofun 0 s
    · exact storeATo_isStore8 a 16 s
    · rw [← append_ff]
      exact storeATo_isStore8 _ 12 s
    · rw [← append_ff]
      exact storeATo_isStore8 _ 8 s

end Sys2Proof.Proofs
end

section
/-! PROOFS. What the CPU-32 bus answers: the regions, little-endian units, draws and open bus (R102, R103, R120 to R129). -/

namespace Sys2Proof.Proofs

open Sys2Proof.Machine Sys2Proof.Claims

/-! The regions (R120). -/

/-- The addresses of a region; of the unmapped ones nothing is said. -/
def InRegion (n : Nat) : Region → Prop
  | .bios => n < 0x4000
  | .ewram => n / 0x1000000 = 2
  | .iwram => n / 0x1000000 = 3
  | .io => 0x4000000 ≤ n ∧ n < 0x4000400
  | .palette => n / 0x1000000 = 5
  | .vram => n / 0x1000000 = 6
  | .oam => n / 0x1000000 = 7
  | .rom x => n / 0x2000000 = 4 + x ∧ x < 3
  | .save => n / 0x2000000 = 7
  | .unmapped => True

theorem inRegion_region (a : Word) : InRegion a.toNat (region a) := by
  unfold region
  split
  case h_1 =>
    split
    · assumption
    · trivial
  case h_4 hpage =>
    split
    · rename_i hlt
      exact ⟨by omega, hlt⟩
    · trivial
  all_goals simp only [InRegion] <;> omega

/-- An address that stands at one of two pages. -/
theorem page_of_window {n x : Nat} (h : n / 0x2000000 = x) : n / 0x1000000 = 2 * x ∨ n / 0x1000000 = 2 * x + 1 := by
  omega

theorem region_of_inRegion {a : Word} {r : Region} (hr : r ≠ .unmapped) (h : InRegion a.toNat r) : region a = r := by
  cases r with
  | unmapped => exact absurd rfl hr
  | bios =>
    have hlt : a.toNat < 0x4000 := h
    have hdiv : a.toNat / 0x1000000 = 0 := by omega
    simp only [region, hdiv, if_pos hlt]
  | io => exact region_eq_io_iff.mpr h
  | save => obtain hdiv | hdiv := page_of_window h <;> simp only [region, hdiv]
  | rom x =>
    obtain ⟨hwin, hx⟩ := h
    interval_cases x <;> obtain hdiv | hdiv := page_of_window hwin <;> simp only [region, hdiv]
  | _ =>
    have hdiv : a.toNat / 0x1000000 = _ := h
    simp only [region, hdiv]

theorem region_eq_iff {a : Word} {r : Region} (hr : r ≠ .unmapped) : region a = r ↔ InRegion a.toNat r :=
  ⟨fun h => h ▸ inRegion_region a, region_of_inRegion hr⟩

theorem exists_region_rom_iff (a : Word) :
    (∃ x, region a = .rom x) ↔ 4 ≤ a.toNat / 0x2000000 ∧ a.toNat / 0x2000000 ≤ 6 := by
  constructor
  · rintro ⟨x, h⟩
    obtain ⟨hwin, hx⟩ : InRegion a.toNat (.rom x) := h ▸ inRegion_region a
    omega
  · rintro ⟨hlo, hhi⟩
    exact ⟨a.toNat / 0x2000000 - 4, region_of_inRegion nofun ⟨by omega, by omega⟩⟩

/-! Bytes of a unit (R102). -/

theorem byte_eq (v : Word) (j : Nat) : (v >>> (8 * j)).setWidth 8 = BitVec.ofNat 8 (v.toNat / 256 ^ j) := by
  apply BitVec.eq_of_toNat_eq
  rw [BitVec.toNat_setWidth, BitVec.toNat_ushiftRight, Nat.shiftRight_eq_div_pow, BitVec.toNat_ofNat, Nat.pow_mul]

theorem leBytes_lt (f : Nat → Byte) (a n : Nat) : leBytes f a n < 256 ^ n := by
  induction n generalizing a with
  | zero => exact Nat.one_pos
  | succ n ih =>
    have hbyte := (f a).isLt
    have hrest := ih (a + 1)
    rw [leBytes, Nat.pow_succ']
    omega

theorem leBytes_byte (f : Nat → Byte) (a n : Nat) {j : Nat} (hj : j < n) :
    BitVec.ofNat 8 (leBytes f a n / 256 ^ j) = f (a + j) := by
  induction n generalizing a j with
  | zero => exact absurd hj (Nat.not_lt_zero j)
  | succ n ih =>
    have hbyte := (f a).isLt
    rw [leBytes]
    cases j with
    | zero =>
      refine BitVec.eq_of_toNat_eq ((BitVec.toNat_ofNat _ _).trans ?_)
      rw [Nat.pow_zero, Nat.div_one, show a + 0 = a from rfl]
      omega
    | succ j =>
      have hdiv : ((f a).toNat + 256 * leBytes f (a + 1) n) / 256 = leBytes f (a + 1) n := by omega
      rw [Nat.pow_succ', ← Nat.div_div_eq_div_mul, hdiv, ih (a + 1) (Nat.lt_of_succ_lt_succ hj), Nat.add_assoc,
        Nat.add_comm 1 j]

theorem readsBytes_leBytes (w : Width) (f : Nat → Byte) (start : Nat) (s : State) :
    ReadsBytes w f start s (BitVec.ofNat 32 (leBytes f start w.bytes), s) := by
  have hlt := leBytes_lt f start w.bytes
  have hbound : 256 ^ w.bytes ≤ 2 ^ 32 := by cases w <;> decide
  have hnat : (BitVec.ofNat 32 (leBytes f start w.bytes)).toNat = leBytes f start w.bytes :=
    (BitVec.toNat_ofNat _ _).trans (Nat.mod_eq_of_lt (Nat.lt_of_lt_of_le hlt hbound))
  refine ⟨rfl, ?_, fun j hj => ?_⟩
  · rw [hnat]
    exact hlt
  · rw [byte_eq, hnat, leBytes_byte f start _ hj]

/-! Draws and open bus (R13, R129). -/

theorem drawWidth_drawn (w : Width) (s : State) : DrawnRead w s (drawWidth w s) := by
  have hd := (Config.draw 32 s.draws).isLt
  cases w with
  | byte =>
    refine congrArg (·, (draw 32 s).2) (BitVec.eq_of_toNat_eq ?_)
    simp only [draw, loByte, BitVec.toNat_setWidth, BitVec.toNat_ofNat, Width.bytes]
    omega
  | half =>
    refine congrArg (·, (draw 32 s).2) (BitVec.eq_of_toNat_eq ?_)
    simp only [draw, BitVec.toNat_setWidth, BitVec.toNat_ofNat, Width.bytes]
    omega
  | word =>
    refine congrArg (·, (draw 32 s).2) (BitVec.eq_of_toNat_eq ?_)
    simp only [BitVec.toNat_ofNat, Width.bytes]
    omega

/-- The halfword of R129's pattern at an aligned address. -/
theorem openPattern_toNat (w : Width) (a : Word) : (openPattern w a).toNat =
    match w with
    | .byte => a.toNat / 2 * 2 % 0x10000 / 256 ^ (a.toNat % 2) % 256
    | .half => a.toNat / 2 * 2 % 0x10000
    | .word => a.toNat / 4 * 4 % 0x10000 + (a.toNat / 4 * 4 + 2) % 0x10000 * 0x10000 := by
  have ha := a.isLt
  have hhalf : (a &&& ~~~1#32).toNat = a.toNat / 2 * 2 := alignTo_half_toNat a
  have htwo : (2 : Word).toNat = 2 := rfl
  have hword : (a &&& ~~~3#32).toNat = a.toNat / 4 * 4 := alignTo_word_toNat a
  cases w with
  | byte =>
    simp only [openPattern, getLsbD_zero_eq, decide_eq_true_eq]
    by_cases hodd : a.toNat % 2 = 1
    · rw [if_pos hodd, BitVec.toNat_setWidth, hiByte_toNat, BitVec.toNat_setWidth, hhalf, hodd]
      omega
    · have heven : a.toNat % 2 = 0 := by omega
      rw [if_neg hodd, BitVec.toNat_setWidth, loByte_toNat, BitVec.toNat_setWidth, hhalf, heven]
      omega
  | half =>
    simp only [openPattern, BitVec.toNat_setWidth, hhalf]
    omega
  | word =>
    simp only [openPattern, toNat_append_half, BitVec.toNat_setWidth, BitVec.toNat_add, hword, htwo]
    omega

theorem openBus_answers (w : Width) (a : Word) (s : State) : OpenBus w a s (openBus w a s) := by
  refine ⟨fun h => ?_, fun h => ?_⟩
  · rw [openBus, if_pos h]
    exact drawWidth_drawn w s
  · rw [openBus, if_neg (Bool.eq_false_iff.mp h)]
    exact ⟨rfl, openPattern_toNat w a⟩

end Sys2Proof.Proofs
end

section
/-! PROOFS. The value of a single load (R104, R124 to R130). -/

namespace Sys2Proof.Proofs

open Sys2Proof.Machine Sys2Proof.Claims

/-! Reads outside core memory (R123, R128, R129). -/

theorem memRead_bios {w : Width} {a : Word} {s : State} (h : region a = .bios) :
    ReadsBytes w (biosByte s.params) (a.toNat / w.bytes * w.bytes) s (memRead w a s) := by
  unfold memRead
  rw [h, ← alignTo_toNat]
  exact readsBytes_leBytes w _ _ s

theorem memRead_unmapped {w : Width} {a : Word} {s : State} (h : region a = .unmapped) :
    OpenBus w a s (memRead w a s) := by
  unfold memRead
  rw [h]
  exact openBus_answers w a s

theorem memRead_rom {w : Width} {a : Word} {s : State}
    (h : 4 ≤ a.toNat / 0x2000000 ∧ a.toNat / 0x2000000 ≤ 6) : memRead w a s = romRead w a s := by
  obtain ⟨x, hx⟩ := (exists_region_rom_iff a).mpr h
  unfold memRead
  rw [hx]

theorem romRead_image {w : Width} {a : Word} {s : State} (he : isEepromAddr a s = false)
    (h : a.toNat / w.bytes * w.bytes % 0x2000000 < s.params.rom32Size) :
    ReadsBytes w (romByte s.params) (a.toNat / w.bytes * w.bytes % 0x2000000) s (romRead w a s) := by
  rw [← alignTo_toNat] at h ⊢
  unfold romRead
  rw [if_neg (Bool.eq_false_iff.mp he)]
  dsimp only
  rw [if_pos h]
  exact readsBytes_leBytes w _ _ s

theorem romRead_beyond {w : Width} {a : Word} {s : State} (he : isEepromAddr a s = false)
    (h : s.params.rom32Size ≤ a.toNat / w.bytes * w.bytes % 0x2000000) : OpenBus w a s (romRead w a s) := by
  rw [← alignTo_toNat] at h
  unfold romRead
  rw [if_neg (Bool.eq_false_iff.mp he)]
  dsimp only
  rw [if_neg (Nat.not_lt.mpr h)]
  exact openBus_answers w a s

/-! Units of core memory (R103). -/

theorem readLe_eq_leBytes (m : Memory) (a n : Nat) : Memory.readLe m a n = leBytes (Memory.read m) a n := by
  induction n generalizing a with
  | zero => rfl
  | succ n ih => rw [Memory.readLe, leBytes, ih]

/-- A byte of an aligned unit (R102). -/
theorem ramRead_byte (w : Width) (a : Word) (s : State) (hr : isRam (region a)) {j : Nat} (hj : j < w.bytes) :
    ((ramRead (region a) w a s) >>> (8 * j)).setWidth 8 = ramByte s (region a) (a.toNat / w.bytes * w.bytes + j) := by
  obtain ⟨-, -, hbyte⟩ := readsBytes_leBytes w (Memory.read s.cpu32.mem) (memKey (region a) (alignTo w a).toNat) s
  have h := hbyte j hj
  rw [← readLe_eq_leBytes, alignTo_toNat, ← memKey_unit hr w _ hj] at h
  rw [ramRead, alignTo_toNat]
  exact h

theorem ramRead_lt (w : Width) (a : Word) (s : State) : (ramRead (region a) w a s).toNat < 256 ^ w.bytes := by
  obtain ⟨-, hlt, -⟩ := readsBytes_leBytes w (Memory.read s.cpu32.mem) (memKey (region a) (alignTo w a).toNat) s
  rw [ramRead, readLe_eq_leBytes]
  exact hlt

/-- A word below 256, from its byte. -/
theorem eq_of_byte {v : Word} {b : Byte} (hlt : v.toNat < 256) (h0 : (v >>> (8 * 0)).setWidth 8 = b) :
    v = b.setWidth 32 := by
  subst h0
  apply BitVec.eq_of_toNat_eq
  rw [byte_eq, BitVec.toNat_setWidth, BitVec.toNat_ofNat]
  omega

/-- A word below 65536, from its bytes. -/
theorem eq_of_bytes {v : Word} {b0 b1 : Byte} (hlt : v.toNat < 0x10000) (h0 : (v >>> (8 * 0)).setWidth 8 = b0)
    (h1 : (v >>> (8 * 1)).setWidth 8 = b1) : v = (b1 ++ b0 : Half).setWidth 32 := by
  subst h0 h1
  apply BitVec.eq_of_toNat_eq
  rw [BitVec.toNat_setWidth, toNat_append_byte, byte_eq, byte_eq, BitVec.toNat_ofNat, BitVec.toNat_ofNat]
  omega

theorem ramRead_byte_eq (a : Word) (s : State) (hr : isRam (region a)) :
    ramRead (region a) .byte a s = (ramByte s (region a) a.toNat).setWidth 32 := by
  have h0 := ramRead_byte .byte a s hr (j := 0) (by decide)
  rw [Width.bytes, Nat.div_one, Nat.mul_one] at h0
  exact eq_of_byte (ramRead_lt .byte a s) h0

theorem ramRead_half_eq (a : Word) (s : State) (hr : isRam (region a)) : ramRead (region a) .half a s =
    (ramByte s (region a) (a.toNat / 2 * 2 + 1) ++ ramByte s (region a) (a.toNat / 2 * 2) : Half).setWidth 32 :=
  eq_of_bytes (ramRead_lt .half a s) (ramRead_byte .half a s hr (j := 0) (by decide))
    (ramRead_byte .half a s hr (j := 1) (by decide))

/-! Rotations (R104). -/

/-- Rotating right by m bytes puts byte m lowest. -/
theorem byte_rotateRight (v : Word) {m j : Nat} (hm : m < 4) (hj : j < 4) :
    ((v.rotateRight (8 * m)) >>> (8 * j)).setWidth 8 = (v >>> (8 * ((m + j) % 4))).setWidth 8 := by
  apply BitVec.eq_of_getLsbD_eq
  intro i hi
  have hmod : 8 * m % 32 = 8 * m := Nat.mod_eq_of_lt (by omega)
  rw [BitVec.getLsbD_setWidth, BitVec.getLsbD_setWidth, BitVec.getLsbD_ushiftRight, BitVec.getLsbD_ushiftRight,
    BitVec.getLsbD_rotateRight, hmod]
  by_cases h : m + j < 4
  · have hidx : 8 * m + (8 * j + i) = 8 * ((m + j) % 4) + i := by omega
    simp [show 8 * j + i < 32 - 8 * m by omega, hidx]
  · have hidx : 8 * j + i - (32 - 8 * m) = 8 * ((m + j) % 4) + i := by omega
    simp [show ¬ 8 * j + i < 32 - 8 * m by omega, show 8 * j + i < 32 by omega, hidx]

theorem halfword_rotateRight (x y : Byte) : ((x ++ y : Half).setWidth 32 : Word).rotateRight 8 = y ++ 0#16 ++ x := by
  apply BitVec.eq_of_getLsbD_eq
  intro i hi
  rw [BitVec.getLsbD_rotateRight]
  simp only [BitVec.getLsbD_setWidth, BitVec.getLsbD_append, BitVec.getLsbD_zero]
  by_cases h8 : i < 8
  · have h24 : i < 24 := by omega
    have h32 : 8 + i < 32 := by omega
    simp [h8, h24, h32]
  by_cases h24 : i < 24
  · have h16 : i - 8 < 16 := by omega
    have hx : x.getLsbD i = false := BitVec.getLsbD_of_ge x i (Nat.not_lt.mp h8)
    simp [h24, h8, h16, hx]
  · have h16 : ¬ i - 8 < 16 := by omega
    have hy : i - 24 < 8 := by omega
    have h32 : i - 24 < 32 := by omega
    have hidx : i - 8 - 16 = i - 24 := by omega
    simp [hi, h24, h8, h16, hy, h32, hidx]

theorem halfword_zeroExtend (x y : Byte) : (x ++ y : Half).setWidth 32 = 0#16 ++ x ++ y := by
  have hx := x.isLt
  have hy := y.isLt
  apply BitVec.eq_of_toNat_eq
  rw [BitVec.toNat_setWidth, toNat_append_byte, toNat_append_byte, toNat_append_byte, BitVec.toNat_ofNat]
  omega

theorem rotateRight_zero (v : Word) : v.rotateRight 0 = v := by
  apply BitVec.eq_of_getLsbD_eq
  intro i hi
  rw [BitVec.getLsbD_rotateRight]
  simp [hi]

/-! Single loads. -/

theorem loadData_state {seq : Bool} {w : Width} {a : Word} {s t : State} (h : (loadData seq w a s).2 = t) : t = { s with
    cpu32 := { s.cpu32 with lastAccess := some (accessOf w a)
                            save := { s.cpu32.save with eout := t.cpu32.save.eout } }
    cycles := s.cycles + accessCost seq w a s
    draws := t.draws } := by
  obtain ⟨d, e, hd⟩ := loadData_readsTo seq w a s
  rw [← h, hd]
  rfl

theorem loadData_ram {w : Width} {a : Word} {s : State} (hr : isRam (region a)) (seq : Bool) :
    (loadData seq w a s).1 = ramRead (region a) w a s := by
  rw [loadData, memRead_ram hr]
  rfl

theorem loadValue_signedHalf (a : Word) (s : State) : loadValue .signedHalf a s =
    if a.toNat % 2 = 1 then (((loadData false .byte a s).1.setWidth 8 : Byte).signExtend 32, (loadData false .byte a s).2)
    else (((loadData false .half a s).1.setWidth 16 : Half).signExtend 32, (loadData false .half a s).2) := by
  simp only [loadValue, getLsbD_zero_eq, decide_eq_true_eq]

/-- A single load is one data read (R104). -/
theorem loadValue_state (k : LoadKind) (a : Word) (s : State) :
    (loadValue k a s).2 = (loadData false (loadWidth k a) a s).2 := by
  cases k with
  | signedHalf =>
    rw [loadValue_signedHalf, loadWidth]
    split <;> rfl
  | _ => rfl

theorem loadValue_word {a : Word} {s : State} (hr : isRam (region a)) {j : Nat} (hj : j < 4) :
    ((loadValue .word a s).1 >>> (8 * j)).setWidth 8 = ramByte s (region a) (a.toNat / 4 * 4 + (a.toNat + j) % 4) := by
  have hm : a.toNat % 4 < 4 := Nat.mod_lt _ (by decide)
  have hidx : (a.toNat % 4 + j) % 4 = (a.toNat + j) % 4 := by omega
  have hvalue : (loadValue .word a s).1 = rotate32 a (loadData false .word a s).1 := rfl
  rw [hvalue, loadData_ram hr, rotate32, byte_rotateRight _ hm hj, hidx]
  exact ramRead_byte .word a s hr (Nat.mod_lt _ (by decide))

theorem loadValue_unsignedByte {a : Word} {s : State} (hr : isRam (region a)) :
    (loadValue .unsignedByte a s).1 = (ramByte s (region a) a.toNat).setWidth 32 :=
  (loadData_ram hr false).trans (ramRead_byte_eq a s hr)

theorem loadValue_signedByte {a : Word} {s : State} (hr : isRam (region a)) :
    (loadValue .signedByte a s).1 = (ramByte s (region a) a.toNat).signExtend 32 := by
  have hvalue : (loadValue .signedByte a s).1 = ((loadData false .byte a s).1.setWidth 8 : Byte).signExtend 32 := rfl
  rw [hvalue, loadData_ram hr, ramRead_byte_eq a s hr, BitVec.setWidth_setWidth_of_le _ (by decide), BitVec.setWidth_eq]

theorem loadValue_unsignedHalf {a : Word} {s : State} (hr : isRam (region a)) : (loadValue .unsignedHalf a s).1 =
    if a.toNat % 2 = 0 then 0#16 ++ ramByte s (region a) (a.toNat + 1) ++ ramByte s (region a) a.toNat
    else ramByte s (region a) (a.toNat - 1) ++ 0#16 ++ ramByte s (region a) a.toNat := by
  have hvalue : (loadValue .unsignedHalf a s).1 = rotate16 a (loadData false .half a s).1 := rfl
  rw [hvalue, loadData_ram hr, ramRead_half_eq a s hr, rotate16]
  by_cases h : a.toNat % 2 = 0
  · have hunit : a.toNat / 2 * 2 = a.toNat := by omega
    rw [if_pos h, h, hunit]
    exact (rotateRight_zero _).trans (halfword_zeroExtend _ _)
  · have hunit : a.toNat / 2 * 2 = a.toNat - 1 := by omega
    have hnext : a.toNat - 1 + 1 = a.toNat := by omega
    have hodd : a.toNat % 2 = 1 := by omega
    rw [if_neg h, hodd, hunit, hnext]
    exact halfword_rotateRight _ _

theorem loadValue_signedHalf_ram {a : Word} {s : State} (hr : isRam (region a)) : (loadValue .signedHalf a s).1 =
    if a.toNat % 2 = 0 then (ramByte s (region a) (a.toNat + 1) ++ ramByte s (region a) a.toNat).signExtend 32
    else (ramByte s (region a) a.toNat).signExtend 32 := by
  rw [loadValue_signedHalf]
  by_cases h : a.toNat % 2 = 0
  · have hunit : a.toNat / 2 * 2 = a.toNat := by omega
    rw [if_pos h, if_neg (by omega), loadData_ram hr, ramRead_half_eq a s hr, hunit,
      BitVec.setWidth_setWidth_of_le _ (by decide), BitVec.setWidth_eq]
  · rw [if_neg h, if_pos (by omega), loadData_ram hr, ramRead_byte_eq a s hr,
      BitVec.setWidth_setWidth_of_le _ (by decide), BitVec.setWidth_eq]

/-- Settles O31: a read by its region, and a load by the bytes of its aligned unit. -/
theorem cpu32LoadedValue : Obligations.Cpu32LoadedValue := by
  refine ⟨fun w a s => ⟨memRead_bios, fun h he => ?_, memRead_unmapped⟩, fun k a s => ⟨?_, fun hr => ?_⟩⟩
  · rw [memRead_rom h]
    exact ⟨romRead_image he, romRead_beyond he⟩
  · exact ⟨_, rfl, loadData_state (loadValue_state k a s).symm⟩
  · cases k with
    | word => exact fun j => loadValue_word hr
    | unsignedByte => exact loadValue_unsignedByte hr
    | signedByte => exact loadValue_signedByte hr
    | unsignedHalf => exact loadValue_unsignedHalf hr
    | signedHalf => exact loadValue_signedHalf_ram hr

end Sys2Proof.Proofs
end

section
/-! PROOFS. What a CPU-32 store changes (R103, R120, R123 to R129), and the save machine's part of it (R151 to R158). -/

namespace Sys2Proof.Proofs

open Sys2Proof.Machine Sys2Proof.Claims

/-! The save machine at work (R152 to R156). -/

/-- What an operation of the save machine keeps: the save type, and every byte below the save bytes. -/
def InSave (s t : State) : Prop :=
  t.cpu32.save.kind = s.cpu32.save.kind ∧ (Memory.wf s.cpu32.mem = true → Memory.wf t.cpu32.mem = true ∧
    ∀ k, k < 0x0E000000 → Memory.read t.cpu32.mem k = Memory.read s.cpu32.mem k)

theorem InSave.rfl {s : State} : InSave s s := ⟨Eq.refl _, fun hm => ⟨hm, fun _ _ => Eq.refl _⟩⟩

theorem InSave.trans {s t u : State} (h : InSave s t) (h' : InSave t u) : InSave s u := by
  refine ⟨h'.1.trans h.1, fun hm => ?_⟩
  obtain ⟨ht, hkept⟩ := h.2 hm
  obtain ⟨hu, hkept'⟩ := h'.2 ht
  exact ⟨hu, fun k hk => (hkept' k hk).trans (hkept k hk)⟩

/-- Memory is left alone. -/
theorem InSave.of_mem {s t : State} (hkind : t.cpu32.save.kind = s.cpu32.save.kind)
    (hmem : t.cpu32.mem = s.cpu32.mem) : InSave s t :=
  ⟨hkind, fun hm => ⟨hmem.symm ▸ hm, fun _ _ => by rw [hmem]⟩⟩

theorem inSave_onSave {f : Save → Save} {s : State} (hf : (f s.cpu32.save).kind = s.cpu32.save.kind) :
    InSave s (onSave f s) := .of_mem hf rfl

theorem inSave_setSaveByte (o : Nat) (v : Byte) (s : State) : InSave s (setSaveByte o v s) := by
  refine ⟨rfl, fun hm => ⟨Memory.wf_write _ _ hm, fun k hk => Memory.read_write_ne v hm ?_⟩⟩
  rw [saveBase]
  omega

theorem inSave_eraseSave (o n : Nat) (s : State) : InSave s (eraseSave o n s) := by
  refine ⟨rfl, fun hm => ⟨Memory.wf_fill _ _ _ hm, fun k hk => ?_⟩⟩
  refine (Memory.read_fill _ _ _ _ hm).trans (if_neg ?_)
  rw [saveBase]
  omega

theorem inSave_flashCommand (b : Nat) (s : State) : InSave s (flashCommand b s) := by
  unfold flashCommand
  dsimp only
  split
  case h_4 =>
    split
    · exact (inSave_eraseSave _ _ s).trans (inSave_onSave rfl)
    · exact inSave_onSave rfl
  all_goals exact inSave_onSave rfl

theorem inSave_flashWrite (o : Nat) (b : Byte) (s : State) : InSave s (flashWrite o b s) := by
  unfold flashWrite
  dsimp only
  split
  · exact (inSave_setSaveByte _ _ s).trans (inSave_onSave rfl)
  split
  · exact inSave_onSave rfl
  split
  · exact inSave_onSave rfl
  split
  · exact inSave_onSave rfl
  split
  · exact inSave_flashCommand _ s
  split
  · exact (inSave_eraseSave _ _ s).trans (inSave_onSave rfl)
  split <;> exact inSave_onSave rfl

theorem inSave_storeBlock (block n : Nat) (bs : List Bool) (s : State) : InSave s (storeBlock block bs n s) := by
  induction n generalizing bs s with
  | zero => exact InSave.rfl
  | succ n ih => exact (inSave_setSaveByte _ _ s).trans (ih _ _)

theorem inSave_eepromAnswer (block : Nat) (s : State) : InSave s (eepromAnswer block s) := by
  unfold eepromAnswer
  dsimp only
  split <;> exact .of_mem rfl rfl

theorem inSave_eepromCommand (s : State) : InSave s (eepromCommand s) := by
  unfold eepromCommand
  dsimp only
  split
  · split
    · exact inSave_eepromAnswer _ s
    · exact InSave.rfl
  · split
    · refine InSave.trans ?_ (inSave_onSave rfl)
      split
      · exact inSave_storeBlock _ _ _ s
      · exact InSave.rfl
    · exact InSave.rfl
  · exact InSave.rfl

theorem inSave_eepromWrite (b : Bool) (s : State) : InSave s (eepromWrite b s) := by
  unfold eepromWrite
  dsimp only
  split
  · exact InSave.trans (inSave_onSave rfl) (inSave_eepromCommand _)
  · exact InSave.rfl

/-- Once the save type is known it stays (R151). -/
theorem inSave_saveWrite {byteWrite : Bool} {a : Nat} {b : Byte} {s : State} (h : s.cpu32.save.kind ≠ .unknown) :
    InSave s (saveWrite byteWrite a b s) := by
  unfold saveWrite
  rw [if_neg h]
  dsimp only
  split
  · exact inSave_setSaveByte _ _ s
  · exact inSave_flashWrite _ _ s
  · exact inSave_flashWrite _ _ s
  all_goals exact InSave.rfl

theorem detectSave_ne_unknown (byteWrite : Bool) (a : Nat) (b : Byte) : detectSave byteWrite a b ≠ .unknown := by
  unfold detectSave
  split <;> exact nofun

/-- The first write decides the type, and is then a write of that type (R151). -/
theorem saveWrite_unknown {byteWrite : Bool} {a : Nat} {b : Byte} {s : State} (h : s.cpu32.save.kind = .unknown) :
    saveWrite byteWrite a b s =
      saveWrite byteWrite a b (onSave (fun v => { v with kind := detectSave byteWrite a b }) s) := by
  have hknown : ¬ (onSave (fun v => { v with kind := detectSave byteWrite a b }) s).cpu32.save.kind = .unknown :=
    detectSave_ne_unknown byteWrite a b
  unfold saveWrite
  rw [if_pos h, if_neg hknown]

theorem saveWrite_below {byteWrite : Bool} {a : Nat} {b : Byte} {s : State} (hm : Memory.wf s.cpu32.mem = true) {k : Nat}
    (hk : k < 0x0E000000) :
    Memory.read (saveWrite byteWrite a b s).cpu32.mem k = Memory.read s.cpu32.mem k := by
  by_cases h : s.cpu32.save.kind = .unknown
  · have hknown : (onSave (fun v => { v with kind := detectSave byteWrite a b }) s).cpu32.save.kind ≠ .unknown :=
      detectSave_ne_unknown byteWrite a b
    rw [saveWrite_unknown h]
    exact ((inSave_saveWrite hknown).2 hm).2 k hk
  · exact ((inSave_saveWrite h).2 hm).2 k hk

theorem romWrite_below {m : Master} {w : Width} {a v : Word} {s : State} (hm : Memory.wf s.cpu32.mem = true) {k : Nat}
    (hk : k < 0x0E000000) : Memory.read (romWrite m w a v s).cpu32.mem k = Memory.read s.cpu32.mem k := by
  unfold romWrite
  split
  · split
    · exact ((inSave_eepromWrite _ s).2 hm).2 k hk
    · rfl
  · split
    · exact ((inSave_eepromWrite _ (onSave _ s)).2 hm).2 k hk
    · rfl

/-! Stores into core memory (R103, R124 to R127). -/

/-- What a store into core memory is: of the aligned unit; of a byte in both halves of its halfword; or ignored. -/
theorem memWrite_ram_cases (m : Master) (w : Width) {a : Word} (v : Word) (s : State) (hr : isRam (region a)) :
    (storeSpan w a s = (alignTo w a, w.bytes) ∧ memWrite m w a v s = .next (ramWrite (region a) w a v s)) ∨
    (w = .byte ∧ storeSpan w a s = (alignTo .half a, 2) ∧ memWrite m w a v s = .next (duplicateWrite (region a) a v s)) ∨
    (w = .byte ∧ storeSpan w a s = (a, 0) ∧ memWrite m w a v s = .next s) := by
  unfold storeSpan memWrite
  obtain h | h | h | h | h := hr <;> rw [h]
  · exact .inl ⟨rfl, rfl⟩
  · exact .inl ⟨rfl, rfl⟩
  · by_cases hw : w = .byte
    · exact .inr (.inl ⟨hw, if_pos hw, congrArg _ (if_pos hw)⟩)
    · exact .inl ⟨if_neg hw, congrArg _ (if_neg hw)⟩
  · by_cases hw : w = .byte
    · by_cases hv : vramOffset a.toNat < 0x10000
      · exact .inr (.inl ⟨hw, (if_pos hw).trans (if_pos hv), congrArg _ ((if_pos hw).trans (if_pos hv))⟩)
      · exact .inr (.inr ⟨hw, (if_pos hw).trans (if_neg hv), congrArg _ ((if_pos hw).trans (if_neg hv))⟩)
    · exact .inl ⟨if_neg hw, congrArg _ (if_neg hw)⟩
  · by_cases hw : w = .byte
    · exact .inr (.inr ⟨hw, if_pos hw, congrArg _ (if_pos hw)⟩)
    · exact .inl ⟨if_neg hw, congrArg _ (if_neg hw)⟩

/-- The memory after a unit's write, byte by byte. -/
theorem read_ramWrite {r : Region} (hr : isRam r) (w : Width) (a v : Word) {s : State}
    (hm : Memory.wf s.cpu32.mem = true) :
    (∀ j, j < w.bytes → Memory.read (ramWrite r w a v s).cpu32.mem (memKey r ((alignTo w a).toNat + j)) =
      (v >>> (8 * j)).setWidth 8) ∧
    ∀ k, Memory.read (ramWrite r w a v s).cpu32.mem k ≠ Memory.read s.cpu32.mem k →
      ∃ j, j < w.bytes ∧ k = memKey r ((alignTo w a).toNat + j) := by
  have hkey : ∀ j, j < w.bytes → memKey r ((alignTo w a).toNat + j) = memKey r (alignTo w a).toNat + j := fun j hj => by
    rw [alignTo_toNat]
    exact memKey_unit hr w _ hj
  refine ⟨fun j hj => ?_, fun k hk => ?_⟩
  · rw [hkey j hj, byte_eq]
    exact Memory.read_writeLe_inside _ _ _ _ hm hj
  · by_contra hout
    refine hk (Memory.read_writeLe_outside _ _ _ _ hm ?_)
    by_contra hin
    have hlt : k - memKey r (alignTo w a).toNat < w.bytes := by omega
    refine hout ⟨_, hlt, ?_⟩
    rw [hkey _ hlt]
    omega

theorem spread_half_byte (b : Byte) {j : Nat} (hj : j < 2) : ((spread .half b) >>> (8 * j)).setWidth 8 = b := by
  have hb := b.isLt
  apply BitVec.eq_of_toNat_eq
  have hlt : (b.toNat * 256 + b.toNat) % 2 ^ 32 = b.toNat * 257 := by omega
  rw [byte_eq, spread, BitVec.toNat_ofNat, BitVec.toNat_setWidth, toNat_append_byte, hlt]
  obtain rfl | rfl : j = 0 ∨ j = 1 := by omega
  · omega
  · have hhigh : b.toNat * 257 / 256 = b.toNat := by
      rw [Nat.mul_comm, Nat.add_mul 256 1, Nat.mul_add_div (by decide), Nat.one_mul, Nat.div_eq_of_lt hb, Nat.add_zero]
    rw [Nat.pow_one, hhigh]
    exact Nat.mod_eq_of_lt hb

/-- A store into core memory changes the bytes of its span, and no other. -/
theorem memWrite_ram (m : Master) (w : Width) {a : Word} (v : Word) {s t : State} (hm : Memory.wf s.cpu32.mem = true)
    (hr : isRam (region a)) (h : memWrite m w a v s = .next t) : t.cpu32.save = s.cpu32.save ∧
    (∀ j, j < (storeSpan w a s).2 → Memory.read t.cpu32.mem (memKey (region a) ((storeSpan w a s).1.toNat + j)) =
      if w = .byte then v.setWidth 8 else (v >>> (8 * j)).setWidth 8) ∧
    ∀ k, Memory.read t.cpu32.mem k ≠ Memory.read s.cpu32.mem k →
      ∃ j, j < (storeSpan w a s).2 ∧ k = memKey (region a) ((storeSpan w a s).1.toNat + j) := by
  obtain ⟨hspan, hw⟩ | ⟨rfl, hspan, hw⟩ | ⟨rfl, hspan, hw⟩ := memWrite_ram_cases m w v s hr
  · rw [hw] at h
    cases h
    obtain ⟨hin, hout⟩ := read_ramWrite hr w a v hm
    rw [hspan]
    refine ⟨rfl, fun j hj => ?_, hout⟩
    rw [hin j hj]
    split
    · rename_i hbyte
      subst hbyte
      obtain rfl : j = 0 := Nat.lt_one_iff.mp hj
      rfl
    · rfl
  · rw [hw] at h
    cases h
    obtain ⟨hin, hout⟩ := read_ramWrite hr .half a (spread .half (v.setWidth 8)) hm
    rw [hspan]
    exact ⟨rfl, fun j hj => (hin j hj).trans ((spread_half_byte _ hj).trans (if_pos rfl).symm), hout⟩
  · rw [hw] at h
    cases h
    rw [hspan]
    exact ⟨rfl, fun j hj => absurd hj (Nat.not_lt_zero j), fun k hk => absurd rfl hk⟩

end Sys2Proof.Proofs
end

section
/-! PROOFS. The CPU's store outside the IO window, the bytes it names, and the mirrors (R103, R120, R123 to R129). -/

namespace Sys2Proof.Proofs

open Sys2Proof.Machine Sys2Proof.Claims

/-! The store. -/

/-- A store that completes is the bus write, after its access is recorded and charged. -/
theorem memWrite_of_storeData {seq : Bool} {w : Width} {a v : Word} {s t : State} (h : storeData seq w a v s = .next t) :
    memWrite .cpu w a v (recordAccess a w false (charge (accessCost seq w a s) s)) = .next t := by
  unfold storeData at h
  dsimp only at h
  split at h
  · cases h
  · exact h

theorem storeData_state {seq : Bool} {w : Width} {a v : Word} {s t : State} (hio : region a ≠ .io)
    (h : storeData seq w a v s = .next t) : t = { s with
      cpu32 := { s.cpu32 with lastAccess := some (accessOf w a), save := t.cpu32.save, mem := t.cpu32.mem }
      cycles := s.cycles + accessCost seq w a s
      draws := t.draws } := by
  obtain ⟨u, hu, hwrites, -⟩ := memWrite_writesTo .cpu w a v (recordAccess a w false (charge (accessCost seq w a s) s)) hio
  have htu : t = u := Host.Outcome.next.inj ((memWrite_of_storeData h).symm.trans hu)
  subst htu
  exact hwrites

theorem memWrite_ignored {m : Master} {w : Width} {a v : Word} {s : State} (h : region a = .bios ∨ region a = .unmapped) :
    memWrite m w a v s = .next s := by
  unfold memWrite
  obtain h | h := h <;> rw [h]

/-- A write of cartridge space changes save bytes only (R128, R151). -/
theorem memWrite_cartridge {m : Master} {w : Width} {a v : Word} {s t : State} (hm : Memory.wf s.cpu32.mem = true)
    (h : region a = .save ∨ ∃ x, region a = .rom x) (ht : memWrite m w a v s = .next t) {k : Nat} (hk : k < 0x0E000000) :
    Memory.read t.cpu32.mem k = Memory.read s.cpu32.mem k := by
  unfold memWrite at ht
  obtain h | ⟨x, h⟩ := h <;> rw [h] at ht <;> cases ht
  · exact saveWrite_below hm hk
  · exact romWrite_below hm hk

/-- The regions a store outside the IO window can stand in. -/
theorem region_cases {a : Word} (h : region a ≠ .io) : isRam (region a) ∨ (region a = .bios ∨ region a = .unmapped) ∨
    (region a = .save ∨ ∃ x, region a = .rom x) := by
  unfold isRam
  generalize region a = r at h ⊢
  cases r with
  | io => exact absurd rfl h
  | _ => simp

/-- Every byte a store changes is one it names, or a save byte. -/
theorem memWrite_changes {m : Master} {w : Width} {a v : Word} {s t : State} (hm : Memory.wf s.cpu32.mem = true)
    (hio : region a ≠ .io) (ht : memWrite m w a v s = .next t) {k : Nat}
    (hk : Memory.read t.cpu32.mem k ≠ Memory.read s.cpu32.mem k) :
    (isRam (region a) ∧ ∃ j, j < (storeSpan w a s).2 ∧ k = memKey (region a) ((storeSpan w a s).1.toNat + j)) ∨
      (0x0E000000 ≤ k ∧ (region a = .save ∨ ∃ x, region a = .rom x)) := by
  obtain hr | hignored | hcart := region_cases hio
  · obtain ⟨-, -, hout⟩ := memWrite_ram m w v hm hr ht
    exact .inl ⟨hr, hout k hk⟩
  · rw [memWrite_ignored hignored] at ht
    cases ht
    exact absurd rfl hk
  · by_cases hlt : k < 0x0E000000
    · exact absurd (memWrite_cartridge hm hcart ht hlt) hk
    · exact .inr ⟨Nat.not_lt.mp hlt, hcart⟩

/-! The bytes a store names (R103, R125, R126, R127). -/

theorem storeSpan_work {w : Width} {a : Word} {s : State} (h : region a = .ewram ∨ region a = .iwram) :
    storeSpan w a s = (alignTo w a, w.bytes) := by
  unfold storeSpan
  obtain h | h := h <;> rw [h]

theorem storeSpan_wide {w : Width} {a : Word} {s : State} (hw : w ≠ .byte) (hr : isRam (region a)) :
    storeSpan w a s = (alignTo w a, w.bytes) := by
  obtain ⟨h, -⟩ | ⟨h, -⟩ | ⟨h, -⟩ := memWrite_ram_cases .cpu w 0#32 s hr
  · exact h
  · exact absurd h hw
  · exact absurd h hw

/-- Background VRAM is the first 64 KiB of the window (R126). -/
theorem vramOffset_background (n : Nat) : vramOffset n < 0x10000 ↔ n % 0x20000 < 0x10000 := by
  unfold vramOffset
  split <;> omega

theorem storeSpan_doubled {a : Word} {s : State}
    (h : region a = .palette ∨ (region a = .vram ∧ a.toNat % 0x20000 < 0x10000)) :
    storeSpan .byte a s = (alignTo .half a, 2) := by
  unfold storeSpan
  obtain h | ⟨h, hn⟩ := h
  · rw [h]
    rfl
  · rw [h]
    exact if_pos ((vramOffset_background _).mpr hn)

theorem storeSpan_ignored {a : Word} {s : State}
    (h : region a = .oam ∨ (region a = .vram ∧ 0x10000 ≤ a.toNat % 0x20000)) : storeSpan .byte a s = (a, 0) := by
  unfold storeSpan
  obtain h | ⟨h, hn⟩ := h
  · rw [h]
    rfl
  · rw [h]
    exact if_neg (mt (vramOffset_background _).mp (Nat.not_lt.mpr hn))

/-! The mirrors (R124 to R127). -/

theorem vramOffset_window (n : Nat) : vramOffset (n + 0x20000) = vramOffset n := by
  unfold vramOffset
  rw [Nat.add_mod_right]

theorem vramOffset_fold {n : Nat} (hlo : 0x10000 ≤ n % 0x20000) (hhi : n % 0x20000 < 0x18000) :
    vramOffset (n + 0x8000) = vramOffset n := by
  have hmod : (n + 0x8000) % 0x20000 = n % 0x20000 + 0x8000 := by omega
  rw [vramOffset, vramOffset, hmod, if_neg (by omega), if_pos hhi, Nat.add_sub_cancel]

/-- Settles O35: a store is the bus write of its region, by the bytes its span names. -/
theorem cpu32StoreFrame : Obligations.Cpu32StoreFrame := by
  refine ⟨fun w a v s t hm hio h => ?_, fun w a s => ?_, fun a => ?_, fun a => ?_⟩
  · let u := recordAccess a w false (charge (accessCost false w a s) s)
    have hwrite : memWrite .cpu w a v u = .next t := memWrite_of_storeData h
    refine ⟨storeData_state hio h, fun k => ?_, fun hr => ?_, fun hignored => ?_⟩
    · exact memWrite_changes (s := u) hm hio hwrite
    · obtain ⟨hsave, hin, -⟩ := memWrite_ram .cpu w v (s := u) hm hr hwrite
      exact ⟨hsave, hin⟩
    · have htu : u = t := Host.Outcome.next.inj ((memWrite_ignored hignored).symm.trans hwrite)
      rw [← htu]
      exact ⟨rfl, rfl⟩
  · refine ⟨fun h => ?_, fun hw hr => ?_, fun h => ?_, fun h => ?_⟩
    · rw [storeSpan_work h]
      exact ⟨alignTo_toNat w a, rfl⟩
    · rw [storeSpan_wide hw hr]
      exact ⟨alignTo_toNat w a, rfl⟩
    · rw [storeSpan_doubled h]
      exact ⟨alignTo_half_toNat a, rfl⟩
    · rw [storeSpan_ignored h]
  · have hmirror : ∀ base size, base + (a + size) % size = base + a % size := fun base size => by rw [Nat.add_mod_right]
    refine ⟨hmirror _ _, hmirror _ _, hmirror _ _, hmirror _ _, ?_, fun hlo hhi => ?_⟩
    · rw [memKey, memKey, vramOffset_window]
    · rw [memKey, memKey, vramOffset_fold hlo hhi]
  · exact ⟨region_eq_iff nofun, region_eq_iff nofun, region_eq_iff nofun, region_eq_iff nofun, region_eq_iff nofun,
      region_eq_iff nofun, region_eq_iff nofun, region_eq_iff nofun, exists_region_rom_iff a⟩

end Sys2Proof.Proofs
end

section
/-! PROOFS. SRAM and Flash (R150 to R155, R158). -/

namespace Sys2Proof.Proofs

open Sys2Proof.Machine Sys2Proof.Claims

/-! SRAM (R151, R152). -/

theorem saveWrite_sram {byteWrite : Bool} {a : Nat} {b : Byte} {s : State} (h : s.cpu32.save.kind = .sram) :
    saveWrite byteWrite a b s = setSaveByte (a % 0x8000) b s := by
  have hknown : ¬ s.cpu32.save.kind = .unknown := by rw [h]; exact nofun
  unfold saveWrite
  rw [if_neg hknown]
  simp only [h]

theorem saveRead_sram {s : State} (h : s.cpu32.save.kind = .sram) (a : Nat) :
    saveRead a s = some (saveByte s (a % 0x8000)) := by
  simp only [saveRead, h]

/-- A byte written is there, and no other byte changes. -/
theorem setSaveByte_stores (o : Nat) (b : Byte) {s : State} (hm : Memory.wf s.cpu32.mem = true) :
    saveByte (setSaveByte o b s) o = b ∧
      ∀ k, k ≠ saveBase + o → Memory.read (setSaveByte o b s).cpu32.mem k = Memory.read s.cpu32.mem k :=
  ⟨Memory.read_write_same _ _ hm, fun _ hk => Memory.read_write_ne _ hm hk⟩

/-- The first write decides for SRAM but where it begins a Flash command (R151). -/
theorem detectSave_sram {byteWrite : Bool} {a : Nat} {b : Byte}
    (h : ¬ (byteWrite = true ∧ b = 0xAA#8 ∧ a % 0x10000 = 0x5555)) : detectSave byteWrite a b = .sram := if_neg h

theorem sram_stores {a : Nat} {b : Byte} {byteWrite : Bool} {s : State} (hm : Memory.wf s.cpu32.mem = true)
    (h : s.cpu32.save.kind = .sram ∨
      (s.cpu32.save.kind = .unknown ∧ ¬ (byteWrite = true ∧ b = 0xAA#8 ∧ a % 0x10000 = 0x5555))) :
    ∃ t, saveWrite byteWrite a b s = t ∧ t.cpu32.save.kind = .sram ∧
      (∀ x, x % 0x8000 = a % 0x8000 → saveRead x t = some b) ∧
      ∀ k, k ≠ 0x0E000000 + a % 0x8000 → Memory.read t.cpu32.mem k = Memory.read s.cpu32.mem k := by
  have hsram : ∀ u : State, u.cpu32.save.kind = .sram → u.cpu32.mem = s.cpu32.mem →
      saveWrite byteWrite a b u = setSaveByte (a % 0x8000) b u ∧ (setSaveByte (a % 0x8000) b u).cpu32.save.kind = .sram ∧
      (∀ x, x % 0x8000 = a % 0x8000 → saveRead x (setSaveByte (a % 0x8000) b u) = some b) ∧
      ∀ k, k ≠ 0x0E000000 + a % 0x8000 →
        Memory.read (setSaveByte (a % 0x8000) b u).cpu32.mem k = Memory.read s.cpu32.mem k := by
    intro u hu hmem
    obtain ⟨hin, hout⟩ := setSaveByte_stores (a % 0x8000) b (s := u) (hmem.symm ▸ hm)
    refine ⟨saveWrite_sram hu, hu, fun x hx => ?_, fun k hk => (hout k hk).trans (by rw [hmem])⟩
    rw [saveRead_sram (s := setSaveByte _ b u) hu, hx, hin]
  obtain h | ⟨h, hfirst⟩ := h
  · exact ⟨_, hsram s h rfl⟩
  · rw [saveWrite_unknown h, detectSave_sram hfirst]
    exact ⟨_, hsram (onSave (fun v => { v with kind := .sram }) s) rfl rfl⟩

/-! Flash (R153 to R155). -/

/-- Flash of either size. -/
def IsFlash (s : State) : Prop := s.cpu32.save.kind = .flash64 ∨ s.cpu32.save.kind = .flash128

theorem saveWrite_flash {byteWrite : Bool} {o : Nat} {b : Byte} {s : State} (h : IsFlash s) (ho : o < 0x10000) :
    saveWrite byteWrite (0x0E000000 + o) b s = flashWrite o b s := by
  have hoff : (0x0E000000 + o) % 0x10000 = o := by omega
  obtain h | h := h
  · have hknown : ¬ s.cpu32.save.kind = .unknown := by rw [h]; exact nofun
    unfold saveWrite
    rw [if_neg hknown]
    simp only [h, hoff]
  · have hknown : ¬ s.cpu32.save.kind = .unknown := by rw [h]; exact nofun
    unfold saveWrite
    rw [if_neg hknown]
    simp only [h, hoff]

theorem saveRead_flash {s : State} (h : IsFlash s) (a : Nat) : saveRead a s = some (flashRead (a % 0x10000) s) := by
  obtain h | h := h <;> simp only [saveRead, h]

theorem flashWrites_append (xs ys : List (Nat × Byte)) (s : State) :
    flashWrites (xs ++ ys) s = flashWrites ys (flashWrites xs s) := by
  induction xs generalizing s with
  | nil => rfl
  | cons x xs ih => exact ih _

/-- The unlock parser at a stage (R153). -/
def atStage (stage : FlashStage) (s : State) : State := onSave (fun v => { v with fstage := stage }) s

/-- The first byte of the unlock (R154). -/
theorem flashWrite_unlock {s : State} (hcmd : s.cpu32.save.fcmd ≠ .write) (hstage : s.cpu32.save.fstage = .s0) :
    flashWrite 0x5555 0xAA#8 s = atStage .s1 s := by
  unfold flashWrite
  rw [if_neg hcmd, if_neg (fun hc => nomatch hc.2)]
  exact if_pos ⟨hstage, rfl, rfl⟩

/-- The unlock as the first write of all makes the save memory Flash (R151). -/
theorem saveWrite_firstUnlock {s : State} (hkind : s.cpu32.save.kind = .unknown) (hcmd : s.cpu32.save.fcmd = .none)
    (hstage : s.cpu32.save.fstage = .s0) : saveWrite true 0x0E005555 0xAA#8 s =
      { s with cpu32 := { s.cpu32 with save := { s.cpu32.save with kind := .flash64, fstage := .s1 } } } := by
  have hdetect : detectSave true 0x0E005555 0xAA#8 = .flash64 := if_pos ⟨rfl, rfl, by decide⟩
  have hwrite : ∀ u : State, IsFlash u → saveWrite true 0x0E005555 0xAA#8 u = flashWrite 0x5555 0xAA#8 u :=
    fun u hu => saveWrite_flash (o := 0x5555) hu (by decide)
  rw [saveWrite_unknown hkind, hdetect, hwrite _ (.inl rfl),
    flashWrite_unlock (s := onSave (fun v => { v with kind := .flash64 }) s) (hcmd ▸ nofun) hstage]
  rfl

/-- The two bytes of the unlock (R154). -/
theorem flashWrites_unlock {s : State} (h : IsFlash s) (hcmd : s.cpu32.save.fcmd ≠ .write)
    (hstage : s.cpu32.save.fstage = .s0) : flashWrites [(0x5555, 0xAA#8), (0x2AAA, 0x55#8)] s = atStage .s2 s := by
  have hsecond : flashWrite 0x2AAA 0x55#8 (atStage .s1 s) = atStage .s2 s := by
    simp [flashWrite, hcmd, atStage, onSave, on32]
  rw [flashWrites, saveWrite_flash h (by decide), flashWrite_unlock hcmd hstage, flashWrites,
    saveWrite_flash (s := atStage .s1 s) h (by decide), hsecond]
  rfl

/-- An unlocked command byte is acted on (R154). -/
theorem flashWrites_unlocked {s : State} (cmd : Byte) (h : IsFlash s) (hcmd : s.cpu32.save.fcmd ≠ .write)
    (hstage : s.cpu32.save.fstage = .s0) : flashWrites (unlocked cmd) s = flashCommand cmd.toNat (atStage .s2 s) := by
  have hlast : flashWrite 0x5555 cmd (atStage .s2 s) = flashCommand cmd.toNat (atStage .s2 s) := by
    simp [flashWrite, hcmd, atStage, onSave, on32]
  have hsplit : unlocked cmd = [(0x5555, 0xAA#8), (0x2AAA, 0x55#8)] ++ [(0x5555, cmd)] := rfl
  rw [hsplit, flashWrites_append, flashWrites_unlock h hcmd hstage, flashWrites,
    saveWrite_flash (s := atStage .s2 s) h (by decide), hlast]
  rfl

/-- A Flash machine between commands. -/
structure FlashIdle (s : State) : Prop where
  flash : IsFlash s
  cmd : s.cpu32.save.fcmd = .none
  stage : s.cpu32.save.fstage = .s0

/-- A Flash machine in which a command has begun (R154). -/
def begun (cmd : FlashCmd) (s : State) : State := onSave (fun v => { v with fcmd := cmd, fstage := .s0 }) s

/-- A Flash machine after a change of its mode (R154). -/
def inMode (mode : FlashMode) (s : State) : State := onSave (fun v => { v with fmode := mode, fstage := .s0 }) s

/-! The commands (R154). -/

theorem flashCommand_identify (stage : FlashStage) (s : State) :
    flashCommand (0x90#8).toNat (atStage stage s) = inMode .id s := rfl

theorem flashCommand_read (stage : FlashStage) (s : State) :
    flashCommand (0xF0#8).toNat (atStage stage s) = inMode .read s := rfl

theorem flashCommand_erase (stage : FlashStage) (s : State) :
    flashCommand (0x80#8).toNat (atStage stage s) = begun .erase s := rfl

theorem flashCommand_write (stage : FlashStage) (s : State) :
    flashCommand (0xA0#8).toNat (atStage stage s) = begun .write s := rfl

theorem flashCommand_bank (stage : FlashStage) (s : State) :
    flashCommand (0xB0#8).toNat (atStage stage s) = begun .bank s := rfl

theorem flashCommand_chip {s : State} (h : s.cpu32.save.fcmd = .erase) : flashCommand (0x10#8).toNat s =
    onSave Save.endCommand (eraseSave 0 (if s.cpu32.save.kind = .flash128 then 0x20000 else 0x10000) s) := by
  have hcode : (0x10#8).toNat = 0x10 := rfl
  rw [hcode, flashCommand]
  exact if_pos h

theorem FlashIdle.unlocked {s : State} (h : FlashIdle s) (cmd : Byte) :
    flashWrites (unlocked cmd) s = flashCommand cmd.toNat (atStage .s2 s) :=
  flashWrites_unlocked cmd h.flash (by rw [h.cmd]; exact nofun) h.stage

/-- Ending a command restores the save machine's registers. -/
theorem FlashIdle.endCommand {s : State} (h : FlashIdle s) (cmd : FlashCmd) (stage : FlashStage) :
    ({ s.cpu32.save with fcmd := cmd, fstage := stage } : Save).endCommand = s.cpu32.save := by
  show ({ s.cpu32.save with fcmd := .none, fstage := .s0 } : Save) = s.cpu32.save
  rw [← h.cmd, ← h.stage]

/-- Identify, and leave identify (R154, R155). -/
theorem flash_identify {s : State} (h : FlashIdle s) : ∃ t, flashWrites (unlocked 0x90#8) s = t ∧
    saveRead 0x0E000000 t = some Config.flashMaker ∧ saveRead 0x0E000001 t = some Config.flashDevice ∧
    saveRead 0x0E000000 (flashWrites (unlocked 0xF0#8) t) =
      some (Memory.read s.cpu32.mem (0x0E000000 + s.cpu32.save.fbank.toNat * 0x10000)) := by
  have hid : FlashIdle (inMode .id s) := ⟨h.flash, h.cmd, rfl⟩
  have hflash : IsFlash (inMode .read (inMode .id s)) := h.flash
  have hread : flashRead 0 (inMode .read (inMode .id s)) = saveByte s (s.cpu32.save.flashOffset 0) := by
    unfold flashRead
    exact (if_neg fun hc => nomatch hc.1).trans (if_neg fun hc => nomatch hc.1)
  refine ⟨inMode .id s, (h.unlocked _).trans (flashCommand_identify _ s), saveRead_flash hid.flash _,
    saveRead_flash hid.flash _, ?_⟩
  rw [hid.unlocked, flashCommand_read, saveRead_flash hflash, Nat.mod_eq_zero_of_dvd (by decide), hread, saveByte,
    Save.flashOffset, saveBase, Nat.add_zero]

/-- Write a byte (R154). -/
theorem flash_program {s : State} (h : FlashIdle s) {o : Nat} (b : Byte) (hm : Memory.wf s.cpu32.mem = true)
    (ho : o < 0x10000) : ∃ t, flashWrites (unlocked 0xA0#8 ++ [(o, b)]) s = t ∧ t.cpu32.save = s.cpu32.save ∧
      Memory.read t.cpu32.mem (0x0E000000 + s.cpu32.save.fbank.toNat * 0x10000 + o) = b ∧
      ∀ k, k ≠ 0x0E000000 + s.cpu32.save.fbank.toNat * 0x10000 + o →
        Memory.read t.cpu32.mem k = Memory.read s.cpu32.mem k := by
  have hwrite : flashWrite o b (begun .write s) =
      onSave Save.endCommand (setSaveByte (s.cpu32.save.flashOffset o) b (begun .write s)) := by
    unfold flashWrite
    exact if_pos rfl
  obtain ⟨hin, hout⟩ := setSaveByte_stores (s.cpu32.save.flashOffset o) b (s := begun .write s) hm
  rw [flashWrites_append, h.unlocked, flashCommand_write, flashWrites, saveWrite_flash (s := begun .write s) h.flash ho,
    hwrite, Nat.add_assoc]
  exact ⟨_, rfl, h.endCommand .write .s0, hin, fun k hk => hout k hk⟩

/-- The first half of an erase: the command, and the unlock after it (R154). -/
theorem flash_erase_unlock {s : State} (h : FlashIdle s) (rest : List (Nat × Byte)) :
    flashWrites (unlocked 0x80#8 ++ ([(0x5555, 0xAA#8), (0x2AAA, 0x55#8)] ++ rest)) s =
      flashWrites rest (atStage .s2 (begun .erase s)) := by
  rw [flashWrites_append, h.unlocked, flashCommand_erase, flashWrites_append,
    flashWrites_unlock (s := begun .erase s) h.flash nofun rfl]

/-- An erased run of save bytes (R154). -/
theorem read_eraseSave (o n k : Nat) {s : State} (hm : Memory.wf s.cpu32.mem = true) :
    Memory.read (eraseSave o n s).cpu32.mem k =
      if saveBase + o ≤ k ∧ k < saveBase + o + n then 0xFF#8 else Memory.read s.cpu32.mem k :=
  Memory.read_fill _ _ _ _ hm

/-- The end of an erase (R154). -/
theorem FlashIdle.erased {s t : State} (h : FlashIdle s) (hm : Memory.wf s.cpu32.mem = true) {o n : Nat}
    (ht : t = onSave Save.endCommand (eraseSave o n (atStage .s2 (begun .erase s)))) :
    t.cpu32.save = s.cpu32.save ∧ ∀ k, Memory.read t.cpu32.mem k =
      if saveBase + o ≤ k ∧ k < saveBase + o + n then 0xFF#8 else Memory.read s.cpu32.mem k := by
  subst ht
  exact ⟨h.endCommand .erase .s2, fun k => read_eraseSave o n k (s := atStage .s2 (begun .erase s)) hm⟩

/-- Erase a sector (R154). -/
theorem flash_eraseSector {s : State} (h : FlashIdle s) {o : Nat} (hm : Memory.wf s.cpu32.mem = true)
    (ho : o < 0x10000) : ∃ t, flashWrites (unlocked 0x80#8 ++ [(0x5555, 0xAA#8), (0x2AAA, 0x55#8), (o, 0x30#8)]) s = t ∧
      (o ≠ 0x5555 → t.cpu32.save = s.cpu32.save ∧ ∀ k, Memory.read t.cpu32.mem k =
        if (k - 0x0E000000) / 0x1000 = s.cpu32.save.fbank.toNat * 16 + o / 0x1000 ∧ 0x0E000000 ≤ k then 0xFF#8
        else Memory.read s.cpu32.mem k) := by
  refine ⟨_, rfl, fun hne => ?_⟩
  have hlast : flashWrite o 0x30#8 (atStage .s2 (begun .erase s)) = onSave Save.endCommand
      (eraseSave (s.cpu32.save.flashOffset (o / 0x1000 * 0x1000)) 0x1000 (atStage .s2 (begun .erase s))) := by
    unfold flashWrite
    rw [if_neg nofun, if_neg (fun hc => nomatch hc.1), if_neg (fun hc => nomatch hc.1), if_neg (fun hc => nomatch hc.1),
      if_neg (fun hc => hne hc.2)]
    exact if_pos ⟨rfl, rfl, rfl⟩
  have hrun : flashWrites (unlocked 0x80#8 ++ [(0x5555, 0xAA#8), (0x2AAA, 0x55#8), (o, 0x30#8)]) s =
      flashWrite o 0x30#8 (atStage .s2 (begun .erase s)) :=
    (flash_erase_unlock h [(o, 0x30#8)]).trans (saveWrite_flash (s := atStage .s2 (begun .erase s)) h.flash ho)
  obtain ⟨hsave, hread⟩ := h.erased hm (hrun.trans hlast)
  refine ⟨hsave, fun k => (hread k).trans (if_congr ?_ rfl rfl)⟩
  rw [saveBase, Save.flashOffset]
  omega

/-- Erase the chip (R154). -/
theorem flash_eraseChip {s : State} (h : FlashIdle s) (hm : Memory.wf s.cpu32.mem = true) :
    ∃ t, flashWrites (unlocked 0x80#8 ++ unlocked 0x10#8) s = t ∧ t.cpu32.save = s.cpu32.save ∧
      ∀ k, Memory.read t.cpu32.mem k =
        if 0x0E000000 ≤ k ∧ k < 0x0E000000 + (if s.cpu32.save.kind = .flash128 then 0x20000 else 0x10000) then 0xFF#8
        else Memory.read s.cpu32.mem k := by
  have hrun : flashWrites (unlocked 0x80#8 ++ unlocked 0x10#8) s = onSave Save.endCommand (eraseSave 0
      (if s.cpu32.save.kind = .flash128 then 0x20000 else 0x10000) (atStage .s2 (begun .erase s))) := by
    rw [flashWrites_append, h.unlocked, flashCommand_erase, flashWrites_unlocked (s := begun .erase s) _ h.flash nofun rfl,
      flashCommand_chip (s := atStage .s2 (begun .erase s)) rfl]
    rfl
  exact ⟨_, rfl, h.erased hm hrun⟩

/-- Switch the bank (R154). -/
theorem flash_bank {s : State} (h : FlashIdle s) (bank : BitVec 1) :
    flashWrites (unlocked 0xB0#8 ++ [(0, bank.setWidth 8)]) s = { s with cpu32 := { s.cpu32 with
      save := { s.cpu32.save with fbank := if s.cpu32.save.kind = .flash128 then bank else 0 } } } := by
  have hbank : (bank.setWidth 8).setWidth 1 = bank := by
    rw [BitVec.setWidth_setWidth_of_le _ (by decide), BitVec.setWidth_eq]
  have hwrite : flashWrite 0 (bank.setWidth 8) (begun .bank s) = onSave (fun v => { v.endCommand with
      fbank := if v.kind = .flash128 then (bank.setWidth 8).setWidth 1 else 0 }) (begun .bank s) := by
    unfold flashWrite
    rw [if_neg nofun]
    exact if_pos ⟨rfl, rfl⟩
  rw [flashWrites_append, h.unlocked, flashCommand_bank, flashWrites,
    saveWrite_flash (s := begun .bank s) h.flash (by decide), hwrite, hbank]
  conv_rhs => rw [← h.endCommand .bank .s0]
  rfl

end Sys2Proof.Proofs
end

section
/-! PROOFS. The EEPROM's requests (R156). -/

namespace Sys2Proof.Proofs

open Sys2Proof.Machine Sys2Proof.Claims

/-! Numbers and their bits, most significant first. -/

theorem length_bitsOf (x n : Nat) : (bitsOf x n).length = n := by
  induction n with
  | zero => rfl
  | succ n ih => rw [bitsOf, List.length_cons, ih]

theorem bitsOf_add (x m n : Nat) : bitsOf x (m + n) = bitsOf (x / 2 ^ n) m ++ bitsOf x n := by
  induction m with
  | zero => rw [Nat.zero_add]; rfl
  | succ m ih => rw [Nat.add_right_comm, bitsOf, ih, bitsOf, Nat.testBit_div_two_pow, List.cons_append]

theorem ofBits_cons (b : Bool) (bs : List Bool) : ofBits (b :: bs) = b.toNat * 2 ^ bs.length + ofBits bs := by
  have hacc : ∀ (l : List Bool) (acc : Nat), l.foldl (fun acc b => 2 * acc + (if b then 1 else 0)) acc =
      acc * 2 ^ l.length + ofBits l := by
    intro l
    induction l with
    | nil => intro acc; exact (Nat.mul_one acc).symm
    | cons c l ih =>
      intro acc
      rw [ofBits, List.foldl_cons, List.foldl_cons, ih, ih, List.length_cons, Nat.pow_succ]
      ring
  have hfirst : 2 * 0 + (if b = true then 1 else 0) = b.toNat := by cases b <;> rfl
  rw [ofBits, List.foldl_cons, hacc, hfirst]

theorem ofBits_bitsOf (x n : Nat) : ofBits (bitsOf x n) = x % 2 ^ n := by
  induction n with
  | zero => exact (Nat.mod_one x).symm
  | succ n ih => rw [bitsOf, ofBits_cons, ih, length_bitsOf, Nat.toNat_testBit, Nat.mod_pow_succ, Nat.mul_comm, Nat.add_comm]

/-! Blocks (R156). -/

theorem getElem?_byteBits (b : Byte) {i : Nat} (hi : i < 8) : (byteBits b)[i]? = some (b.getLsbD (7 - i)) := by
  interval_cases i <;> rfl

theorem getElem?_blockBits (s : State) (block : Nat) {n i : Nat} (hn : n ≤ 8) (hi : i < 8 * n) :
    (blockBits s block n)[i]? = some ((saveByte s (8 * block + (8 - n) + i / 8)).getLsbD (7 - i % 8)) := by
  induction n generalizing i with
  | zero => exact absurd hi (Nat.not_lt_zero i)
  | succ n ih =>
    have hlen : (byteBits (saveByte s (8 * block + (7 - n)))).length = 8 := rfl
    rw [blockBits]
    by_cases h : i < 8
    · have hbyte : 8 * block + (8 - (n + 1)) + i / 8 = 8 * block + (7 - n) := by omega
      rw [List.getElem?_append_left (hlen.symm ▸ h), getElem?_byteBits _ h, hbyte, Nat.mod_eq_of_lt h]
    · have hbyte : 8 * block + (8 - n) + (i - 8) / 8 = 8 * block + (8 - (n + 1)) + i / 8 := by omega
      have hbit : (i - 8) % 8 = i % 8 := by omega
      rw [List.getElem?_append_right (hlen.symm ▸ Nat.not_lt.mp h), hlen, ih (by omega) (by omega), hbyte, hbit]

/-- What a block's store leaves: its last n bytes hold the number's 8n low bits, and no other byte changes. -/
theorem read_storeBlock (block x : Nat) {n : Nat} (hn : n ≤ 8) {s : State} (hm : Memory.wf s.cpu32.mem = true) :
    (∀ j, 8 - n ≤ j → j < 8 → saveByte (storeBlock block (bitsOf x (8 * n)) n s) (8 * block + j) =
      BitVec.ofNat 8 (x / 2 ^ (56 - 8 * j))) ∧
    ∀ k, ¬ (saveBase + (8 * block + (8 - n)) ≤ k ∧ k < saveBase + (8 * block + 8)) →
      Memory.read (storeBlock block (bitsOf x (8 * n)) n s).cpu32.mem k = Memory.read s.cpu32.mem k := by
  induction n generalizing s with
  | zero => exact ⟨fun j hlo hhi => absurd hhi (Nat.not_lt.mpr hlo), fun _ _ => rfl⟩
  | succ n ih =>
    have hbits : bitsOf x (8 * (n + 1)) = bitsOf (x / 2 ^ (8 * n)) 8 ++ bitsOf x (8 * n) := by
      rw [Nat.mul_succ, Nat.add_comm, bitsOf_add]
    have hlen := length_bitsOf (x / 2 ^ (8 * n)) 8
    have hnum : BitVec.ofNat 8 (x / 2 ^ (8 * n) % 2 ^ 8) = BitVec.ofNat 8 (x / 2 ^ (8 * n)) :=
      BitVec.eq_of_toNat_eq (by rw [BitVec.toNat_ofNat, BitVec.toNat_ofNat, Nat.mod_mod])
    rw [hbits, storeBlock, List.take_left' hlen, List.drop_left' hlen, ofBits_bitsOf, hnum]
    obtain ⟨hset, hkeep⟩ := setSaveByte_stores (8 * block + (7 - n)) (BitVec.ofNat 8 (x / 2 ^ (8 * n))) hm
    obtain ⟨hin, hout⟩ := ih (by omega)
      (s := setSaveByte (8 * block + (7 - n)) (BitVec.ofNat 8 (x / 2 ^ (8 * n))) s) (Memory.wf_write _ _ hm)
    refine ⟨fun j hlo hhi => ?_, fun k hk => ?_⟩
    · by_cases hj : j = 7 - n
      · have hexp : 56 - 8 * (7 - n) = 8 * n := by omega
        subst hj
        rw [hexp]
        refine (hout _ ?_).trans hset
        omega
      · exact hin j (by omega) hhi
    · exact (hout k (by omega)).trans (hkeep k (by omega))

/-! Requests (R156). -/

/-- The bits of a request after its first two. -/
def requestBits (k : SaveType) (read : Bool) : Nat := eepromAddrBits k + if read then 1 else 65

theorem requestBits_bounds (k : SaveType) (read : Bool) : 0 < requestBits k read ∧ requestBits k read < 0x7E := by
  cases k <;> cases read <;> decide

/-- The EEPROM with these bits received. -/
def received (bs : List Bool) (s : State) : State := onSave (fun v => { v with ein := bs }) s

theorem eepromWrite_received (b : Bool) (bs : List Bool) (s : State) (h : bs.length < 0x80) :
    eepromWrite b (received bs s) = eepromCommand (received (bs ++ [b]) s) := if_pos h

/-- A request not yet complete is not acted on. -/
theorem eepromCommand_incomplete {read : Bool} {bs : List Bool} {s : State}
    (h : bs.length ≠ requestBits s.cpu32.save.kind read) :
    eepromCommand (received (true :: read :: bs) s) = received (true :: read :: bs) s := by
  cases read <;> exact if_neg h

theorem eepromBits_append (xs ys : List Bool) (s : State) : eepromBits (xs ++ ys) s = eepromBits ys (eepromBits xs s) := by
  induction xs generalizing s with
  | nil => rfl
  | cons x xs ih => exact ih _

theorem eepromBits_incomplete {read : Bool} {bs more : List Bool} {s : State}
    (h : bs.length + more.length < requestBits s.cpu32.save.kind read) :
    eepromBits more (received (true :: read :: bs) s) = received (true :: read :: (bs ++ more)) s := by
  induction more generalizing bs with
  | nil => rw [List.append_nil]; rfl
  | cons b more ih =>
    obtain ⟨-, hbound⟩ := requestBits_bounds s.cpu32.save.kind read
    rw [List.length_cons] at h
    have hone : (bs ++ [b]).length = bs.length + 1 := List.length_append
    have hroom : (true :: read :: bs).length < 0x80 := by
      rw [List.length_cons, List.length_cons]
      omega
    rw [eepromBits, eepromWrite_received b _ s hroom]
    show eepromBits more (eepromCommand (received (true :: read :: (bs ++ [b])) s)) = _
    rw [eepromCommand_incomplete (by omega), ih (by omega), List.append_assoc]
    rfl

/-- A request's last bit makes the EEPROM act on it. -/
theorem eepromBits_request {read last : Bool} {body : List Bool} {s : State} (hein : s.cpu32.save.ein = [])
    (h : body.length + 1 = requestBits s.cpu32.save.kind read) :
    eepromBits ([true, read] ++ body ++ [last]) s = eepromCommand (received (true :: read :: (body ++ [last])) s) := by
  obtain ⟨hpos, hbound⟩ := requestBits_bounds s.cpu32.save.kind read
  have hstart : received [] s = s := by
    show { s with cpu32 := { s.cpu32 with save := { s.cpu32.save with ein := [] } } } = s
    rw [← hein]
  have hfirst : eepromWrite true s = received [true] s := by
    conv_lhs => rw [← hstart]
    exact eepromWrite_received true [] s (by decide)
  have hsecond : eepromWrite read (received [true] s) = received [true, read] s :=
    (eepromWrite_received read [true] s (by decide)).trans (eepromCommand_incomplete hpos.ne)
  have hroom : (true :: read :: body).length < 0x80 := by
    rw [List.length_cons, List.length_cons]
    omega
  have hbody : eepromBits body (received [true, read] s) = received (true :: read :: body) s :=
    eepromBits_incomplete (bs := []) (by rw [List.length_nil]; omega)
  calc eepromBits ([true, read] ++ body ++ [last]) s
      = eepromWrite last (eepromBits body (eepromWrite read (eepromWrite true s))) := by
        rw [eepromBits_append, eepromBits_append]
        rfl
    _ = eepromCommand (received (true :: read :: (body ++ [last])) s) := by
        rw [hfirst, hsecond, hbody, eepromWrite_received _ _ _ hroom]
        rfl

@[simp] theorem received_kind (bs : List Bool) (s : State) : (received bs s).cpu32.save.kind = s.cpu32.save.kind := rfl

/-- A complete read request is answered (R156). -/
theorem eepromCommand_read {addr : List Bool} {s : State} (h : addr.length = eepromAddrBits s.cpu32.save.kind) :
    eepromCommand (received (true :: true :: (addr ++ [false])) s) =
      eepromAnswer (ofBits addr) (received (true :: true :: (addr ++ [false])) s) := by
  have hlen : (addr ++ [false]).length = eepromAddrBits s.cpu32.save.kind + 1 := by
    rw [List.length_append, h]
    rfl
  have htake : (addr ++ [false]).take (eepromAddrBits s.cpu32.save.kind) = addr := List.take_left' h
  have hact : eepromCommand (received (true :: true :: (addr ++ [false])) s) = eepromAnswer
      (ofBits ((addr ++ [false]).take (eepromAddrBits s.cpu32.save.kind)))
      (received (true :: true :: (addr ++ [false])) s) := if_pos hlen
  rw [hact, htake]

/-- A complete write request stores its data (R156). -/
theorem eepromCommand_write {addr data : List Bool} {s : State} (h : addr.length = eepromAddrBits s.cpu32.save.kind)
    (hdata : data.length = 64) (hblock : ofBits addr < eepromBlocks s.cpu32.save.kind) :
    eepromCommand (received (true :: false :: (addr ++ data ++ [false])) s) =
      onSave (fun v => { v with ein := [], eout := [] })
        (storeBlock (ofBits addr) data 8 (received (true :: false :: (addr ++ data ++ [false])) s)) := by
  have hlen : (addr ++ data ++ [false]).length = eepromAddrBits s.cpu32.save.kind + 65 := by
    rw [List.length_append, List.length_append, h, hdata]
    rfl
  have htake : (addr ++ data ++ [false]).take (eepromAddrBits s.cpu32.save.kind) = addr := by
    rw [List.append_assoc]
    exact List.take_left' h
  have hdrop : ((addr ++ data ++ [false]).drop (eepromAddrBits s.cpu32.save.kind)).take 64 = data := by
    rw [List.append_assoc, List.drop_left' h]
    exact List.take_left' hdata
  have hact : eepromCommand (received (true :: false :: (addr ++ data ++ [false])) s) = _ := if_pos hlen
  rw [hact, received_kind, htake, hdrop, if_pos hblock]

/-- The storage's blocks are those that the address bits reach, for both sizes. -/
theorem eepromBlocks_le (k : SaveType) : eepromBlocks k ≤ 2 ^ eepromAddrBits k := by cases k <;> decide

/-- A block's address bits stand for the block. -/
theorem ofBits_blockAddr {block : Nat} {k : SaveType} (h : block < eepromBlocks k) :
    ofBits (bitsOf block (eepromAddrBits k)) = block := by
  rw [ofBits_bitsOf, Nat.mod_eq_of_lt (Nat.lt_of_lt_of_le h (eepromBlocks_le k))]

/-- A read request is answered by four 0 bits and the block's bits (R156). -/
theorem eeprom_read {block : Nat} {s : State} (hein : s.cpu32.save.ein = [])
    (hblock : block < eepromBlocks s.cpu32.save.kind) :
    ∃ t, eepromBits ([true, true] ++ bitsOf block (eepromAddrBits s.cpu32.save.kind) ++ [false]) s = t ∧
      t.cpu32.mem = s.cpu32.mem ∧ t.cpu32.save.ein = [] ∧ t.cpu32.save.eout.length = 68 ∧
      (∀ i, i < 4 → t.cpu32.save.eout[i]? = some false) ∧
      ∀ i, i < 64 → t.cpu32.save.eout[4 + i]? =
        some ((Memory.read s.cpu32.mem (0x0E000000 + 8 * block + i / 8)).getLsbD (7 - i % 8)) := by
  have haddr := length_bitsOf block (eepromAddrBits s.cpu32.save.kind)
  have hanswer : ∀ r : State, r.cpu32.save.kind = s.cpu32.save.kind → eepromAnswer block r =
      onSave (fun v => { v with ein := [], eout := [false, false, false, false] ++ blockBits r block 8 }) r :=
    fun r hr => if_pos (hr.symm ▸ hblock)
  rw [eepromBits_request hein (by rw [haddr]; rfl), eepromCommand_read haddr, ofBits_blockAddr hblock,
    hanswer _ (received_kind _ s)]
  refine ⟨_, rfl, rfl, rfl, ?_, fun i hi => ?_, fun i hi => ?_⟩
  · rw [onSave, on32_cpu32, List.length_append, length_blockBits]
    rfl
  · rw [onSave, on32_cpu32, List.getElem?_append_left (by exact hi)]
    interval_cases i <;> rfl
  · have hadd : 0x0E000000 + 8 * block + i / 8 = saveBase + (8 * block + (8 - 8) + i / 8) := by
      rw [saveBase]
      omega
    rw [onSave, on32_cpu32, List.getElem?_append_right (Nat.le_add_right 4 i), hadd]
    refine (congrArg (_[·]?) (Nat.add_sub_cancel_left 4 i)).trans ?_
    exact getElem?_blockBits (received _ s) block (Nat.le_refl 8) hi

/-- A write request stores its 64 bits in the block, and changes no other byte (R156). -/
theorem eeprom_write {block : Nat} (data : BitVec 64) {s : State} (hm : Memory.wf s.cpu32.mem = true)
    (hein : s.cpu32.save.ein = []) (hblock : block < eepromBlocks s.cpu32.save.kind) :
    ∃ t, eepromBits ([true, false] ++ bitsOf block (eepromAddrBits s.cpu32.save.kind) ++ bitsOf data.toNat 64 ++
        [false]) s = t ∧
      t.cpu32.save.ein = [] ∧ t.cpu32.save.eout = [] ∧
      (∀ j, j < 8 → Memory.read t.cpu32.mem (0x0E000000 + 8 * block + j) =
        BitVec.ofNat 8 (data.toNat / 2 ^ (56 - 8 * j))) ∧
      ∀ k, ¬ (0x0E000000 + 8 * block ≤ k ∧ k < 0x0E000000 + 8 * block + 8) →
        Memory.read t.cpu32.mem k = Memory.read s.cpu32.mem k := by
  have haddr := length_bitsOf block (eepromAddrBits s.cpu32.save.kind)
  have hdata := length_bitsOf data.toNat 64
  have hlen : (bitsOf block (eepromAddrBits s.cpu32.save.kind) ++ bitsOf data.toNat 64).length + 1 =
      requestBits s.cpu32.save.kind false := by
    rw [List.length_append, haddr, hdata]
    rfl
  rw [List.append_assoc [true, false], eepromBits_request hein hlen,
    eepromCommand_write haddr hdata ((ofBits_blockAddr hblock).symm ▸ hblock), ofBits_blockAddr hblock]
  generalize true :: false :: _ = bs
  obtain ⟨hin, hout⟩ := read_storeBlock block data.toNat (Nat.le_refl 8) (s := received bs s) hm
  refine ⟨_, rfl, rfl, rfl, fun j hj => ?_, fun k hk => hout k ?_⟩
  · rw [Nat.add_assoc]
    exact hin j (by omega) hj
  · rw [saveBase]
    omega

end Sys2Proof.Proofs
end

section
/-! PROOFS. The save memories on the bus and under DMA (R151, R156 to R158). -/

namespace Sys2Proof.Proofs

open Sys2Proof.Machine Sys2Proof.Claims

/-! The EEPROM's window (R151, R156, R157). -/

theorem isEepromAddr_iff (a : Word) (s : State) : isEepromAddr a s = true ↔
    (s.cpu32.save.kind = .eeprom512 ∨ s.cpu32.save.kind = .eeprom8k) ∧ a.toNat / 0x1000000 = 0xD ∧
      (s.params.rom32Size ≤ 0x1000000 ∨ 0x0DFFFF00 ≤ a.toNat) := by
  have htype : isEepromType s.cpu32.save.kind = true ↔
      s.cpu32.save.kind = .eeprom512 ∨ s.cpu32.save.kind = .eeprom8k := by
    cases s.cpu32.save.kind <;> decide
  unfold isEepromAddr
  rw [Bool.and_eq_true, Bool.and_eq_true, Bool.or_eq_true, decide_eq_true_eq, decide_eq_true_eq, decide_eq_true_eq, htype,
    and_assoc]

/-- The window lies in region 0xD. -/
theorem window_of_page {a : Word} (h : a.toNat / 0x1000000 = 0xD) :
    4 ≤ a.toNat / 0x2000000 ∧ a.toNat / 0x2000000 ≤ 6 := by
  omega

theorem memWrite_rom (m : Master) (w : Width) {a : Word} (v : Word) (s : State)
    (h : 4 ≤ a.toNat / 0x2000000 ∧ a.toNat / 0x2000000 ≤ 6) : memWrite m w a v s = .next (romWrite m w a v s) := by
  obtain ⟨x, hx⟩ := (exists_region_rom_iff a).mpr h
  unfold memWrite
  rw [hx]

/-- The first halfword write of region 0xD makes an EEPROM, and is then its first bit (R151, R157). -/
theorem memWrite_detects (m : Master) {a : Word} (v : Word) {s : State} (hkind : s.cpu32.save.kind = .unknown)
    (ha : a.toNat / 0x1000000 = 0xD) : memWrite m .half a v s =
      .next (eepromWrite (v.getLsbD 0) (onSave (fun x => { x with kind := detectEeprom m }) s)) := by
  have hwindow : ¬ isEepromAddr a s = true := by
    rw [isEepromAddr_iff, hkind]
    exact fun h => h.1.elim nofun nofun
  rw [memWrite_rom m .half v s (window_of_page ha), romWrite, if_neg hwindow, if_pos ⟨rfl, hkind, ha⟩]

theorem detectEeprom_eq (m : Master) :
    detectEeprom m = if m = .dma 3 9 ∨ m = .dma 3 73 then .eeprom512 else .eeprom8k := by
  cases m with
  | cpu => exact (if_neg fun h => h.elim nofun nofun).symm
  | dma n count =>
    rw [detectEeprom]
    refine if_congr ?_ rfl rfl
    rw [Master.dma.injEq, Master.dma.injEq, and_or_left]

/-- The first bit of a request is only received. -/
theorem eepromWrite_first (b : Bool) {s : State} (h : s.cpu32.save.ein = []) : eepromWrite b s = received [b] s := by
  have hroom : s.cpu32.save.ein.length < 0x80 := by
    rw [h]
    decide
  have happend : onSave (fun x => { x with ein := x.ein ++ [b] }) s = received [b] s := by
    simp only [received, onSave, on32, h, List.nil_append]
  rw [eepromWrite]
  refine (if_pos hroom).trans ?_
  rw [happend]
  cases b <;> rfl

theorem memWrite_first {m : Master} {a v : Word} {s : State} (hkind : s.cpu32.save.kind = .unknown)
    (hein : s.cpu32.save.ein = []) (ha : a.toNat / 0x1000000 = 0xD) :
    memWrite m .half a v s = .next { s with cpu32 := { s.cpu32 with save := { s.cpu32.save with
      kind := if m = .dma 3 9 ∨ m = .dma 3 73 then .eeprom512 else .eeprom8k
      ein := [v.getLsbD 0] } } } := by
  rw [memWrite_detects m v hkind ha, eepromWrite_first (s := onSave (fun x => { x with kind := detectEeprom m }) s) _ hein,
    detectEeprom_eq]
  rfl

theorem memRead_window {w : Width} {a : Word} {s : State} (h : isEepromAddr a s = true) :
    memRead w a s = romRead w a s := by
  obtain ⟨-, hpage, -⟩ := (isEepromAddr_iff a s).mp h
  exact memRead_rom (window_of_page hpage)

/-- A halfword read answers the next output bit, and 1 where none is left (R156). -/
theorem memRead_eeprom {a : Word} {s : State} (h : isEepromAddr a s = true) :
    memRead .half a s = ((eepromRead s).1.setWidth 32, (eepromRead s).2) := by
  rw [memRead_window h, romRead]
  exact if_pos h

theorem memRead_eeprom_bit {a : Word} {s : State} (h : isEepromAddr a s = true) {b : Bool} {rest : List Bool}
    (hout : s.cpu32.save.eout = b :: rest) : memRead .half a s =
      (if b then 1#32 else 0#32, { s with cpu32 := { s.cpu32 with save := { s.cpu32.save with eout := rest } } }) := by
  have hread : eepromRead s = (if b then 1#16 else 0#16, onSave (fun v => { v with eout := rest }) s) := by
    rw [eepromRead, hout]
  rw [memRead_eeprom h, hread]
  cases b <;> rfl

theorem memRead_eeprom_empty {a : Word} {s : State} (h : isEepromAddr a s = true) (hout : s.cpu32.save.eout = []) :
    memRead .half a s = (1#32, s) := by
  have hread : eepromRead s = (1#16, s) := by rw [eepromRead, hout]
  rw [memRead_eeprom h, hread]
  rfl

/-- The other widths draw (R156). -/
theorem memRead_window_drawn {w : Width} {a : Word} {s : State} (h : isEepromAddr a s = true) (hw : w ≠ .half) :
    DrawnRead w s (memRead w a s) := by
  have hdraw : romRead w a s = drawWidth w s := by
    unfold romRead
    rw [if_pos h]
    cases w with
    | half => exact absurd rfl hw
    | byte => rfl
    | word => rfl
  rw [memRead_window h, hdraw]
  exact drawWidth_drawn w s

theorem memWrite_window (m : Master) (w : Width) {a : Word} (v : Word) {s : State} (h : isEepromAddr a s = true) :
    memWrite m w a v s = .next (if w = .half then eepromWrite (v.getLsbD 0) s else s) := by
  obtain ⟨-, hpage, -⟩ := (isEepromAddr_iff a s).mp h
  rw [memWrite_rom m w v s (window_of_page hpage), romWrite, if_pos h]

/-- Any other write of cartridge ROM is ignored (R128). -/
theorem memWrite_rom_ignored (m : Master) (w : Width) {a : Word} (v : Word) {s : State}
    (hrom : 4 ≤ a.toNat / 0x2000000 ∧ a.toNat / 0x2000000 ≤ 6) (h : isEepromAddr a s = false)
    (hfirst : ¬ (w = .half ∧ a.toNat / 0x1000000 = 0xD ∧ s.cpu32.save.kind = .unknown)) :
    memWrite m w a v s = .next s := by
  have hdetects : ¬ (w = .half ∧ s.cpu32.save.kind = .unknown ∧ a.toNat / 0x1000000 = 0xD) :=
    fun ⟨hw, hkind, hpage⟩ => hfirst ⟨hw, hpage, hkind⟩
  rw [memWrite_rom m w v s hrom, romWrite, if_neg (Bool.eq_false_iff.mp h), if_neg hdetects]

/-! Wide accesses of the save region (R151, R158). -/

theorem spread_eq (w : Width) (b : Byte) : spread w b = BitVec.ofNat 32 (b.toNat *
    (match w with | .byte => 1 | .half => 0x0101 | .word => 0x01010101)) := by
  have hb := b.isLt
  apply BitVec.eq_of_toNat_eq
  rw [BitVec.toNat_ofNat]
  cases w with
  | byte =>
    dsimp only [spread]
    rw [BitVec.toNat_setWidth, Nat.mul_one]
  | half =>
    dsimp only [spread]
    rw [BitVec.toNat_setWidth, toNat_append_byte]
    omega
  | word =>
    dsimp only [spread]
    rw [toNat_append_byte, toNat_append_byte, toNat_append_byte]
    omega

theorem memRead_save {w : Width} {a : Word} {s : State} (hr : region a = .save) {b : Byte}
    (h : saveRead a.toNat s = some b) : memRead w a s = (spread w b, s) := by
  rw [memRead, hr]
  dsimp only
  rw [h]

theorem memRead_save_unknown {w : Width} {a : Word} {s : State} (hr : region a = .save)
    (h : s.cpu32.save.kind = .unknown) : DrawnRead w s (memRead w a s) := by
  have hnone : saveRead a.toNat s = none := (saveRead_eq_none _ s).mpr (.inl h)
  have hdraw : memRead w a s = drawWidth w s := by
    rw [memRead, hr]
    dsimp only
    rw [hnone]
  rw [hdraw]
  exact drawWidth_drawn w s

theorem memWrite_sram (m : Master) (w : Width) {a : Word} (v : Word) {s : State} (hr : region a = .save)
    (h : s.cpu32.save.kind = .sram) (hm : Memory.wf s.cpu32.mem = true) : ∃ t, memWrite m w a v s = .next t ∧
      saveRead a.toNat t = some (v.setWidth 8) ∧
      ∀ k, k ≠ 0x0E000000 + a.toNat % 0x8000 → Memory.read t.cpu32.mem k = Memory.read s.cpu32.mem k := by
  obtain ⟨t, ht, -, hread, hkept⟩ :=
    sram_stores (a := a.toNat) (b := v.setWidth 8) (byteWrite := w == .byte) hm (.inl h)
  refine ⟨t, ?_, hread _ rfl, hkept⟩
  rw [memWrite, hr, ← ht]

/-! A run of DMA detects the EEPROM at its first unit (R151, R157). -/

/-- A save type, once known, stays. -/
def TypeKept (s t : State) : Prop := s.cpu32.save.kind ≠ .unknown → t.cpu32.save.kind = s.cpu32.save.kind

theorem TypeKept.of_save {s t : State} (h : t.cpu32.save = s.cpu32.save) : TypeKept s t := fun _ => by rw [h]

theorem TypeKept.trans {s t u : State} (h : TypeKept s t) (h' : TypeKept t u) : TypeKept s u := by
  intro hs
  have ht := h hs
  exact (h' (ht.symm ▸ hs)).trans ht

theorem thenRes_typeKept {s : State} {r : Res} {k : State → Res} (h : Answers TypeKept s r)
    (hk : ∀ t, Answers TypeKept t (k t)) : Answers TypeKept s (thenRes r k) :=
  .seq (R := TypeKept) (fun _ _ _ => .trans) h hk

theorem TypeKept.andThen {s u : State} {r : Res} (h : TypeKept s u) (hr : Answers TypeKept u r) :
    Answers TypeKept s r := .of_rel (R := TypeKept) (fun _ _ _ => .trans) h hr

theorem writeDmaControl_typeKept (n : Fin 4) (v : Half) (s : State) : Answers TypeKept s (writeDmaControl n v s) := by
  unfold writeDmaControl
  dsimp only
  split
  · exact .next (.of_save rfl)
  split
  · exact .next (.of_save rfl)
  split
  · exact .refused
  · exact .next (.of_save rfl)

theorem writePostHalt_typeKept (v mask : Half) (s : State) : Answers TypeKept s (writePostHalt v mask s) := by
  have hpost : (if mask.getLsbD 0 then on32 (fun c => { c with postflg := v.getLsbD 0 }) s else s).cpu32.save =
      s.cpu32.save := by
    split <;> rfl
  unfold writePostHalt
  dsimp only
  split
  · split
    · exact .refused
    · exact .next (.of_save hpost)
  · exact .next (.of_save hpost)

theorem ioWrite16_typeKept (r : Io32) (o : Nat) (v mask : Half) (s : State) :
    Answers TypeKept s (ioWrite16 r o v mask s) := by
  cases r with
  | dmaControl n => exact writeDmaControl_typeKept n v s
  | postHalt => exact writePostHalt_typeKept v mask s
  | timerControl n =>
    refine .next (.of_save ?_)
    rw [on32_cpu32, Cpu32.writeTimerControl]
    dsimp only
    split <;> rfl
  | _ => exact .next (.of_save rfl)

theorem ioWrite_typeKept (w : Width) (a v : Word) (s : State) : Answers TypeKept s (ioWrite w a v s) := by
  cases w with
  | byte =>
    have hstored : (stored16 (io32 (ioOffset a)) s).2.cpu32.save = s.cpu32.save := by rw [stored16_cpu32]
    exact TypeKept.andThen (.of_save hstored) (ioWrite16_typeKept _ _ _ _ _)
  | half => exact ioWrite16_typeKept _ _ _ _ s
  | word => exact thenRes_typeKept (ioWrite16_typeKept _ _ _ _ s) fun t => ioWrite16_typeKept _ _ _ _ t

theorem romWrite_typeKept (m : Master) (w : Width) (a v : Word) (s : State) : TypeKept s (romWrite m w a v s) := by
  intro hknown
  unfold romWrite
  split
  · split
    · exact (inSave_eepromWrite _ s).1
    · rfl
  · rw [if_neg fun h => hknown h.2.1]

theorem memWrite_typeKept (m : Master) (w : Width) (a v : Word) (s : State) :
    Answers TypeKept s (memWrite m w a v s) := by
  unfold memWrite
  split
  case h_4 => exact ioWrite_typeKept w a v s
  case h_8 => exact .next (romWrite_typeKept m w a v s)
  case h_9 => exact .next fun hknown => (inSave_saveWrite hknown).1
  case h_5 | h_7 => exact .next (.of_save (by split <;> rfl))
  case h_6 =>
    refine .next (.of_save ?_)
    split
    · split <;> rfl
    · rfl
  all_goals exact .next (.of_save rfl)

/-- The read of a DMA unit, and its last access. -/
theorem dmaRead_save (w : Width) (src dst : Word) (s : State) :
    (recordAccess dst w false (memRead w src (recordAccess src w false s)).2).cpu32.save.kind = s.cpu32.save.kind := by
  obtain ⟨d, e, h⟩ := memRead_readsTo w src (recordAccess src w false s)
  rw [h]
  rfl

theorem dmaUnit_typeKept (n : Fin 4) (w : Width) (count : Nat) (s : State) :
    Answers TypeKept s (dmaUnit n w count s) := by
  unfold dmaUnit
  dsimp only
  split
  · exact .refused
  · exact thenRes_typeKept (TypeKept.andThen (fun _ => dmaRead_save w _ _ s) (memWrite_typeKept _ _ _ _ _)) fun t =>
      .next (.of_save rfl)

theorem dmaTransfer_typeKept (n : Fin 4) (w : Width) (count k : Nat) (s : State) :
    Answers TypeKept s (dmaTransfer n w count k s) := by
  induction k generalizing s with
  | zero => exact .next (.of_save rfl)
  | succ k ih => exact thenRes_typeKept (dmaUnit_typeKept n w count s) ih

/-- A halfword unit to region 0xD makes an EEPROM. -/
theorem dmaUnit_detects {n : Fin 4} {count : Nat} {s t : State} (hkind : s.cpu32.save.kind = .unknown)
    (hdst : s.cpu32.dma[n].idst.toNat / 0x1000000 = 0xD) (h : dmaUnit n .half count s = .next t) :
    t.cpu32.save.kind = detectEeprom (.dma n count) := by
  have hpage : (alignTo .half s.cpu32.dma[n].idst).toNat / 0x1000000 = 0xD := by
    rw [alignTo_toNat, Width.bytes]
    omega
  unfold dmaUnit at h
  dsimp only at h
  split at h
  · cases h
  · rw [memWrite_detects _ _ ((dmaRead_save _ _ _ s).trans hkind) hpage] at h
    cases h
    exact (inSave_eepromWrite _ _).1

/-- The end of a run leaves the save machine alone. -/
theorem dmaRun_save {n : Fin 4} {s u : State} (h : dmaRun n s = .next u) :
    ∃ t, dmaTransfer n s.cpu32.dma[n].width s.cpu32.dma[n].icount s.cpu32.dma[n].icount s = .next t ∧
      u.cpu32.save = t.cpu32.save := by
  obtain ⟨t, ht, hu⟩ := thenRes_eq_next.mp h
  refine ⟨t, ht, ?_⟩
  cases hu
  have htimers := fun k c => congrArg Cpu32.save (advance_timersOnly k c)
  rw [passCycles, on32_cpu32, htimers]
  split <;> rfl

/-- The type a DMA run tells (R157). -/
theorem dmaRun_detects {n : Fin 4} {s u : State} (hkind : s.cpu32.save.kind = .unknown)
    (hwidth : s.cpu32.dma[n].control.getLsbD 10 = false) (hcount : s.cpu32.dma[n].icount ≠ 0)
    (hdst : s.cpu32.dma[n].idst.toNat / 0x1000000 = 0xD) (h : dmaRun n s = .next u) : u.cpu32.save.kind =
      (if n = 3 ∧ (s.cpu32.dma[n].icount = 9 ∨ s.cpu32.dma[n].icount = 73) then .eeprom512 else .eeprom8k) := by
  obtain ⟨t, ht, hsave⟩ := dmaRun_save h
  obtain ⟨k, hk⟩ := Nat.exists_eq_succ_of_ne_zero hcount
  have hhalf : s.cpu32.dma[n].width = .half := if_neg (Bool.eq_false_iff.mp hwidth)
  rw [hhalf] at ht
  have hunits : ∀ count N, N = k + 1 → dmaTransfer n .half count N s = .next t →
      thenRes (dmaUnit n .half count s) (dmaTransfer n .half count k) = .next t := by
    rintro count _ rfl hN
    exact hN
  obtain ⟨t1, hunit, hrest⟩ := thenRes_eq_next.mp (hunits _ _ hk ht)
  have hfirst := dmaUnit_detects hkind hdst hunit
  have hknown : t1.cpu32.save.kind ≠ .unknown := by
    rw [hfirst, detectEeprom_eq]
    split <;> exact nofun
  rw [hsave, dmaTransfer_typeKept _ _ _ _ t1 t hrest hknown, hfirst]
  rfl

/-- Settles O52: each save memory by its own rules, and the bus's windows on them. -/
theorem saveMemories : Obligations.SaveMemories := by
  refine ⟨?_, ?_, ?_, ?_, fun m a v s => memWrite_first, isEepromAddr_iff, ?_, fun n s u => dmaRun_detects, ?_⟩
  · intro a b byteWrite s hm h
    obtain ⟨t, ht, hkind, hread, hkept⟩ := sram_stores hm h
    exact ⟨t, ht, hkind, hread _ (by omega), hkept⟩
  · exact fun s => saveWrite_firstUnlock
  · intro o b bank s hm ho hflash hcmd hstage
    have hidle : FlashIdle s := ⟨hflash, hcmd, hstage⟩
    exact ⟨flash_identify hidle, flash_program hidle b hm ho, flash_eraseSector hidle hm ho, flash_eraseChip hidle hm,
      _, rfl, flash_bank hidle bank⟩
  · intro kind addrBits blocks block data s hmem hm hkind hein hblock
    have hsizes : addrBits = eepromAddrBits kind ∧ blocks = eepromBlocks kind := by
      simp only [List.mem_cons, Prod.mk.injEq, List.not_mem_nil, or_false] at hmem
      obtain ⟨rfl, rfl, rfl⟩ | ⟨rfl, rfl, rfl⟩ := hmem
      · exact ⟨rfl, rfl⟩
      · exact ⟨rfl, rfl⟩
    obtain ⟨rfl, rfl⟩ := hsizes
    subst hkind
    exact ⟨eeprom_read hein hblock, eeprom_write data hm hein hblock⟩
  · intro w a v m s
    refine ⟨fun h => ⟨fun b rest => memRead_eeprom_bit h, memRead_eeprom_empty h, memWrite_window m .half v h,
      fun hw => ⟨memRead_window_drawn h hw, ?_⟩⟩, fun hlo hhi => memWrite_rom_ignored m w v ⟨hlo, hhi⟩⟩
    rw [memWrite_window m w v h, if_neg hw]
  · intro w a v m s hr
    exact ⟨fun b hb => (memRead_save hr hb).trans (congrArg (·, s) (spread_eq w b)), memRead_save_unknown hr,
      memWrite_sram m w v hr⟩

end Sys2Proof.Proofs
end

section
/-! PROOFS. Decode and encode agree on CPU-8 (R200 to R205). -/

namespace Sys2Proof.Proofs

open Sys2Proof.Machine

/-! The bytes of an opcode and its immediate operand (R203). -/

theorem toLeBytes_operand (n x : Nat) {op : Nat} (h : op < 256) :
    toLeBytes (n + 1) (x * 256 + op) = BitVec.ofNat 8 op :: toLeBytes n x := by
  have hlow : BitVec.ofNat 8 (x * 256 + op) = BitVec.ofNat 8 op := by
    apply BitVec.eq_of_toNat_eq
    rw [BitVec.toNat_ofNat, BitVec.toNat_ofNat]
    omega
  have hrest : (x * 256 + op) / 256 = x := by omega
  rw [toLeBytes, hlow, hrest]

theorem toLeBytes_byte (n : Byte) : toLeBytes 1 n.toNat = [n] := by
  rw [toLeBytes, toLeBytes, BitVec.ofNat_toNat, BitVec.setWidth_eq]

theorem toLeBytes_half (nn : Half) : toLeBytes 2 nn.toNat = [loByte nn, hiByte nn] := by
  have hlt := nn.isLt
  have hlo : BitVec.ofNat 8 nn.toNat = loByte nn := by
    apply BitVec.eq_of_toNat_eq
    rw [BitVec.toNat_ofNat, loByte_toNat]
  have hhi : BitVec.ofNat 8 (nn.toNat / 256) = hiByte nn := by
    apply BitVec.eq_of_toNat_eq
    rw [BitVec.toNat_ofNat, hiByte_toNat]
    omega
  rw [toLeBytes, toLeBytes, toLeBytes, hlo, hhi]

/-! An instruction with an immediate operand is read back by its opcode's entry of the primary map (R204). -/

theorem decode8_byteOperand {i : Instr} {n : Byte} {op : Nat} (rest : List Byte)
    (hword : i.word = (2, n.toNat * 256 + op)) (hop : op < 256) (hlen : length8 (BitVec.ofNat 8 op).toNat = 2)
    (hcb : BitVec.ofNat 8 op ≠ 0xCB#8) (hi : decodePrimary (BitVec.ofNat 8 op).toNat n 0 = i) :
    decode8 (encode i ++ rest) = .ok (i, rest) := by
  rw [encode, hword, toLeBytes_operand 1 n.toNat hop, toLeBytes_byte]
  simp only [List.cons_append, List.nil_append, decode8, hlen, if_neg hcb, hi]

theorem decode8_halfOperand {i : Instr} {nn : Half} {op : Nat} (rest : List Byte)
    (hword : i.word = (3, nn.toNat * 256 + op)) (hop : op < 256) (hlen : length8 (BitVec.ofNat 8 op).toNat = 3)
    (hi : decodePrimary (BitVec.ofNat 8 op).toNat (loByte nn) nn = i) :
    decode8 (encode i ++ rest) = .ok (i, rest) := by
  have hjoin : hiByte nn ++ loByte nn = nn := pair_hiByte_loByte nn
  rw [encode, hword, toLeBytes_operand 2 nn.toNat hop, toLeBytes_half]
  simp only [List.cons_append, List.nil_append, decode8, hlen, hjoin, hi]

/-- Settles O19, by the instruction's operand: a byte, a halfword, or none, where its bytes are literals and the decoder
runs on them. -/
theorem cpu8RoundTrip : Obligations.Cpu8RoundTrip := by
  intro i rest hisa hwf
  rw [decode]
  cases i <;> cases hisa
  case cbPrefix => cases hwf
  case ld_b_n | ld_c_n | ld_d_n | ld_e_n | ld_h_n | ld_l_n | ld_hlm_n | ld_a_n | stop | jr_e | jr_nz_e | jr_z_e |
      jr_nc_e | jr_c_e | add_a_n | adc_a_n | sub_n | sbc_a_n | and_n | xor_n | or_n | cp_n | ldh_nm_a | ldh_a_nm |
      add_sp_e | ld_hl_sp_e =>
    exact decode8_byteOperand rest rfl (by decide) rfl (by decide) rfl
  case ld_bc_nn | ld_de_nn | ld_hl_nn | ld_sp_nn | ld_nnm_sp | jp_nn | jp_nz_nn | jp_z_nn | jp_nc_nn | jp_c_nn |
      call_nn | call_nz_nn | call_z_nn | call_nc_nn | call_c_nn | ld_nnm_a | ld_a_nnm =>
    exact decode8_halfOperand rest rfl (by decide) rfl rfl
  all_goals rfl

end Sys2Proof.Proofs
end

section
/-! PROOFS. The fields of an instruction word: which word `pack` makes of them (R9, R211, R220). -/

namespace Sys2Proof.Proofs

open Sys2Proof.Machine

/-- How many bits the fields have together. -/
@[simp] def fieldsWidth : List (Nat × Nat) → Nat
  | [] => 0
  | (n, _) :: rest => fieldsWidth rest + n

/-- The value `v` of a field fits in its `n` bits. -/
@[reducible] def Fits (n v : Nat) : Prop := 0 < n ∧ v < 2 ^ n

/-- Every field's value fits. -/
@[reducible] def FieldsFit : List (Nat × Nat) → Prop
  | [] => True
  | (n, v) :: rest => Fits n v ∧ FieldsFit rest

/-- The low bits of the word are the fields, most significant first. -/
@[simp] def HasFields (w : Nat) : List (Nat × Nat) → Prop
  | [] => True
  | (n, v) :: rest => bits w (fieldsWidth rest + n - 1) (fieldsWidth rest) = v ∧ HasFields w rest

/-- Packing fields onto `acc` makes the word that has `acc` above the fields. -/
theorem pack_acc_eq_iff {fs : List (Nat × Nat)} (h : FieldsFit fs) {acc w : Nat} :
    pack fs acc = w ↔ w / 2 ^ fieldsWidth fs = acc ∧ HasFields w fs := by
  induction fs generalizing acc with
  | nil =>
    rw [pack, fieldsWidth, HasFields, Nat.pow_zero, Nat.div_one, and_true]
    exact eq_comm
  | cons f rest ih =>
    obtain ⟨n, v⟩ := f
    obtain ⟨⟨hn, hv⟩, hrest⟩ := h
    have hwidth : fieldsWidth rest + n - 1 + 1 - fieldsWidth rest = n := by omega
    have hsplit : w / 2 ^ fieldsWidth rest = acc * 2 ^ n + v ↔
        w / 2 ^ fieldsWidth rest / 2 ^ n = acc ∧ w / 2 ^ fieldsWidth rest % 2 ^ n = v := by
      rw [Nat.div_mod_unique (Nat.two_pow_pos n), Nat.add_comm, Nat.mul_comm]
      exact ⟨fun heq => ⟨heq.symm, hv⟩, fun heq => heq.1.symm⟩
    rw [pack, ih hrest, hsplit, fieldsWidth, HasFields, bits, hwidth, Nat.pow_add, Nat.div_div_eq_div_mul, and_assoc]

theorem pack_eq_iff {fs : List (Nat × Nat)} (h : FieldsFit fs) {w : Nat} :
    pack fs 0 = w ↔ w < 2 ^ fieldsWidth fs ∧ HasFields w fs := by
  rw [pack_acc_eq_iff h, Nat.div_eq_zero_iff_lt (Nat.two_pow_pos _)]

/-! Every operand fits in its field. -/

theorem fits_toNat {n : Nat} (x : BitVec (n + 1)) : Fits (n + 1) x.toNat := ⟨Nat.succ_pos n, x.isLt⟩

theorem fits_bit (b : Bool) : Fits 1 (bit b) := by cases b <;> decide

theorem fits_condCode (c : Cond) : Fits 4 c.code := by cases c <;> decide

theorem fits_dpCode (op : DpOp) : Fits 4 op.code := by cases op <;> decide

theorem fits_shiftCode (t : Shift) : Fits 2 t.code := by cases t <;> decide

/-! A field holds an operand just when the decoder reads that operand from it. -/

theorem bits_lt (w hi lo : Nat) : bits w hi lo < 2 ^ (hi + 1 - lo) := Nat.mod_lt _ (Nat.two_pow_pos _)

@[simp] theorem bits_eq_toNat {n hi lo : Nat} (hn : hi + 1 - lo = n) (w : Nat) (x : BitVec n) :
    bits w hi lo = x.toNat ↔ fld n w lo = x := by
  subst hn
  exact BitVec.toNat_inj (x := fld (hi + 1 - lo) w lo)

theorem flag_eq_true_iff (w k : Nat) : flag w k = true ↔ bits w k k = 1 := decide_eq_true_iff

theorem flag_eq_false_iff (w k : Nat) : flag w k = false ↔ bits w k k = 0 := by
  have hlt : bits w k k < 2 ^ (k + 1 - k) := bits_lt w k k
  rw [Nat.add_sub_cancel_left] at hlt
  rw [flag, decide_eq_false_iff_not]
  omega

@[simp] theorem bits_eq_bit (w k : Nat) (b : Bool) : bits w k k = bit b ↔ flag w k = b := by
  cases b with
  | true => exact (flag_eq_true_iff w k).symm
  | false => exact (flag_eq_false_iff w k).symm

theorem eq_condCode_iff {k : Nat} (hk : k < 16) (c : Cond) : k = c.code ↔ k ≠ 15 ∧ Cond.ofCode k = c := by
  interval_cases k <;> cases c <;> decide

theorem eq_dpCode_iff {k : Nat} (hk : k < 16) (op : DpOp) : k = op.code ↔ DpOp.ofCode k = op := by
  interval_cases k <;> cases op <;> decide

theorem eq_shiftCode_iff {k : Nat} (hk : k < 4) (t : Shift) : k = t.code ↔ Shift.ofCode k = t := by
  interval_cases k <;> cases t <;> decide

@[simp] theorem bits_eq_condCode (w : Nat) (c : Cond) :
    bits w 31 28 = c.code ↔ isReserved w = false ∧ Cond.ofCode (bits w 31 28) = c := by
  rw [eq_condCode_iff (bits_lt w 31 28), isReserved, decide_eq_false_iff_not]

@[simp] theorem bits_eq_dpCode (w : Nat) (op : DpOp) :
    bits w 24 21 = op.code ↔ DpOp.ofCode (bits w 24 21) = op := eq_dpCode_iff (bits_lt w 24 21) op

@[simp] theorem bits_eq_shiftCode (w : Nat) (t : Shift) :
    bits w 6 5 = t.code ↔ Shift.ofCode (bits w 6 5) = t := eq_shiftCode_iff (bits_lt w 6 5) t

/-! The bytes of a word (R102). -/

theorem ofLeBytes_toLeBytes (n w : Nat) : ofLeBytes (toLeBytes n w) = w % 256 ^ n := by
  induction n generalizing w with
  | zero => exact (Nat.mod_one w).symm
  | succ n ih =>
    rw [toLeBytes, ofLeBytes, ih, BitVec.toNat_ofNat, Nat.pow_succ' (n := n) (m := 256)]
    exact Nat.mod_mul.symm

end Sys2Proof.Proofs
end

section
/-! PROOFS. The ARM formats (R211): an instruction's word, by the row of R212 it lies in and the fields read from it. -/

namespace Sys2Proof.Proofs

open Sys2Proof.Machine

variable {w : Nat}

theorem word_bx_eq_iff {o : BranchExchange} : (Instr.armBx o).word.2 = w ↔ w < 2 ^ 32 ∧ isReserved w = false ∧
    isBx w = true ∧ { cond := Cond.ofCode (bits w 31 28), rm := fld 4 w 0 } = o := by
  obtain ⟨c, rm⟩ := o
  refine (pack_eq_iff ?_).trans ?_
  · exact ⟨fits_condCode c, by decide, fits_toNat rm, trivial⟩
  · simp [isBx, and_assoc, and_comm, and_left_comm]

theorem encodeMul_eq_iff {acc : Bool} {o : MulOps} : encodeMul acc o = w ↔
    w < 2 ^ 32 ∧ isReserved w = false ∧ isMul w = true ∧ flag w 21 = acc ∧ mulFields w = o := by
  obtain ⟨c, s, rd, rn, rs, rm⟩ := o
  refine (pack_eq_iff ?_).trans ?_
  · exact ⟨fits_condCode c, by decide, fits_bit acc, fits_bit s, fits_toNat rd, fits_toNat rn, fits_toNat rs, by decide,
      fits_toNat rm, trivial⟩
  · simp [isMul, mulFields, and_assoc, and_comm, and_left_comm]

theorem encodeLongMul_eq_iff {signed acc : Bool} {o : LongMulOps} : encodeLongMul signed acc o = w ↔ w < 2 ^ 32 ∧
    isReserved w = false ∧ isLongMul w = true ∧ flag w 22 = signed ∧ flag w 21 = acc ∧ longMulFields w = o := by
  obtain ⟨c, s, rdHi, rdLo, rs, rm⟩ := o
  refine (pack_eq_iff ?_).trans ?_
  · exact ⟨fits_condCode c, by decide, fits_bit signed, fits_bit acc, fits_bit s, fits_toNat rdHi, fits_toNat rdLo,
      fits_toNat rs, by decide, fits_toNat rm, trivial⟩
  · simp [isLongMul, longMulFields, and_assoc, and_comm, and_left_comm]

theorem encodeSwap_eq_iff {byte : Bool} {o : SwapOps} : encodeSwap byte o = w ↔
    w < 2 ^ 32 ∧ isReserved w = false ∧ isSwap w = true ∧ flag w 22 = byte ∧ swapFields w = o := by
  obtain ⟨c, rn, rd, rm⟩ := o
  refine (pack_eq_iff ?_).trans ?_
  · exact ⟨fits_condCode c, by decide, fits_bit byte, by decide, fits_toNat rn, fits_toNat rd, by decide, fits_toNat rm,
      trivial⟩
  · simp [isSwap, swapFields, and_assoc, and_comm, and_left_comm]

theorem encodeHalfReg_eq_iff {load : Bool} {sh : Nat} {o : HalfReg} (hsh : sh = 1 ∨ sh = 2 ∨ sh = 3) :
    encodeHalfReg load sh o = w ↔ w < 2 ^ 32 ∧ isReserved w = false ∧ isHalfReg w = true ∧ flag w 20 = load ∧
      bits w 6 5 = sh ∧ halfRegFields w = o := by
  obtain ⟨⟨c, pre, up, wb, rn, rd⟩, rm⟩ := o
  refine (pack_eq_iff ?_).trans ?_
  · exact ⟨fits_condCode c, by decide, fits_bit pre, fits_bit up, by decide, fits_bit wb, fits_bit load, fits_toNat rn,
      fits_toNat rd, by decide, by omega, by decide, fits_toNat rm, trivial⟩
  · have hne : bits w 6 5 = sh → bits w 6 5 ≠ 0 := by omega
    simp [isHalfReg, halfRegFields, indexFields]
    tauto

theorem encodeHalfImm_eq_iff {load : Bool} {sh : Nat} {o : HalfImm} (hsh : sh = 1 ∨ sh = 2 ∨ sh = 3) :
    encodeHalfImm load sh o = w ↔ w < 2 ^ 32 ∧ isReserved w = false ∧ isHalfImm w = true ∧ flag w 20 = load ∧
      bits w 6 5 = sh ∧ halfImmFields w = o := by
  obtain ⟨⟨c, pre, up, wb, rn, rd⟩, hi, lo⟩ := o
  refine (pack_eq_iff ?_).trans ?_
  · exact ⟨fits_condCode c, by decide, fits_bit pre, fits_bit up, by decide, fits_bit wb, fits_bit load, fits_toNat rn,
      fits_toNat rd, fits_toNat hi, by decide, by omega, by decide, fits_toNat lo, trivial⟩
  · have hne : bits w 6 5 = sh → bits w 6 5 ≠ 0 := by omega
    simp [isHalfImm, halfImmFields, indexFields]
    tauto

theorem word_mrs_eq_iff {o : MrsOps} : (Instr.armMrs o).word.2 = w ↔ w < 2 ^ 32 ∧ isReserved w = false ∧
    isMrs w = true ∧ { cond := Cond.ofCode (bits w 31 28), spsr := flag w 22, rd := fld 4 w 12
                       sbz := fld 12 w 0 } = o := by
  obtain ⟨c, spsr, rd, sbz⟩ := o
  refine (pack_eq_iff ?_).trans ?_
  · exact ⟨fits_condCode c, by decide, fits_bit spsr, by decide, fits_toNat rd, fits_toNat sbz, trivial⟩
  · simp [isMrs, and_assoc, and_comm, and_left_comm]

theorem word_msrReg_eq_iff {o : MsrRegOps} : (Instr.armMsrReg o).word.2 = w ↔ w < 2 ^ 32 ∧ isReserved w = false ∧
    isMsrReg w = true ∧ { cond := Cond.ofCode (bits w 31 28), spsr := flag w 22, fields := fld 4 w 16, sbz := fld 8 w 4
                          rm := fld 4 w 0 } = o := by
  obtain ⟨c, spsr, fields, sbz, rm⟩ := o
  refine (pack_eq_iff ?_).trans ?_
  · exact ⟨fits_condCode c, by decide, fits_bit spsr, by decide, fits_toNat fields, by decide, fits_toNat sbz,
      fits_toNat rm, trivial⟩
  · simp [isMsrReg, and_assoc, and_comm, and_left_comm]

theorem word_msrImm_eq_iff {o : MsrImmOps} : (Instr.armMsrImm o).word.2 = w ↔ w < 2 ^ 32 ∧ isReserved w = false ∧
    isMsrImm w = true ∧ { cond := Cond.ofCode (bits w 31 28), spsr := flag w 22, fields := fld 4 w 16
                          op2 := immFields w } = o := by
  obtain ⟨c, spsr, fields, rot, imm⟩ := o
  refine (pack_eq_iff ?_).trans ?_
  · exact ⟨fits_condCode c, by decide, fits_bit spsr, by decide, fits_toNat fields, by decide, fits_toNat rot,
      fits_toNat imm, trivial⟩
  · simp [isMsrImm, immFields, Op2Imm.packed, and_assoc, and_comm, and_left_comm]

/-! Data processing, by the form of operand 2 (R213). -/

theorem encodeDp_imm_eq_iff {op : DpOp} {d : Dp} {x : Op2Imm} : encodeDp op true d x.packed = w ↔ w < 2 ^ 32 ∧
    isReserved w = false ∧ isDataProc w = true ∧ flag w 25 = true ∧ DpOp.ofCode (bits w 24 21) = op ∧ dpFields w = d ∧
      immFields w = x := by
  obtain ⟨c, s, rn, rd⟩ := d
  obtain ⟨rot, imm⟩ := x
  refine (pack_eq_iff ?_).trans ?_
  · exact ⟨fits_condCode c, by decide, fits_bit true, fits_dpCode op, fits_bit s, fits_toNat rn, fits_toNat rd,
      fits_toNat rot, fits_toNat imm, trivial⟩
  · simp [isDataProc, dpFields, immFields, Op2Imm.packed]
    tauto

theorem encodeDp_shift_eq_iff {op : DpOp} {d : Dp} {x : Op2Shift} : encodeDp op false d x.packed = w ↔ w < 2 ^ 32 ∧
    isReserved w = false ∧ isDataProc w = true ∧ flag w 25 = false ∧ flag w 4 = false ∧
      DpOp.ofCode (bits w 24 21) = op ∧ dpFields w = d ∧ shiftFields w = x := by
  obtain ⟨c, s, rn, rd⟩ := d
  obtain ⟨amount, kind, rm⟩ := x
  refine (pack_eq_iff ?_).trans ?_
  · exact ⟨fits_condCode c, by decide, fits_bit false, fits_dpCode op, fits_bit s, fits_toNat rn, fits_toNat rd,
      fits_toNat amount, fits_shiftCode kind, by decide, fits_toNat rm, trivial⟩
  · simp [isDataProc, dpFields, shiftFields, Op2Shift.packed, flag_eq_false_iff w 4]
    tauto

theorem encodeDp_regShift_eq_iff {op : DpOp} {d : Dp} {x : Op2RegShift} : encodeDp op false d x.packed = w ↔
    w < 2 ^ 32 ∧ isReserved w = false ∧ isDataProc w = true ∧ flag w 25 = false ∧ flag w 4 = true ∧ flag w 7 = false ∧
      DpOp.ofCode (bits w 24 21) = op ∧ dpFields w = d ∧ regShiftFields w = x := by
  obtain ⟨c, s, rn, rd⟩ := d
  obtain ⟨rs, kind, rm⟩ := x
  refine (pack_eq_iff ?_).trans ?_
  · exact ⟨fits_condCode c, by decide, fits_bit false, fits_dpCode op, fits_bit s, fits_toNat rn, fits_toNat rd,
      fits_toNat rs, by decide, fits_shiftCode kind, by decide, fits_toNat rm, trivial⟩
  · simp [isDataProc, dpFields, regShiftFields, Op2RegShift.packed, flag_eq_true_iff w 4, flag_eq_false_iff w 7]
    tauto

/-! Transfers and branches. -/

theorem encodeSingle_imm_eq_iff {byte load : Bool} {o : XferImm} :
    encodeSingle false byte load o.ix [(12, o.offset.toNat)] = w ↔ w < 2 ^ 32 ∧ isReserved w = false ∧
      bits w 27 26 = 1 ∧ flag w 25 = false ∧ flag w 22 = byte ∧ flag w 20 = load ∧ xferImmFields w = o := by
  obtain ⟨⟨c, pre, up, wb, rn, rd⟩, offset⟩ := o
  refine (pack_eq_iff ?_).trans ?_
  · exact ⟨fits_condCode c, by decide, fits_bit false, fits_bit pre, fits_bit up, fits_bit byte, fits_bit wb,
      fits_bit load, fits_toNat rn, fits_toNat rd, fits_toNat offset, trivial⟩
  · simp [xferImmFields, indexFields]
    tauto

theorem encodeSingle_reg_eq_iff {byte load : Bool} {o : XferReg} :
    encodeSingle true byte load o.ix o.op2.packed = w ↔ w < 2 ^ 32 ∧ isReserved w = false ∧
      bits w 27 26 = 1 ∧ flag w 25 = true ∧ flag w 4 = false ∧ flag w 22 = byte ∧ flag w 20 = load ∧
        xferRegFields w = o := by
  obtain ⟨⟨c, pre, up, wb, rn, rd⟩, amount, kind, rm⟩ := o
  refine (pack_eq_iff ?_).trans ?_
  · exact ⟨fits_condCode c, by decide, fits_bit true, fits_bit pre, fits_bit up, fits_bit byte, fits_bit wb,
      fits_bit load, fits_toNat rn, fits_toNat rd, fits_toNat amount, fits_shiftCode kind, by decide, fits_toNat rm,
      trivial⟩
  · simp [xferRegFields, indexFields, shiftFields, Op2Shift.packed, flag_eq_false_iff w 4]
    tauto

theorem encodeBlock_eq_iff {load : Bool} {o : BlockOps} : encodeBlock load o = w ↔
    w < 2 ^ 32 ∧ isReserved w = false ∧ bits w 27 25 = 4 ∧ flag w 20 = load ∧ blockFields w = o := by
  obtain ⟨c, pre, up, s, wb, rn, list⟩ := o
  refine (pack_eq_iff ?_).trans ?_
  · exact ⟨fits_condCode c, by decide, fits_bit pre, fits_bit up, fits_bit s, fits_bit wb, fits_bit load, fits_toNat rn,
      fits_toNat list, trivial⟩
  · simp [blockFields]
    tauto

theorem encodeBranch_eq_iff {link : Bool} {o : BranchOps} : encodeBranch link o = w ↔
    w < 2 ^ 32 ∧ isReserved w = false ∧ bits w 27 25 = 5 ∧ flag w 24 = link ∧ branchFields w = o := by
  obtain ⟨c, offset⟩ := o
  refine (pack_eq_iff ?_).trans ?_
  · exact ⟨fits_condCode c, by decide, fits_bit link, fits_toNat offset, trivial⟩
  · simp [branchFields, and_assoc, and_comm, and_left_comm]

theorem word_swi_eq_iff {o : SwiOps} : (Instr.armSwi o).word.2 = w ↔ w < 2 ^ 32 ∧ isReserved w = false ∧
    bits w 27 24 = 15 ∧ { cond := Cond.ofCode (bits w 31 28), comment := fld 24 w 0 } = o := by
  obtain ⟨c, comment⟩ := o
  refine (pack_eq_iff ?_).trans ?_
  · exact ⟨fits_condCode c, by decide, fits_toNat comment, trivial⟩
  · simp [and_assoc, and_comm, and_left_comm]

end Sys2Proof.Proofs
end

section
/-! PROOFS. The ARM decode order (R212): what each row decodes to. -/

namespace Sys2Proof.Proofs

open Sys2Proof.Machine

variable {w : Nat}

/-! The rows overlap in three spaces only: multiplies and halfword transfers (bits 7 and 4 set), compares without S, and
data processing. -/

theorem mulSpace_rows_false (h : isMulSpace w = false) : isMul w = false ∧ isLongMul w = false ∧ isSwap w = false ∧
    isHalfReg w = false ∧ isHalfImm w = false := by
  simp only [isMulSpace, isMul, isLongMul, isSwap, isHalfReg, isHalfImm, decide_eq_false_iff_not] at h ⊢
  simp only [bits] at h ⊢
  omega

theorem compareNoS_rows_false (h : isCompareNoS w = false) : isBx w = false ∧ isSwap w = false ∧ isMrs w = false ∧
    isMsrReg w = false ∧ isMsrImm w = false := by
  simp only [isCompareNoS, isBx, isSwap, isMrs, isMsrReg, isMsrImm, decide_eq_false_iff_not] at h ⊢
  simp only [bits] at h ⊢
  omega

theorem dataProc_rows_false (h : isDataProc w = false) : isBx w = false ∧ isMul w = false ∧ isLongMul w = false ∧
    isSwap w = false ∧ isHalfReg w = false ∧ isHalfImm w = false ∧ isMulSpace w = false ∧ isMrs w = false ∧
    isMsrReg w = false ∧ isMsrImm w = false ∧ isCompareNoS w = false := by
  have hspaces : isMulSpace w = false ∧ isCompareNoS w = false := by
    simp only [isDataProc, isMulSpace, isCompareNoS, decide_eq_false_iff_not] at h ⊢
    simp only [bits] at h ⊢
    omega
  simp [hspaces, mulSpace_rows_false hspaces.1, compareNoS_rows_false hspaces.2]

/-! The rows that an instruction of one of these spaces is past. -/

theorem mul_excludes (h : isMul w = true) : isBx w = false := by
  simp only [isMul, isBx, decide_eq_true_eq, decide_eq_false_iff_not] at h ⊢
  simp only [bits] at h ⊢
  omega

theorem longMul_excludes (h : isLongMul w = true) : isBx w = false ∧ isMul w = false := by
  simp only [isLongMul, isBx, isMul, decide_eq_true_eq, decide_eq_false_iff_not] at h ⊢
  simp only [bits] at h ⊢
  omega

theorem swap_excludes (h : isSwap w = true) : isBx w = false ∧ isMul w = false ∧ isLongMul w = false := by
  simp only [isSwap, isBx, isMul, isLongMul, decide_eq_true_eq, decide_eq_false_iff_not] at h ⊢
  simp only [bits] at h ⊢
  omega

theorem halfReg_excludes (h : isHalfReg w = true) :
    isBx w = false ∧ isMul w = false ∧ isLongMul w = false ∧ isSwap w = false := by
  simp only [isHalfReg, isBx, isMul, isLongMul, isSwap, decide_eq_true_eq, decide_eq_false_iff_not] at h ⊢
  simp only [bits] at h ⊢
  omega

theorem halfImm_excludes (h : isHalfImm w = true) :
    isBx w = false ∧ isMul w = false ∧ isLongMul w = false ∧ isSwap w = false ∧ isHalfReg w = false := by
  simp only [isHalfImm, isBx, isMul, isLongMul, isSwap, isHalfReg, decide_eq_true_eq, decide_eq_false_iff_not] at h ⊢
  simp only [bits] at h ⊢
  omega

theorem mrs_excludes (h : isMrs w = true) : isBx w = false := by
  simp only [isMrs, isBx, decide_eq_true_eq, decide_eq_false_iff_not] at h ⊢
  simp only [bits] at h ⊢
  omega

theorem msrReg_excludes (h : isMsrReg w = true) : isMrs w = false := by
  simp only [isMsrReg, isMrs, decide_eq_true_eq, decide_eq_false_iff_not] at h ⊢
  simp only [bits] at h ⊢
  omega

theorem msrImm_excludes (h : isMsrImm w = true) :
    isBx w = false ∧ isMulSpace w = false ∧ isMrs w = false ∧ isMsrReg w = false := by
  simp only [isMsrImm, isBx, isMulSpace, isMrs, isMsrReg, decide_eq_true_eq, decide_eq_false_iff_not] at h ⊢
  simp only [bits] at h ⊢
  omega

theorem undefSpace_excludes (h : isUndefSpace w = true) : isDataProc w = false := by
  simp only [isUndefSpace, isDataProc, decide_eq_true_eq, decide_eq_false_iff_not] at h ⊢
  simp only [bits] at h ⊢
  omega

theorem single_top (h : bits w 27 26 = 1) : isDataProc w = false ∧ (bits w 27 25 = 2 ∨ bits w 27 25 = 3) := by
  simp only [isDataProc, decide_eq_false_iff_not]
  simp only [bits] at h ⊢
  omega

theorem transfer_spaces_false (h : 4 ≤ bits w 27 25) : isDataProc w = false ∧ isUndefSpace w = false := by
  simp only [isDataProc, isUndefSpace, decide_eq_false_iff_not]
  simp only [bits] at h ⊢
  omega

theorem top_of_nibble (h : bits w 27 24 = 14 ∨ bits w 27 24 = 15) : bits w 27 25 = 7 := by
  simp only [bits] at h ⊢
  omega

/-! What each row decodes to. -/

section
variable (hr : isReserved w = false)
include hr

theorem decodeArmWord_bx (h : isBx w = true) :
    decodeArmWord w = .armBx { cond := Cond.ofCode (bits w 31 28), rm := fld 4 w 0 } := by
  simp [decodeArmWord, hr, h]

theorem decodeArmWord_mul (h : isMul w = true) : decodeArmWord w = mulInstr w := by
  simp [decodeArmWord, hr, h, mul_excludes h]

theorem decodeArmWord_longMul (h : isLongMul w = true) : decodeArmWord w = longMulInstr w := by
  simp [decodeArmWord, hr, h, longMul_excludes h]

theorem decodeArmWord_swap (h : isSwap w = true) :
    decodeArmWord w = if flag w 22 then .armSwpb (swapFields w) else .armSwp (swapFields w) := by
  simp [decodeArmWord, hr, h, swap_excludes h]

theorem decodeArmWord_halfReg (h : isHalfReg w = true) : decodeArmWord w = halfRegInstr w := by
  simp [decodeArmWord, hr, h, halfReg_excludes h]

theorem decodeArmWord_halfImm (h : isHalfImm w = true) : decodeArmWord w = halfImmInstr w := by
  simp [decodeArmWord, hr, h, halfImm_excludes h]

theorem decodeArmWord_mrs (hm : isMulSpace w = false) (h : isMrs w = true) : decodeArmWord w =
    .armMrs { cond := Cond.ofCode (bits w 31 28), spsr := flag w 22, rd := fld 4 w 12, sbz := fld 12 w 0 } := by
  simp [decodeArmWord, hr, h, hm, mulSpace_rows_false hm, mrs_excludes h]

theorem decodeArmWord_msrReg (hb : isBx w = false) (hm : isMulSpace w = false) (h : isMsrReg w = true) :
    decodeArmWord w = .armMsrReg { cond := Cond.ofCode (bits w 31 28), spsr := flag w 22, fields := fld 4 w 16
                                   sbz := fld 8 w 4, rm := fld 4 w 0 } := by
  simp [decodeArmWord, hr, h, hb, hm, mulSpace_rows_false hm, msrReg_excludes h]

theorem decodeArmWord_msrImm (h : isMsrImm w = true) : decodeArmWord w =
    .armMsrImm { cond := Cond.ofCode (bits w 31 28), spsr := flag w 22, fields := fld 4 w 16, op2 := immFields w } := by
  obtain ⟨hb, hm, hmrs, hmsr⟩ := msrImm_excludes h
  simp [decodeArmWord, hr, h, hb, hm, hmrs, hmsr, mulSpace_rows_false hm]

theorem decodeArmWord_dataProc (hm : isMulSpace w = false) (hc : isCompareNoS w = false) (h : isDataProc w = true) :
    decodeArmWord w = dataProcInstr w := by
  simp [decodeArmWord, hr, h, hm, hc, mulSpace_rows_false hm, compareNoS_rows_false hc]

/-! Past row 13 bits 27 to 25 tell the rows apart. -/

theorem decodeArmWord_undefSpace (h : isUndefSpace w = true) :
    decodeArmWord w = .armUndefSpace (BitVec.ofNat 32 w) := by
  have hd := undefSpace_excludes h
  simp [decodeArmWord, hr, h, hd, dataProc_rows_false hd]

theorem decodeArmWord_single (hu : isUndefSpace w = false) (h : bits w 27 26 = 1) :
    decodeArmWord w = singleInstr w := by
  obtain ⟨hd, htop⟩ := single_top h
  rcases htop with htop | htop <;> simp [decodeArmWord, hr, htop, hd, hu, dataProc_rows_false hd]

theorem decodeArmWord_block (h : bits w 27 25 = 4) :
    decodeArmWord w = if flag w 20 then .armLdm (blockFields w) else .armStm (blockFields w) := by
  obtain ⟨hd, hu⟩ := transfer_spaces_false h.ge
  simp [decodeArmWord, hr, h, hd, hu, dataProc_rows_false hd]

theorem decodeArmWord_branch (h : bits w 27 25 = 5) :
    decodeArmWord w = if flag w 24 then .armBl (branchFields w) else .armB (branchFields w) := by
  obtain ⟨hd, hu⟩ := transfer_spaces_false (Nat.le_of_succ_le h.ge)
  simp [decodeArmWord, hr, h, hd, hu, dataProc_rows_false hd]

theorem decodeArmWord_ldcStc (h : isLdcStc w = true) : decodeArmWord w = .armLdcStc (BitVec.ofNat 32 w) := by
  have htop : bits w 27 25 = 6 := of_decide_eq_true h
  obtain ⟨hd, hu⟩ := transfer_spaces_false (show 4 ≤ bits w 27 25 by omega)
  simp [decodeArmWord, hr, htop, hd, hu, dataProc_rows_false hd]

theorem decodeArmWord_cdpMrcMcr (h : isCdpMrcMcr w = true) : decodeArmWord w = .armCdpMrcMcr (BitVec.ofNat 32 w) := by
  have htop := top_of_nibble (w := w) (Or.inl (of_decide_eq_true h))
  obtain ⟨hd, hu⟩ := transfer_spaces_false (show 4 ≤ bits w 27 25 by omega)
  simp [decodeArmWord, hr, htop, hd, hu, h, dataProc_rows_false hd]

theorem decodeArmWord_swi (h : bits w 27 24 = 15) :
    decodeArmWord w = .armSwi { cond := Cond.ofCode (bits w 31 28), comment := fld 24 w 0 } := by
  have htop := top_of_nibble (Or.inr h)
  have hc : isCdpMrcMcr w = false := by simp [isCdpMrcMcr, h]
  obtain ⟨hd, hu⟩ := transfer_spaces_false (show 4 ≤ bits w 27 25 by omega)
  simp [decodeArmWord, hr, htop, hd, hu, hc, dataProc_rows_false hd]

end

end Sys2Proof.Proofs
end

section
/-! PROOFS. Every well-formed ARM instruction's word decodes to it (R211 to R216). -/

namespace Sys2Proof.Proofs

open Sys2Proof.Machine

variable {w : Nat}

/-- `w` is an ARM word, and `i` what it decodes to. -/
def ArmDecodes (w : Nat) (i : Instr) : Prop := w < 2 ^ 32 ∧ decodeArmWord w = i

/-! The instructions of a format, by the bits that tell them apart. -/

/-- The long multiplies by the signed bit and A. -/
def longMulForm (signed acc : Bool) (o : LongMulOps) : Instr :=
  match signed, acc with
  | false, false => .armUmull o
  | false, true => .armUmlal o
  | true, false => .armSmull o
  | true, true => .armSmlal o

/-- Halfword and signed transfers, register offset, by L and SH. -/
def halfRegForm (load : Bool) (sh : Nat) (o : HalfReg) : Instr :=
  if load = false then .armStrhReg o
  else match sh with
    | 1 => .armLdrhReg o
    | 2 => .armLdrsbReg o
    | _ => .armLdrshReg o

/-- Halfword and signed transfers, immediate offset, by L and SH. -/
def halfImmForm (load : Bool) (sh : Nat) (o : HalfImm) : Instr :=
  if load = false then .armStrhImm o
  else match sh with
    | 1 => .armLdrhImm o
    | 2 => .armLdrsbImm o
    | _ => .armLdrshImm o

/-- LDR and STR, immediate offset, by B and L. -/
def singleImmForm (byte load : Bool) (o : XferImm) : Instr :=
  match byte, load with
  | false, false => .armStrImm o
  | false, true => .armLdrImm o
  | true, false => .armStrbImm o
  | true, true => .armLdrbImm o

/-- LDR and STR, register offset, by B and L. -/
def singleRegForm (byte load : Bool) (o : XferReg) : Instr :=
  match byte, load with
  | false, false => .armStrReg o
  | false, true => .armLdrReg o
  | true, false => .armStrbReg o
  | true, true => .armLdrbReg o

theorem longMulInstr_eq (w : Nat) : longMulInstr w = longMulForm (flag w 22) (flag w 21) (longMulFields w) := rfl

theorem halfRegInstr_eq (hs : isStoreSigned w = false) :
    halfRegInstr w = halfRegForm (flag w 20) (bits w 6 5) (halfRegFields w) := if_neg (Bool.eq_false_iff.mp hs)

theorem halfImmInstr_eq (hs : isStoreSigned w = false) :
    halfImmInstr w = halfImmForm (flag w 20) (bits w 6 5) (halfImmFields w) := if_neg (Bool.eq_false_iff.mp hs)

theorem singleInstr_eq (w : Nat) : singleInstr w =
    if flag w 25 then singleRegForm (flag w 22) (flag w 20) (xferRegFields w)
    else singleImmForm (flag w 22) (flag w 20) (xferImmFields w) := rfl

/-- L and SH of a halfword or signed transfer: a store has SH = 1 (R216). -/
def HalfOp (load : Bool) (sh : Nat) : Prop := sh = 1 ∨ load = true ∧ (sh = 2 ∨ sh = 3)

theorem sh_ne_zero_of_halfReg (h : isHalfReg w = true) : bits w 6 5 ≠ 0 := by
  simp only [isHalfReg, decide_eq_true_eq] at h
  simp [h]

theorem sh_ne_zero_of_halfImm (h : isHalfImm w = true) : bits w 6 5 ≠ 0 := by
  simp only [isHalfImm, decide_eq_true_eq] at h
  simp [h]

theorem halfOp_iff (h : bits w 6 5 ≠ 0) : HalfOp (flag w 20) (bits w 6 5) ↔ isStoreSigned w = false := by
  rw [HalfOp, flag_eq_true_iff, isStoreSigned, decide_eq_false_iff_not]
  simp only [bits] at h ⊢
  omega

/-- A data-processing word is a row of its own unless it is a test with S clear (R505). -/
theorem compareNoS_false_iff (h : isDataProc w = true) : isCompareNoS w = false ↔
    (isTestOp (DpOp.ofCode (bits w 24 21)) = true → flag w 20 = true) := by
  have hcode : ∀ k, k < 16 → (isTestOp (DpOp.ofCode k) = true ↔ k / 4 = 2) := by decide
  rw [hcode _ (bits_lt w 24 21), flag_eq_true_iff, isCompareNoS, decide_eq_false_iff_not]
  simp only [isDataProc, decide_eq_true_eq] at h
  simp only [bits] at h ⊢
  omega

theorem mulSpace_false_iff (h : isDataProc w = true) : isMulSpace w = false ↔
    (flag w 25 = false → flag w 4 = true → flag w 7 = false) := by
  rw [flag_eq_false_iff, flag_eq_true_iff, flag_eq_false_iff, isMulSpace, decide_eq_false_iff_not]
  simp only [isDataProc, decide_eq_true_eq] at h
  simp only [bits] at h ⊢
  omega

theorem undefSpace_false_iff (h : bits w 27 26 = 1) :
    isUndefSpace w = false ↔ (flag w 25 = true → flag w 4 = false) := by
  rw [flag_eq_true_iff, flag_eq_false_iff, isUndefSpace, decide_eq_false_iff_not]
  simp only [bits] at h ⊢
  omega

/-! A word that a format's encoder makes decodes to the instruction of that format. -/

theorem encodeMul_decodes {acc : Bool} {o : MulOps} (h : encodeMul acc o = w) :
    ArmDecodes w (if acc then .armMla o else .armMul o) := by
  obtain ⟨hw, hr, hrow, rfl, rfl⟩ := encodeMul_eq_iff.mp h
  exact ⟨hw, decodeArmWord_mul hr hrow⟩

theorem encodeLongMul_decodes {signed acc : Bool} {o : LongMulOps} (h : encodeLongMul signed acc o = w) :
    ArmDecodes w (longMulForm signed acc o) := by
  obtain ⟨hw, hr, hrow, rfl, rfl, rfl⟩ := encodeLongMul_eq_iff.mp h
  exact ⟨hw, (decodeArmWord_longMul hr hrow).trans (longMulInstr_eq w)⟩

theorem encodeSwap_decodes {byte : Bool} {o : SwapOps} (h : encodeSwap byte o = w) :
    ArmDecodes w (if byte then .armSwpb o else .armSwp o) := by
  obtain ⟨hw, hr, hrow, rfl, rfl⟩ := encodeSwap_eq_iff.mp h
  exact ⟨hw, decodeArmWord_swap hr hrow⟩

theorem HalfOp.sh_cases {load : Bool} {sh : Nat} (h : HalfOp load sh) : sh = 1 ∨ sh = 2 ∨ sh = 3 := by
  rw [HalfOp] at h
  omega

theorem encodeHalfReg_decodes {load : Bool} {sh : Nat} {o : HalfReg} (hop : HalfOp load sh)
    (h : encodeHalfReg load sh o = w) : ArmDecodes w (halfRegForm load sh o) := by
  obtain ⟨hw, hr, hrow, rfl, rfl, rfl⟩ := (encodeHalfReg_eq_iff hop.sh_cases).mp h
  have hsh : bits w 6 5 ≠ 0 := by
    have hcases := hop.sh_cases
    omega
  exact ⟨hw, (decodeArmWord_halfReg hr hrow).trans (halfRegInstr_eq ((halfOp_iff hsh).mp hop))⟩

theorem encodeHalfImm_decodes {load : Bool} {sh : Nat} {o : HalfImm} (hop : HalfOp load sh)
    (h : encodeHalfImm load sh o = w) : ArmDecodes w (halfImmForm load sh o) := by
  obtain ⟨hw, hr, hrow, rfl, rfl, rfl⟩ := (encodeHalfImm_eq_iff hop.sh_cases).mp h
  have hsh : bits w 6 5 ≠ 0 := by
    have hcases := hop.sh_cases
    omega
  exact ⟨hw, (decodeArmWord_halfImm hr hrow).trans (halfImmInstr_eq ((halfOp_iff hsh).mp hop))⟩

theorem encodeDp_imm_decodes {op : DpOp} {d : Dp} {x : Op2Imm} (hs : isTestOp op = true → d.s = true)
    (h : encodeDp op true d x.packed = w) : ArmDecodes w (dpImmInstr op d x) := by
  obtain ⟨hw, hr, hrow, hi, rfl, rfl, rfl⟩ := encodeDp_imm_eq_iff.mp h
  have hm : isMulSpace w = false := (mulSpace_false_iff hrow).mpr (by simp [hi])
  exact ⟨hw, (decodeArmWord_dataProc hr hm ((compareNoS_false_iff hrow).mpr hs) hrow).trans (if_pos hi)⟩

theorem encodeDp_shift_decodes {op : DpOp} {d : Dp} {x : Op2Shift} (hs : isTestOp op = true → d.s = true)
    (h : encodeDp op false d x.packed = w) : ArmDecodes w (dpShiftInstr op d x) := by
  obtain ⟨hw, hr, hrow, hi, hreg, rfl, rfl, rfl⟩ := encodeDp_shift_eq_iff.mp h
  have hm : isMulSpace w = false := (mulSpace_false_iff hrow).mpr (by simp [hreg])
  refine ⟨hw, (decodeArmWord_dataProc hr hm ((compareNoS_false_iff hrow).mpr hs) hrow).trans ?_⟩
  simp [dataProcInstr, hi, hreg]

theorem encodeDp_regShift_decodes {op : DpOp} {d : Dp} {x : Op2RegShift} (hs : isTestOp op = true → d.s = true)
    (h : encodeDp op false d x.packed = w) : ArmDecodes w (dpRegShiftInstr op d x) := by
  obtain ⟨hw, hr, hrow, hi, hreg, hbit, rfl, rfl, rfl⟩ := encodeDp_regShift_eq_iff.mp h
  have hm : isMulSpace w = false := (mulSpace_false_iff hrow).mpr fun _ _ => hbit
  refine ⟨hw, (decodeArmWord_dataProc hr hm ((compareNoS_false_iff hrow).mpr hs) hrow).trans ?_⟩
  simp [dataProcInstr, hi, hreg]

theorem encodeSingle_imm_decodes {byte load : Bool} {o : XferImm}
    (h : encodeSingle false byte load o.ix [(12, o.offset.toNat)] = w) : ArmDecodes w (singleImmForm byte load o) := by
  obtain ⟨hw, hr, hrow, hi, rfl, rfl, rfl⟩ := encodeSingle_imm_eq_iff.mp h
  have hu : isUndefSpace w = false := (undefSpace_false_iff hrow).mpr (by simp [hi])
  exact ⟨hw, (decodeArmWord_single hr hu hrow).trans ((singleInstr_eq w).trans (by simp [hi]))⟩

theorem encodeSingle_reg_decodes {byte load : Bool} {o : XferReg}
    (h : encodeSingle true byte load o.ix o.op2.packed = w) : ArmDecodes w (singleRegForm byte load o) := by
  obtain ⟨hw, hr, hrow, hi, hreg, rfl, rfl, rfl⟩ := encodeSingle_reg_eq_iff.mp h
  have hu : isUndefSpace w = false := (undefSpace_false_iff hrow).mpr fun _ => hreg
  exact ⟨hw, (decodeArmWord_single hr hu hrow).trans ((singleInstr_eq w).trans (if_pos hi))⟩

theorem encodeBlock_decodes {load : Bool} {o : BlockOps} (h : encodeBlock load o = w) :
    ArmDecodes w (if load then .armLdm o else .armStm o) := by
  obtain ⟨hw, hr, hrow, rfl, rfl⟩ := encodeBlock_eq_iff.mp h
  exact ⟨hw, decodeArmWord_block hr hrow⟩

theorem encodeBranch_decodes {link : Bool} {o : BranchOps} (h : encodeBranch link o = w) :
    ArmDecodes w (if link then .armBl o else .armB o) := by
  obtain ⟨hw, hr, hrow, rfl, rfl⟩ := encodeBranch_eq_iff.mp h
  exact ⟨hw, decodeArmWord_branch hr hrow⟩

/-! The PSR transfers: which values of their free bits an earlier row takes. -/

theorem testBit_eq_flag (w k : Nat) : w.testBit k = flag w k := by
  rw [Nat.testBit_eq_decide_div_mod_eq, flag, bits, Nat.add_sub_cancel_left, Nat.pow_one]

theorem getLsbD_fld {n k : Nat} (hk : k < n) (w lo : Nat) : (fld n w lo).getLsbD k = flag w (lo + k) := by
  rw [fld, BitVec.getLsbD_ofNat, decide_eq_true hk, Bool.true_and, Nat.testBit_div_two_pow, testBit_eq_flag,
    Nat.add_comm]

theorem wordCheck_isNone (ok : Bool) : (wordCheck ok).isNone = ok := by cases ok <;> rfl

theorem isMulSpace_eq (h : bits w 27 25 = 0) : isMulSpace w = (flag w 7 && flag w 4) := by
  simp [isMulSpace, flag, h]

theorem wellFormed_mrs {o : MrsOps} (h : isMrs w = true) (ho : o.sbz = fld 12 w 0) :
    WellFormed (.armMrs o) = !isMulSpace w := by
  have htop : bits w 27 25 = 0 := by
    simp only [isMrs, decide_eq_true_eq] at h
    simp only [bits] at h ⊢
    omega
  refine (wordCheck_isNone _).trans ?_
  rw [isMulSpace_eq htop, ho, getLsbD_fld (by decide), getLsbD_fld (by decide)]

theorem isBx_msrReg (h : isMsrReg w = true) :
    isBx w = (!flag w 22 && fld 4 w 16 == 0xF#4 && fld 8 w 4 == 0xF1#8) := by
  have hfields : fld 4 w 16 = 0xF#4 ↔ bits w 19 16 = 15 :=
    (bits_eq_toNat (n := 4) (hi := 19) (lo := 16) rfl w 0xF#4).symm
  have hsbz : fld 8 w 4 = 0xF1#8 ↔ bits w 11 4 = 0xF1 :=
    (bits_eq_toNat (n := 8) (hi := 11) (lo := 4) rfl w 0xF1#8).symm
  simp only [isMsrReg, decide_eq_true_eq] at h
  rw [Bool.eq_iff_iff, isBx, decide_eq_true_eq]
  simp only [Bool.and_eq_true, Bool.not_eq_true', beq_iff_eq, hfields, hsbz, flag_eq_false_iff]
  simp only [bits] at h ⊢
  omega

theorem wellFormed_msrReg {o : MsrRegOps} (h : isMsrReg w = true) (hspsr : o.spsr = flag w 22)
    (hfields : o.fields = fld 4 w 16) (hsbz : o.sbz = fld 8 w 4) :
    WellFormed (.armMsrReg o) = (!isMulSpace w && !isBx w) := by
  have htop : bits w 27 25 = 0 := by
    simp only [isMsrReg, decide_eq_true_eq] at h
    simp only [bits] at h ⊢
    omega
  refine (wordCheck_isNone _).trans ?_
  rw [isMulSpace_eq htop, isBx_msrReg h, hspsr, hfields, hsbz, getLsbD_fld (by decide), getLsbD_fld (by decide)]

theorem mrs_decodes {o : MrsOps} (hwf : WellFormed (.armMrs o) = true) (h : (Instr.armMrs o).word.2 = w) :
    ArmDecodes w (.armMrs o) := by
  obtain ⟨hw, hr, hrow, rfl⟩ := word_mrs_eq_iff.mp h
  rw [wellFormed_mrs hrow rfl, Bool.not_eq_true'] at hwf
  exact ⟨hw, decodeArmWord_mrs hr hwf hrow⟩

theorem msrReg_decodes {o : MsrRegOps} (hwf : WellFormed (.armMsrReg o) = true) (h : (Instr.armMsrReg o).word.2 = w) :
    ArmDecodes w (.armMsrReg o) := by
  obtain ⟨hw, hr, hrow, rfl⟩ := word_msrReg_eq_iff.mp h
  rw [wellFormed_msrReg hrow rfl rfl rfl, Bool.and_eq_true, Bool.not_eq_true', Bool.not_eq_true'] at hwf
  exact ⟨hw, decodeArmWord_msrReg hr hwf.2 hwf.1 hrow⟩

theorem msrImm_decodes {o : MsrImmOps} (h : (Instr.armMsrImm o).word.2 = w) : ArmDecodes w (.armMsrImm o) := by
  obtain ⟨hw, hr, hrow, rfl⟩ := word_msrImm_eq_iff.mp h
  exact ⟨hw, decodeArmWord_msrImm hr hrow⟩

theorem bx_decodes {o : BranchExchange} (h : (Instr.armBx o).word.2 = w) : ArmDecodes w (.armBx o) := by
  obtain ⟨hw, hr, hrow, rfl⟩ := word_bx_eq_iff.mp h
  exact ⟨hw, decodeArmWord_bx hr hrow⟩

theorem swi_decodes {o : SwiOps} (h : (Instr.armSwi o).word.2 = w) : ArmDecodes w (.armSwi o) := by
  obtain ⟨hw, hr, hrow, rfl⟩ := word_swi_eq_iff.mp h
  exact ⟨hw, decodeArmWord_swi hr hrow⟩

/-! The undefined and coprocessor spaces hold the word itself. -/

theorem raw_decodes {c : Word → Instr} {v : Word} (h : v.toNat = w) (hdec : decodeArmWord w = c (BitVec.ofNat 32 w)) :
    ArmDecodes w (c v) := by
  subst h
  refine ⟨v.isLt, hdec.trans (congrArg c ?_)⟩
  rw [BitVec.ofNat_toNat, BitVec.setWidth_eq]

theorem wellFormed_raw {i : Instr} {ok : Bool} (hi : i.illFormed = wordCheck ok) : WellFormed i = ok := by
  rw [WellFormed, hi, wordCheck_isNone]

theorem decodeArmWord_reserved (h : isReserved w = true) : decodeArmWord w = .armReservedCond (BitVec.ofNat 32 w) :=
  if_pos h

theorem decodeArmWord_storeSignedReg (h : (pastSwapRows w && isHalfReg w && isStoreSigned w) = true) :
    decodeArmWord w = .armUndefStoreSignedReg (BitVec.ofNat 32 w) := by
  simp only [pastSwapRows, Bool.and_eq_true, Bool.not_eq_true'] at h
  rw [decodeArmWord_halfReg (by simp [h]) h.1.2]
  exact if_pos h.2

theorem decodeArmWord_storeSignedImm (h : (pastSwapRows w && isHalfImm w && isStoreSigned w) = true) :
    decodeArmWord w = .armUndefStoreSignedImm (BitVec.ofNat 32 w) := by
  simp only [pastSwapRows, Bool.and_eq_true, Bool.not_eq_true'] at h
  rw [decodeArmWord_halfImm (by simp [h]) h.1.2]
  exact if_pos h.2

theorem decodeArmWord_mulSpace (h : (pastHalfRows w && isMulSpace w) = true) :
    decodeArmWord w = .armUndefMultiplySpace (BitVec.ofNat 32 w) := by
  simp only [pastHalfRows, pastSwapRows, Bool.and_eq_true, Bool.not_eq_true'] at h
  simp [decodeArmWord, h]

theorem decodeArmWord_compareNoS (h : (pastPsrRows w && isCompareNoS w) = true) :
    decodeArmWord w = .armUndefCompareNoS (BitVec.ofNat 32 w) := by
  simp only [pastPsrRows, pastHalfRows, pastSwapRows, Bool.and_eq_true, Bool.not_eq_true'] at h
  simp [decodeArmWord, h]

/-- Every well-formed ARM instruction's word decodes to it. -/
theorem decodes_of_isArm {i : Instr} (hisa : i.isa = .arm) (hwf : WellFormed i = true) (h : i.word.2 = w) :
    ArmDecodes w i := by
  cases i <;> cases hisa
  case armBx => exact bx_decodes h
  case armMul | armMla => exact encodeMul_decodes h
  case armUmull | armUmlal | armSmull | armSmlal => exact encodeLongMul_decodes h
  case armSwp | armSwpb => exact encodeSwap_decodes h
  case armStrhReg | armLdrhReg => exact encodeHalfReg_decodes (.inl rfl) h
  case armLdrsbReg | armLdrshReg => exact encodeHalfReg_decodes (.inr ⟨rfl, by decide⟩) h
  case armStrhImm | armLdrhImm => exact encodeHalfImm_decodes (.inl rfl) h
  case armLdrsbImm | armLdrshImm => exact encodeHalfImm_decodes (.inr ⟨rfl, by decide⟩) h
  case armMrs => exact mrs_decodes hwf h
  case armMsrReg => exact msrReg_decodes hwf h
  case armMsrImm => exact msrImm_decodes h
  case armTstImm | armTeqImm | armCmpImm | armCmnImm => exact encodeDp_imm_decodes (fun _ => rfl) h
  case armTstShift | armTeqShift | armCmpShift | armCmnShift => exact encodeDp_shift_decodes (fun _ => rfl) h
  case armTstRegShift | armTeqRegShift | armCmpRegShift | armCmnRegShift =>
    exact encodeDp_regShift_decodes (fun _ => rfl) h
  case armAndImm | armEorImm | armSubImm | armRsbImm | armAddImm | armAdcImm | armSbcImm | armRscImm | armOrrImm |
      armMovImm | armBicImm | armMvnImm => exact encodeDp_imm_decodes (by nofun) h
  case armAndShift | armEorShift | armSubShift | armRsbShift | armAddShift | armAdcShift | armSbcShift | armRscShift |
      armOrrShift | armMovShift | armBicShift | armMvnShift => exact encodeDp_shift_decodes (by nofun) h
  case armAndRegShift | armEorRegShift | armSubRegShift | armRsbRegShift | armAddRegShift | armAdcRegShift |
      armSbcRegShift | armRscRegShift | armOrrRegShift | armMovRegShift | armBicRegShift | armMvnRegShift =>
    exact encodeDp_regShift_decodes (by nofun) h
  case armStrImm | armLdrImm | armStrbImm | armLdrbImm => exact encodeSingle_imm_decodes h
  case armStrReg | armLdrReg | armStrbReg | armLdrbReg => exact encodeSingle_reg_decodes h
  case armStm | armLdm => exact encodeBlock_decodes h
  case armB | armBl => exact encodeBranch_decodes h
  case armSwi => exact swi_decodes h
  all_goals
    rw [wellFormed_raw rfl] at hwf
    subst h
  case armReservedCond => exact raw_decodes rfl (decodeArmWord_reserved hwf)
  case armUndefStoreSignedReg => exact raw_decodes rfl (decodeArmWord_storeSignedReg hwf)
  case armUndefStoreSignedImm => exact raw_decodes rfl (decodeArmWord_storeSignedImm hwf)
  case armUndefMultiplySpace => exact raw_decodes rfl (decodeArmWord_mulSpace hwf)
  case armUndefCompareNoS => exact raw_decodes rfl (decodeArmWord_compareNoS hwf)
  all_goals
    rw [Bool.and_eq_true, Bool.not_eq_true'] at hwf
    obtain ⟨hr, hrow⟩ := hwf
  case armUndefSpace => exact raw_decodes rfl (decodeArmWord_undefSpace hr hrow)
  case armLdcStc => exact raw_decodes rfl (decodeArmWord_ldcStc hr hrow)
  case armCdpMrcMcr => exact raw_decodes rfl (decodeArmWord_cdpMrcMcr hr hrow)

end Sys2Proof.Proofs
end

section
/-! PROOFS. Every ARM word decodes to a well-formed instruction whose word it is (R211 to R216). -/

namespace Sys2Proof.Proofs

open Sys2Proof.Machine

variable {w : Nat}

/-- `i` is a well-formed instruction of the set `isa`, and its `n` bytes are the word `w`. -/
structure IsWord (isa : Isa) (n w : Nat) (i : Instr) : Prop where
  isa_eq : i.isa = isa
  wellFormed : WellFormed i = true
  length_eq : i.word.1 = n
  word_eq : i.word.2 = w

/-- An instruction of an undefined space, or a coprocessor's, holds its word. -/
theorem isWord_raw {isa : Isa} {n m : Nat} (hw : w < 2 ^ m) {c : BitVec m → Instr} {ok : Bool}
    (hisa : (c (BitVec.ofNat m w)).isa = isa) (hlen : (c (BitVec.ofNat m w)).word.1 = n)
    (hword : (c (BitVec.ofNat m w)).word.2 = (BitVec.ofNat m w).toNat)
    (hwf : (c (BitVec.ofNat m w)).illFormed = wordCheck ok) (h : (BitVec.ofNat m w).toNat = w → ok = true) :
    IsWord isa n w (c (BitVec.ofNat m w)) := by
  have hnat : (BitVec.ofNat m w).toNat = w := Nat.mod_eq_of_lt hw
  exact ⟨hisa, (wellFormed_raw hwf).trans (h hnat), hlen, hword.trans hnat⟩

/-- The data-processing instructions in their three forms; for the tests S is set. -/
theorem dpInstr_isWord {op : DpOp} {d : Dp} (hs : isTestOp op = true → d.s = true) :
    (∀ {w : Nat} {x : Op2Imm}, encodeDp op true d x.packed = w → IsWord .arm 4 w (dpImmInstr op d x)) ∧
    (∀ {w : Nat} {x : Op2Shift}, encodeDp op false d x.packed = w → IsWord .arm 4 w (dpShiftInstr op d x)) ∧
    ∀ {w : Nat} {x : Op2RegShift}, encodeDp op false d x.packed = w → IsWord .arm 4 w (dpRegShiftInstr op d x) := by
  obtain ⟨c, s, rn, rd⟩ := d
  cases op
  case tst | teq | cmp | cmn =>
    cases hs rfl
    exact ⟨(⟨rfl, rfl, rfl, ·⟩), (⟨rfl, rfl, rfl, ·⟩), (⟨rfl, rfl, rfl, ·⟩)⟩
  all_goals exact ⟨(⟨rfl, rfl, rfl, ·⟩), (⟨rfl, rfl, rfl, ·⟩), (⟨rfl, rfl, rfl, ·⟩)⟩

section
variable (hw : w < 2 ^ 32) (hr : isReserved w = false)
include hw hr

theorem mulInstr_isWord (h : isMul w = true) : IsWord .arm 4 w (mulInstr w) := by
  unfold mulInstr
  cases hacc : flag w 21 <;>
    exact ⟨rfl, rfl, rfl, encodeMul_eq_iff.mpr ⟨hw, hr, h, hacc, rfl⟩⟩

theorem longMulInstr_isWord (h : isLongMul w = true) : IsWord .arm 4 w (longMulInstr w) := by
  unfold longMulInstr
  cases hsigned : flag w 22 <;> cases hacc : flag w 21 <;>
    exact ⟨rfl, rfl, rfl, encodeLongMul_eq_iff.mpr ⟨hw, hr, h, hsigned, hacc, rfl⟩⟩

theorem swap_isWord (h : isSwap w = true) :
    IsWord .arm 4 w (if flag w 22 then .armSwpb (swapFields w) else .armSwp (swapFields w)) := by
  cases hbyte : flag w 22 <;>
    exact ⟨rfl, rfl, rfl, encodeSwap_eq_iff.mpr ⟨hw, hr, h, hbyte, rfl⟩⟩

theorem halfRegForm_isWord (h : isHalfReg w = true) (hop : HalfOp (flag w 20) (bits w 6 5)) :
    IsWord .arm 4 w (halfRegForm (flag w 20) (bits w 6 5) (halfRegFields w)) := by
  have hword := (encodeHalfReg_eq_iff hop.sh_cases).mpr ⟨hw, hr, h, rfl, rfl, rfl⟩
  generalize flag w 20 = load, bits w 6 5 = sh at hop hword
  rcases hop with rfl | ⟨rfl, rfl | rfl⟩
  · cases load <;> exact ⟨rfl, rfl, rfl, hword⟩
  · exact ⟨rfl, rfl, rfl, hword⟩
  · exact ⟨rfl, rfl, rfl, hword⟩

theorem halfImmForm_isWord (h : isHalfImm w = true) (hop : HalfOp (flag w 20) (bits w 6 5)) :
    IsWord .arm 4 w (halfImmForm (flag w 20) (bits w 6 5) (halfImmFields w)) := by
  have hword := (encodeHalfImm_eq_iff hop.sh_cases).mpr ⟨hw, hr, h, rfl, rfl, rfl⟩
  generalize flag w 20 = load, bits w 6 5 = sh at hop hword
  rcases hop with rfl | ⟨rfl, rfl | rfl⟩
  · cases load <;> exact ⟨rfl, rfl, rfl, hword⟩
  · exact ⟨rfl, rfl, rfl, hword⟩
  · exact ⟨rfl, rfl, rfl, hword⟩

theorem halfRegInstr_isWord (hp : pastSwapRows w = true) (h : isHalfReg w = true) :
    IsWord .arm 4 w (halfRegInstr w) := by
  cases hs : isStoreSigned w with
  | true =>
    rw [halfRegInstr, if_pos hs]
    exact isWord_raw hw rfl rfl rfl rfl fun hnat => by rw [hnat, hp, h, hs]; rfl
  | false =>
    rw [halfRegInstr_eq hs]
    exact halfRegForm_isWord hw hr h ((halfOp_iff (sh_ne_zero_of_halfReg h)).mpr hs)

theorem halfImmInstr_isWord (hp : pastSwapRows w = true) (h : isHalfImm w = true) :
    IsWord .arm 4 w (halfImmInstr w) := by
  cases hs : isStoreSigned w with
  | true =>
    rw [halfImmInstr, if_pos hs]
    exact isWord_raw hw rfl rfl rfl rfl fun hnat => by rw [hnat, hp, h, hs]; rfl
  | false =>
    rw [halfImmInstr_eq hs]
    exact halfImmForm_isWord hw hr h ((halfOp_iff (sh_ne_zero_of_halfImm h)).mpr hs)

theorem mrs_isWord (hm : isMulSpace w = false) (h : isMrs w = true) : IsWord .arm 4 w
    (.armMrs { cond := Cond.ofCode (bits w 31 28), spsr := flag w 22, rd := fld 4 w 12, sbz := fld 12 w 0 }) := by
  refine ⟨rfl, ?_, rfl, word_mrs_eq_iff.mpr ⟨hw, hr, h, rfl⟩⟩
  rw [wellFormed_mrs h rfl, hm]
  rfl

theorem msrReg_isWord (hb : isBx w = false) (hm : isMulSpace w = false) (h : isMsrReg w = true) : IsWord .arm 4 w
    (.armMsrReg { cond := Cond.ofCode (bits w 31 28), spsr := flag w 22, fields := fld 4 w 16, sbz := fld 8 w 4
                  rm := fld 4 w 0 }) := by
  refine ⟨rfl, ?_, rfl, word_msrReg_eq_iff.mpr ⟨hw, hr, h, rfl⟩⟩
  rw [wellFormed_msrReg h rfl rfl rfl, hm, hb]
  rfl

theorem dataProcInstr_isWord (hm : isMulSpace w = false) (hc : isCompareNoS w = false) (h : isDataProc w = true) :
    IsWord .arm 4 w (dataProcInstr w) := by
  obtain ⟨himm, hshift, hregShift⟩ := dpInstr_isWord (d := dpFields w) ((compareNoS_false_iff h).mp hc)
  unfold dataProcInstr
  cases hi : flag w 25 with
  | true => exact himm (encodeDp_imm_eq_iff.mpr ⟨hw, hr, h, hi, rfl, rfl, rfl⟩)
  | false =>
    cases hreg : flag w 4 with
    | false => exact hshift (encodeDp_shift_eq_iff.mpr ⟨hw, hr, h, hi, hreg, rfl, rfl, rfl⟩)
    | true =>
      have hbit := (mulSpace_false_iff h).mp hm hi hreg
      exact hregShift (encodeDp_regShift_eq_iff.mpr ⟨hw, hr, h, hi, hreg, hbit, rfl, rfl, rfl⟩)

theorem singleInstr_isWord (hu : isUndefSpace w = false) (h : bits w 27 26 = 1) :
    IsWord .arm 4 w (singleInstr w) := by
  rw [singleInstr_eq]
  cases hi : flag w 25 with
  | true =>
    have hreg := (undefSpace_false_iff h).mp hu hi
    have hword := encodeSingle_reg_eq_iff.mpr ⟨hw, hr, h, hi, hreg, rfl, rfl, rfl⟩
    generalize flag w 22 = byte, flag w 20 = load at hword
    cases byte <;> cases load <;> exact ⟨rfl, rfl, rfl, hword⟩
  | false =>
    have hword := encodeSingle_imm_eq_iff.mpr ⟨hw, hr, h, hi, rfl, rfl, rfl⟩
    generalize flag w 22 = byte, flag w 20 = load at hword
    cases byte <;> cases load <;> exact ⟨rfl, rfl, rfl, hword⟩

theorem block_isWord (h : bits w 27 25 = 4) :
    IsWord .arm 4 w (if flag w 20 then .armLdm (blockFields w) else .armStm (blockFields w)) := by
  cases hload : flag w 20 <;>
    exact ⟨rfl, rfl, rfl, encodeBlock_eq_iff.mpr ⟨hw, hr, h, hload, rfl⟩⟩

theorem branch_isWord (h : bits w 27 25 = 5) :
    IsWord .arm 4 w (if flag w 24 then .armBl (branchFields w) else .armB (branchFields w)) := by
  cases hlink : flag w 24 <;>
    exact ⟨rfl, rfl, rfl, encodeBranch_eq_iff.mpr ⟨hw, hr, h, hlink, rfl⟩⟩

end

theorem top_cases (h : isDataProc w = false) : bits w 27 26 = 1 ∨ bits w 27 25 = 4 ∨ bits w 27 25 = 5 ∨
    isLdcStc w = true ∨ isCdpMrcMcr w = true ∨ bits w 27 24 = 15 := by
  simp only [isDataProc, isLdcStc, isCdpMrcMcr, decide_eq_true_eq, decide_eq_false_iff_not] at h ⊢
  simp only [bits] at h ⊢
  omega

/-- Past row 13. -/
theorem transfer_isWord (hw : w < 2 ^ 32) (hr : isReserved w = false) (hd : isDataProc w = false) :
    IsWord .arm 4 w (decodeArmWord w) := by
  cases hund : isUndefSpace w
  case true =>
    rw [decodeArmWord_undefSpace hr hund]
    exact isWord_raw hw rfl rfl rfl rfl fun hnat => by rw [hnat, hr, hund]; rfl
  obtain htop | htop | htop | htop | htop | htop := top_cases hd
  · rw [decodeArmWord_single hr hund htop]
    exact singleInstr_isWord hw hr hund htop
  · rw [decodeArmWord_block hr htop]
    exact block_isWord hw hr htop
  · rw [decodeArmWord_branch hr htop]
    exact branch_isWord hw hr htop
  · rw [decodeArmWord_ldcStc hr htop]
    exact isWord_raw hw rfl rfl rfl rfl fun hnat => by rw [hnat, hr, htop]; rfl
  · rw [decodeArmWord_cdpMrcMcr hr htop]
    exact isWord_raw hw rfl rfl rfl rfl fun hnat => by rw [hnat, hr, htop]; rfl
  · rw [decodeArmWord_swi hr htop]
    exact ⟨rfl, rfl, rfl, word_swi_eq_iff.mpr ⟨hw, hr, htop, rfl⟩⟩

/-- Rows 9 to 13: past the multiplies and halfword transfers. -/
theorem psrOrDataProc_isWord (hw : w < 2 ^ 32) (hp : pastHalfRows w = true) (hm : isMulSpace w = false)
    (hd : isDataProc w = true) : IsWord .arm 4 w (decodeArmWord w) := by
  have hrows := hp
  simp only [pastHalfRows, pastSwapRows, Bool.and_eq_true, Bool.not_eq_true'] at hrows
  obtain ⟨⟨⟨⟨⟨⟨hr, hb⟩, -⟩, -⟩, -⟩, -⟩, -⟩ := hrows
  cases hmrs : isMrs w
  case true =>
    rw [decodeArmWord_mrs hr hm hmrs]
    exact mrs_isWord hw hr hm hmrs
  cases hmsr : isMsrReg w
  case true =>
    rw [decodeArmWord_msrReg hr hb hm hmsr]
    exact msrReg_isWord hw hr hb hm hmsr
  cases himm : isMsrImm w
  case true =>
    rw [decodeArmWord_msrImm hr himm]
    exact ⟨rfl, rfl, rfl, word_msrImm_eq_iff.mpr ⟨hw, hr, himm, rfl⟩⟩
  cases hc : isCompareNoS w
  case true =>
    have htest : (pastPsrRows w && isCompareNoS w) = true := by simp [pastPsrRows, hp, hm, hmrs, hmsr, himm, hc]
    rw [decodeArmWord_compareNoS htest]
    exact isWord_raw hw rfl rfl rfl rfl fun hnat => by rw [hnat, htest]
  rw [decodeArmWord_dataProc hr hm hc hd]
  exact dataProcInstr_isWord hw hr hm hc hd

/-- Every word decodes to a well-formed ARM instruction whose word it is. -/
theorem decodeArmWord_isWord (hw : w < 2 ^ 32) : IsWord .arm 4 w (decodeArmWord w) := by
  cases hr : isReserved w
  case true =>
    rw [decodeArmWord_reserved hr]
    exact isWord_raw hw rfl rfl rfl rfl fun hnat => by rw [hnat, hr]
  cases hbx : isBx w
  case true =>
    rw [decodeArmWord_bx hr hbx]
    exact ⟨rfl, rfl, rfl, word_bx_eq_iff.mpr ⟨hw, hr, hbx, rfl⟩⟩
  cases hmul : isMul w
  case true =>
    rw [decodeArmWord_mul hr hmul]
    exact mulInstr_isWord hw hr hmul
  cases hlong : isLongMul w
  case true =>
    rw [decodeArmWord_longMul hr hlong]
    exact longMulInstr_isWord hw hr hlong
  cases hswap : isSwap w
  case true =>
    rw [decodeArmWord_swap hr hswap]
    exact swap_isWord hw hr hswap
  have hp : pastSwapRows w = true := by simp [pastSwapRows, hr, hbx, hmul, hlong, hswap]
  cases hreg : isHalfReg w
  case true =>
    rw [decodeArmWord_halfReg hr hreg]
    exact halfRegInstr_isWord hw hr hp hreg
  cases himm : isHalfImm w
  case true =>
    rw [decodeArmWord_halfImm hr himm]
    exact halfImmInstr_isWord hw hr hp himm
  have hp : pastHalfRows w = true := by simp [pastHalfRows, hp, hreg, himm]
  cases hm : isMulSpace w
  case true =>
    have htest : (pastHalfRows w && isMulSpace w) = true := by rw [hp, hm]; rfl
    rw [decodeArmWord_mulSpace htest]
    exact isWord_raw hw rfl rfl rfl rfl fun hnat => by rw [hnat, htest]
  cases hd : isDataProc w
  case false => exact transfer_isWord hw hr hd
  exact psrOrDataProc_isWord hw hp hm hd

end Sys2Proof.Proofs
end

section
/-! PROOFS. The THUMB formats (R220): an instruction's halfword, by the fields read from it. -/

namespace Sys2Proof.Proofs

open Sys2Proof.Machine

variable {w : Nat}

theorem encodeThumb5_eq_iff {top : Nat} {rd rs : LowReg} {imm : BitVec 5} (htop : top < 2 ^ 5) :
    encodeThumb5 top rd rs imm = w ↔
      w < 2 ^ 16 ∧ bits w 15 11 = top ∧ fld 3 w 0 = rd ∧ fld 3 w 3 = rs ∧ fld 5 w 6 = imm := by
  refine (pack_eq_iff ?_).trans ?_
  · exact ⟨⟨by decide, htop⟩, fits_toNat imm, fits_toNat rs, fits_toNat rd, trivial⟩
  · simp [and_assoc, and_comm]

theorem encodeThumb3_eq_iff {top : Nat} {rd rs rn : LowReg} (htop : top < 2 ^ 7) : encodeThumb3 top rd rs rn = w ↔
    w < 2 ^ 16 ∧ bits w 15 9 = top ∧ fld 3 w 0 = rd ∧ fld 3 w 3 = rs ∧ fld 3 w 6 = rn := by
  refine (pack_eq_iff ?_).trans ?_
  · exact ⟨⟨by decide, htop⟩, fits_toNat rn, fits_toNat rs, fits_toNat rd, trivial⟩
  · simp [and_assoc, and_comm]

theorem encodeThumb8_eq_iff {top : Nat} {rd : LowReg} {imm : Byte} (htop : top < 2 ^ 5) : encodeThumb8 top rd imm = w ↔
    w < 2 ^ 16 ∧ bits w 15 11 = top ∧ fld 3 w 8 = rd ∧ fld 8 w 0 = imm := by
  refine (pack_eq_iff ?_).trans ?_
  · exact ⟨⟨by decide, htop⟩, fits_toNat rd, fits_toNat imm, trivial⟩
  · simp [and_comm]

theorem encodeThumbAlu_eq_iff {op : Nat} {rd rs : LowReg} (hop : op < 2 ^ 4) : encodeThumbAlu op rd rs = w ↔
    w < 2 ^ 16 ∧ bits w 15 10 = 16 ∧ bits w 9 6 = op ∧ fld 3 w 0 = rd ∧ fld 3 w 3 = rs := by
  refine (pack_eq_iff ?_).trans ?_
  · exact ⟨by decide, ⟨by decide, hop⟩, fits_toNat rs, fits_toNat rd, trivial⟩
  · simp [and_comm, and_left_comm]

/-- H and h lie above the low three bits of their registers. -/
theorem encodeThumbHigh_eq_iff {op : Nat} {hd hs : RegNum} (hop : op < 2 ^ 8) : encodeThumbHigh op hd hs = w ↔
    w < 2 ^ 16 ∧ bits w 15 8 = op ∧ BitVec.ofNat 4 (bits w 7 7 * 8 + bits w 2 0) = hd ∧ fld 4 w 3 = hs := by
  have hdlt := hd.isLt
  have hslt := hs.isLt
  refine (pack_eq_iff ?_).trans ?_
  · exact ⟨⟨by decide, hop⟩, ⟨by decide, by omega⟩, ⟨by decide, by omega⟩, ⟨by decide, by omega⟩, ⟨by decide, by omega⟩,
      trivial⟩
  · have hhd : BitVec.ofNat 4 (bits w 7 7 * 8 + bits w 2 0) = hd ↔
        bits w 7 7 = hd.toNat / 8 ∧ bits w 2 0 = hd.toNat % 8 := by
      rw [← BitVec.toNat_inj, BitVec.toNat_ofNat]
      simp only [bits]
      omega
    have hhs : fld 4 w 3 = hs ↔ bits w 6 6 = hs.toNat / 8 ∧ bits w 5 3 = hs.toNat % 8 := by
      rw [← bits_eq_toNat (n := 4) (hi := 6) (lo := 3) rfl]
      simp only [bits]
      omega
    simp [hhd, hhs, and_assoc, and_comm, and_left_comm]

theorem word_thumbBx_eq_iff {hs : RegNum} : (Instr.thumbBx hs).word.2 = w ↔
    w < 2 ^ 16 ∧ bits w 15 7 = 0x8E ∧ fld 4 w 3 = hs ∧ bits w 2 0 = 0 := by
  refine (pack_eq_iff ?_).trans ?_
  · exact ⟨by decide, fits_toNat hs, by decide, trivial⟩
  · simp

theorem word_adjustSp_eq_iff {down : Bool} {x : BitVec 7} : (Instr.thumbAdjustSp down x).word.2 = w ↔
    w < 2 ^ 16 ∧ bits w 15 8 = 0xB0 ∧ flag w 7 = down ∧ fld 7 w 0 = x := by
  refine (pack_eq_iff ?_).trans ?_
  · exact ⟨by decide, fits_bit down, fits_toNat x, trivial⟩
  · simp

theorem word_push_eq_iff {lr : Bool} {list : Byte} : (Instr.thumbPush lr list).word.2 = w ↔
    w < 2 ^ 16 ∧ bits w 15 9 = 0x5A ∧ flag w 8 = lr ∧ fld 8 w 0 = list := by
  refine (pack_eq_iff ?_).trans ?_
  · exact ⟨by decide, fits_bit lr, fits_toNat list, trivial⟩
  · simp

theorem word_pop_eq_iff {pc : Bool} {list : Byte} : (Instr.thumbPop pc list).word.2 = w ↔
    w < 2 ^ 16 ∧ bits w 15 9 = 0x5E ∧ flag w 8 = pc ∧ fld 8 w 0 = list := by
  refine (pack_eq_iff ?_).trans ?_
  · exact ⟨by decide, fits_bit pc, fits_toNat list, trivial⟩
  · simp

theorem word_thumbSwi_eq_iff {x : Byte} : (Instr.thumbSwi x).word.2 = w ↔
    w < 2 ^ 16 ∧ bits w 15 8 = 0xDF ∧ fld 8 w 0 = x := by
  refine (pack_eq_iff ?_).trans ?_
  · exact ⟨by decide, fits_toNat x, trivial⟩
  · simp

theorem word_bCond_eq_iff {c : Cond} {x : Byte} : (Instr.thumbBCond c x).word.2 = w ↔
    w < 2 ^ 16 ∧ bits w 15 12 = 13 ∧ bits w 11 8 ≠ 15 ∧ Cond.ofCode (bits w 11 8) = c ∧ fld 8 w 0 = x := by
  refine (pack_eq_iff ?_).trans ?_
  · exact ⟨by decide, fits_condCode c, fits_toNat x, trivial⟩
  · simp [eq_condCode_iff (bits_lt w 11 8), and_assoc]

/-- B and the halves of BL (formats 18 and 19). -/
theorem pack_offset11_eq_iff {top : Nat} {x : BitVec 11} (htop : top < 2 ^ 5) : pack [(5, top), (11, x.toNat)] 0 = w ↔
    w < 2 ^ 16 ∧ bits w 15 11 = top ∧ fld 11 w 0 = x := by
  refine (pack_eq_iff ?_).trans ?_
  · exact ⟨⟨by decide, htop⟩, fits_toNat x, trivial⟩
  · simp

end Sys2Proof.Proofs
end

section
/-! PROOFS. Every well-formed THUMB instruction's halfword decodes to it (R220, R222). -/

namespace Sys2Proof.Proofs

open Sys2Proof.Machine

variable {w : Nat}

/-- `w` is a THUMB halfword, and `i` what it decodes to. -/
def ThumbDecodes (w : Nat) (i : Instr) : Prop := w < 2 ^ 16 ∧ decodeThumbWord w = i

/-! A field in two parts, as the decoder reads it in steps. -/

theorem bits_high {hi lo k : Nat} (h : bits w hi lo = k) (mid : Nat)
    (hlo : lo ≤ mid := by decide) (hhi : mid ≤ hi + 1 := by decide) : bits w hi mid = k / 2 ^ (mid - lo) := by
  obtain ⟨a, rfl⟩ := Nat.exists_eq_add_of_le hlo
  have hwidth : hi + 1 - lo = a + (hi + 1 - (lo + a)) := by omega
  rw [← h, bits, bits, hwidth, Nat.add_sub_cancel_left, Nat.pow_add 2 a, Nat.mod_mul_right_div_self,
    Nat.div_div_eq_div_mul, ← Nat.pow_add]

theorem bits_low {hi lo k : Nat} (h : bits w hi lo = k) (mid : Nat)
    (hlo : lo ≤ mid := by decide) (hhi : mid ≤ hi := by decide) : bits w mid lo = k % 2 ^ (mid + 1 - lo) := by
  have hwidth : hi + 1 - lo = mid + 1 - lo + (hi - mid) := by omega
  rw [← h, bits, bits, hwidth, Nat.pow_add, Nat.mod_mul_right_mod]

/-! What the spaces that hold more than one format decode to. -/

theorem decodeThumbWord_addSub (h : bits w 15 11 = 3) : decodeThumbWord w = thumbAddSubSpace w := by
  simp [decodeThumbWord, h]

theorem decodeThumbWord_aluSpace (h : bits w 15 11 = 8) : decodeThumbWord w = thumbAluSpace w := by
  simp [decodeThumbWord, h]

theorem thumbTop_of_nibble {k : Nat} (h : bits w 15 12 = k) : bits w 15 11 = 2 * k ∨ bits w 15 11 = 2 * k + 1 := by
  simp only [bits] at h ⊢
  omega

theorem decodeThumbWord_regXfer (h : bits w 15 12 = 5) :
    decodeThumbWord w = thumbRegXferInstr (bits w 11 9) (fld 3 w 0) (fld 3 w 3) (fld 3 w 6) := by
  rcases thumbTop_of_nibble h with htop | htop <;> simp [decodeThumbWord, htop]

theorem decodeThumbWord_misc (h : bits w 15 12 = 11) : decodeThumbWord w = thumbMiscSpace w := by
  rcases thumbTop_of_nibble h with htop | htop <;> simp [decodeThumbWord, htop]

theorem decodeThumbWord_cond (h : bits w 15 12 = 13) : decodeThumbWord w = thumbCondSpace w := by
  rcases thumbTop_of_nibble h with htop | htop <;> simp [decodeThumbWord, htop]

theorem decodeThumbWord_alu (h : bits w 15 10 = 16) :
    decodeThumbWord w = thumbAluInstr (bits w 9 6) (fld 3 w 0) (fld 3 w 3) := by
  have hop : bits w 10 8 = 0 ∨ bits w 10 8 = 1 ∨ bits w 10 8 = 2 ∨ bits w 10 8 = 3 := by
    simp only [bits] at h ⊢
    omega
  rw [decodeThumbWord_aluSpace (bits_high h 11)]
  rcases hop with hop | hop | hop | hop <;> simp [thumbAluSpace, hop]

theorem decodeThumbWord_bx (h : bits w 15 7 = 0x8E) : decodeThumbWord w = .thumbBx (fld 4 w 3) := by
  have hop : bits w 10 8 = 7 := by
    simp only [bits] at h ⊢
    omega
  have hflag : flag w 7 = false := (flag_eq_false_iff w 7).mpr (bits_low h 7)
  simp [decodeThumbWord_aluSpace (bits_high h 11), thumbAluSpace, hop, hflag]

theorem decodeThumbWord_undefBlx (h : bits w 15 7 = 0x8F) : decodeThumbWord w = .thumbUndefBlx (BitVec.ofNat 16 w) := by
  have hop : bits w 10 8 = 7 := by
    simp only [bits] at h ⊢
    omega
  have hflag : flag w 7 = true := (flag_eq_true_iff w 7).mpr (bits_low h 7)
  simp [decodeThumbWord_aluSpace (bits_high h 11), thumbAluSpace, hop, hflag]

/-- PUSH, POP and the spaces of two codes: bit 8 stands below the leading seven bits. -/
theorem decodeThumbWord_miscPair {k : Nat} (h : bits w 15 9 = 0x58 + k) (hk : k < 8 := by decide) :
    decodeThumbWord w = thumbMiscSpace w ∧
      (flag w 8 = false ∧ bits w 11 8 = 2 * k ∨ flag w 8 = true ∧ bits w 11 8 = 2 * k + 1) := by
  have hparts : bits w 15 12 = 11 ∧
      (bits w 8 8 = 0 ∧ bits w 11 8 = 2 * k ∨ bits w 8 8 = 1 ∧ bits w 11 8 = 2 * k + 1) := by
    simp only [bits] at h ⊢
    omega
  rw [flag_eq_false_iff, flag_eq_true_iff]
  exact ⟨decodeThumbWord_misc hparts.1, hparts.2⟩

theorem decodeThumbWord_push (h : bits w 15 9 = 0x5A) : decodeThumbWord w = .thumbPush (flag w 8) (fld 8 w 0) := by
  obtain ⟨hmisc, ⟨hbit, hop⟩ | ⟨hbit, hop⟩⟩ := decodeThumbWord_miscPair (k := 2) h <;>
    simp [hmisc, thumbMiscSpace, hop, hbit]

theorem decodeThumbWord_pop (h : bits w 15 9 = 0x5E) : decodeThumbWord w = .thumbPop (flag w 8) (fld 8 w 0) := by
  obtain ⟨hmisc, ⟨hbit, hop⟩ | ⟨hbit, hop⟩⟩ := decodeThumbWord_miscPair (k := 6) h <;>
    simp [hmisc, thumbMiscSpace, hop, hbit]

theorem decodeThumbWord_undefB2 (h : bits w 15 9 = 0x59) : decodeThumbWord w = .thumbUndefB2 (BitVec.ofNat 16 w) := by
  obtain ⟨hmisc, ⟨-, hop⟩ | ⟨-, hop⟩⟩ := decodeThumbWord_miscPair (k := 1) h <;>
    simp [hmisc, thumbMiscSpace, hop]

theorem decodeThumbWord_undefB6 (h : bits w 15 9 = 0x5B) : decodeThumbWord w = .thumbUndefB6 (BitVec.ofNat 16 w) := by
  obtain ⟨hmisc, ⟨-, hop⟩ | ⟨-, hop⟩⟩ := decodeThumbWord_miscPair (k := 3) h <;>
    simp [hmisc, thumbMiscSpace, hop]

theorem decodeThumbWord_undefBE (h : bits w 15 9 = 0x5F) : decodeThumbWord w = .thumbUndefBE (BitVec.ofNat 16 w) := by
  obtain ⟨hmisc, ⟨-, hop⟩ | ⟨-, hop⟩⟩ := decodeThumbWord_miscPair (k := 7) h <;>
    simp [hmisc, thumbMiscSpace, hop]

theorem decodeThumbWord_undefB1 (h : bits w 15 8 = 0xB1) : decodeThumbWord w = .thumbUndefB1 (BitVec.ofNat 16 w) := by
  simp [decodeThumbWord_misc (bits_high h 12), thumbMiscSpace, bits_low h 11]

theorem decodeThumbWord_undefB8 (h : bits w 15 10 = 0x2E) : decodeThumbWord w = .thumbUndefB8 (BitVec.ofNat 16 w) := by
  have hop : bits w 11 8 = 8 ∨ bits w 11 8 = 9 ∨ bits w 11 8 = 10 ∨ bits w 11 8 = 11 := by
    simp only [bits] at h ⊢
    omega
  rw [decodeThumbWord_misc (bits_high h 12)]
  rcases hop with hop | hop | hop | hop <;> simp [thumbMiscSpace, hop]

theorem decodeThumbWord_undefCond14 (h : bits w 15 8 = 0xDE) :
    decodeThumbWord w = .thumbUndefCond14 (BitVec.ofNat 16 w) := by
  simp [decodeThumbWord_cond (bits_high h 12), thumbCondSpace, bits_low h 11]

theorem decodeThumbWord_swi (h : bits w 15 8 = 0xDF) : decodeThumbWord w = .thumbSwi (fld 8 w 0) := by
  simp [decodeThumbWord_cond (bits_high h 12), thumbCondSpace, bits_low h 11]

theorem decodeThumbWord_adjustSp (h : bits w 15 8 = 0xB0) :
    decodeThumbWord w = .thumbAdjustSp (flag w 7) (fld 7 w 0) := by
  simp [decodeThumbWord_misc (bits_high h 12), thumbMiscSpace, bits_low h 11]

theorem decodeThumbWord_undefE8 (h : bits w 15 11 = 0x1D) : decodeThumbWord w = .thumbUndefE8 (BitVec.ofNat 16 w) := by
  simp [decodeThumbWord, h]

theorem decodeThumbWord_bCond (h : bits w 15 12 = 13) (h14 : bits w 11 8 ≠ 14) (h15 : bits w 11 8 ≠ 15) :
    decodeThumbWord w = .thumbBCond (Cond.ofCode (bits w 11 8)) (fld 8 w 0) := by
  simp [decodeThumbWord_cond h, thumbCondSpace]

theorem wellFormed_bCond_iff {c : Cond} {x : Byte} : WellFormed (.thumbBCond c x) = true ↔ c ≠ .al := by
  refine ⟨?_, fun h => ?_⟩
  · rintro hwf rfl
    cases hwf
  · exact congrArg Option.isNone (if_neg h)

theorem thumbRaw_decodes {c : Half → Instr} {v : Half} (h : decodeThumbWord v.toNat = c (BitVec.ofNat 16 v.toNat)) :
    ThumbDecodes v.toNat (c v) :=
  ⟨v.isLt, h.trans (congrArg c ((BitVec.ofNat_toNat 16 v).trans (BitVec.setWidth_eq v)))⟩

/-- Every well-formed THUMB instruction's halfword decodes to it. -/
theorem decodes_of_isThumb {i : Instr} (hisa : i.isa = .thumb) (hwf : WellFormed i = true) (h : i.word.2 = w) :
    ThumbDecodes w i := by
  cases i <;> cases hisa
  case thumbLslImm | thumbLsrImm | thumbAsrImm | thumbStrImm | thumbLdrImm | thumbStrbImm | thumbLdrbImm |
      thumbStrhImm | thumbLdrhImm =>
    obtain ⟨hw, htop, rfl, rfl, rfl⟩ := (encodeThumb5_eq_iff (by decide)).mp h
    exact ⟨hw, by simp [decodeThumbWord, htop]⟩
  case thumbMovImm | thumbCmpImm | thumbAddImm8 | thumbSubImm8 | thumbLdrPc | thumbStrSp | thumbLdrSp | thumbAddPc |
      thumbAddSp | thumbStmia | thumbLdmia =>
    obtain ⟨hw, htop, rfl, rfl⟩ := (encodeThumb8_eq_iff (by decide)).mp h
    exact ⟨hw, by simp [decodeThumbWord, htop]⟩
  case thumbAddReg | thumbSubReg | thumbAddImm3 | thumbSubImm3 =>
    obtain ⟨hw, htop, rfl, rfl, rfl⟩ := (encodeThumb3_eq_iff (by decide)).mp h
    have hop := bits_low htop 10
    refine ⟨hw, (decodeThumbWord_addSub (bits_high htop 11)).trans ?_⟩
    simp [thumbAddSubSpace, hop]
  case thumbStrReg | thumbStrbReg | thumbLdrReg | thumbLdrbReg | thumbStrhReg | thumbLdsbReg | thumbLdrhReg |
      thumbLdshReg =>
    obtain ⟨hw, htop, rfl, rfl, rfl⟩ := (encodeThumb3_eq_iff (by decide)).mp h
    have hop := bits_low htop 11
    refine ⟨hw, (decodeThumbWord_regXfer (bits_high htop 12)).trans ?_⟩
    simp [thumbRegXferInstr, hop]
  case thumbAnd | thumbEor | thumbLsl | thumbLsr | thumbAsr | thumbAdc | thumbSbc | thumbRor | thumbTst | thumbNeg |
      thumbCmp | thumbCmn | thumbOrr | thumbMul | thumbBic | thumbMvn =>
    obtain ⟨hw, htop, hop, rfl, rfl⟩ := (encodeThumbAlu_eq_iff (by decide)).mp h
    refine ⟨hw, (decodeThumbWord_alu htop).trans ?_⟩
    simp [thumbAluInstr, hop]
  case thumbAddHi | thumbCmpHi | thumbMovHi =>
    obtain ⟨hw, htop, rfl, rfl⟩ := (encodeThumbHigh_eq_iff (by decide)).mp h
    have hop := bits_low htop 10
    refine ⟨hw, (decodeThumbWord_aluSpace (bits_high htop 11)).trans ?_⟩
    simp [thumbAluSpace, hop]
  case thumbBx =>
    obtain ⟨hw, htop, rfl, -⟩ := word_thumbBx_eq_iff.mp h
    exact ⟨hw, decodeThumbWord_bx htop⟩
  case thumbAdjustSp =>
    obtain ⟨hw, htop, rfl, rfl⟩ := word_adjustSp_eq_iff.mp h
    exact ⟨hw, decodeThumbWord_adjustSp htop⟩
  case thumbPush =>
    obtain ⟨hw, htop, rfl, rfl⟩ := word_push_eq_iff.mp h
    exact ⟨hw, decodeThumbWord_push htop⟩
  case thumbPop =>
    obtain ⟨hw, htop, rfl, rfl⟩ := word_pop_eq_iff.mp h
    exact ⟨hw, decodeThumbWord_pop htop⟩
  case thumbSwi =>
    obtain ⟨hw, htop, rfl⟩ := word_thumbSwi_eq_iff.mp h
    exact ⟨hw, decodeThumbWord_swi htop⟩
  case thumbBCond =>
    obtain ⟨hw, htop, h15, rfl, rfl⟩ := word_bCond_eq_iff.mp h
    have h14 : bits w 11 8 ≠ 14 := fun h14 => wellFormed_bCond_iff.mp hwf (congrArg Cond.ofCode h14)
    exact ⟨hw, decodeThumbWord_bCond htop h14 h15⟩
  case thumbB | thumbBlHi | thumbBlLo =>
    obtain ⟨hw, htop, rfl⟩ := (pack_offset11_eq_iff (by decide)).mp h
    exact ⟨hw, by simp [decodeThumbWord, htop]⟩
  all_goals
    rw [wellFormed_raw rfl, decide_eq_true_eq] at hwf
    subst h
  case thumbUndefBlx => exact thumbRaw_decodes (decodeThumbWord_undefBlx hwf)
  case thumbUndefB1 => exact thumbRaw_decodes (decodeThumbWord_undefB1 hwf)
  case thumbUndefB2 => exact thumbRaw_decodes (decodeThumbWord_undefB2 hwf)
  case thumbUndefB6 => exact thumbRaw_decodes (decodeThumbWord_undefB6 hwf)
  case thumbUndefB8 => exact thumbRaw_decodes (decodeThumbWord_undefB8 hwf)
  case thumbUndefBE => exact thumbRaw_decodes (decodeThumbWord_undefBE hwf)
  case thumbUndefCond14 => exact thumbRaw_decodes (decodeThumbWord_undefCond14 hwf)
  case thumbUndefE8 => exact thumbRaw_decodes (decodeThumbWord_undefE8 hwf)

end Sys2Proof.Proofs
end

section
/-! PROOFS. Every THUMB halfword decodes to a well-formed instruction, whose halfword it is but for BX, whose low bits
are not read (R220, R222). -/

namespace Sys2Proof.Proofs

open Sys2Proof.Machine

variable {w : Nat}

section
variable (hw : w < 2 ^ 16)
include hw

theorem thumbAluInstr_isWord (h : bits w 15 10 = 16) :
    IsWord .thumb 2 w (thumbAluInstr (bits w 9 6) (fld 3 w 0) (fld 3 w 3)) := by
  have hop := bits_lt w 9 6
  have hword := (encodeThumbAlu_eq_iff hop).mpr ⟨hw, h, rfl, rfl, rfl⟩
  generalize bits w 9 6 = op at hop hword
  interval_cases op <;> exact ⟨rfl, rfl, rfl, hword⟩

theorem thumbRegXferInstr_isWord (h : bits w 15 12 = 5) :
    IsWord .thumb 2 w (thumbRegXferInstr (bits w 11 9) (fld 3 w 0) (fld 3 w 3) (fld 3 w 6)) := by
  have hop := bits_lt w 11 9
  have htop : bits w 15 9 = 0x28 + bits w 11 9 := by
    simp only [bits] at h ⊢
    omega
  have hword := (encodeThumb3_eq_iff (by omega)).mpr ⟨hw, htop, rfl, rfl, rfl⟩
  generalize bits w 11 9 = op at hop hword
  interval_cases op <;> exact ⟨rfl, rfl, rfl, hword⟩

theorem thumbAddSubSpace_isWord (h : bits w 15 11 = 3) : IsWord .thumb 2 w (thumbAddSubSpace w) := by
  have hop := bits_lt w 10 9
  have htop : bits w 15 9 = 12 + bits w 10 9 := by
    simp only [bits] at h ⊢
    omega
  have hword := (encodeThumb3_eq_iff (by omega)).mpr ⟨hw, htop, rfl, rfl, rfl⟩
  unfold thumbAddSubSpace
  generalize bits w 10 9 = op at hop hword
  interval_cases op <;> exact ⟨rfl, rfl, rfl, hword⟩

theorem thumbAluSpace_isWord (h : bits w 15 11 = 8) (hbx : bits w 15 7 = 0x8E → bits w 2 0 = 0) :
    IsWord .thumb 2 w (thumbAluSpace w) := by
  have hhigh : ∀ {k}, bits w 10 8 = k → bits w 15 8 = 0x40 + k := by
    intro k hk
    simp only [bits] at h hk ⊢
    omega
  unfold thumbAluSpace
  -- the codes 4 to 7, then the rest
  split
  case h_1 hop | h_2 hop | h_3 hop =>
    exact ⟨rfl, rfl, rfl, (encodeThumbHigh_eq_iff (by decide)).mpr ⟨hw, hhigh hop, rfl, rfl⟩⟩
  case h_4 hop =>
    cases hblx : flag w 7 with
    | false =>
      have htop : bits w 15 7 = 0x8E := by
        have hselect := hhigh hop
        rw [flag_eq_false_iff] at hblx
        simp only [bits] at hselect hblx ⊢
        omega
      exact ⟨rfl, rfl, rfl, word_thumbBx_eq_iff.mpr ⟨hw, htop, rfl, hbx htop⟩⟩
    | true =>
      have htop : bits w 15 7 = 0x8F := by
        have hselect := hhigh hop
        rw [flag_eq_true_iff] at hblx
        simp only [bits] at hselect hblx ⊢
        omega
      exact isWord_raw hw rfl rfl rfl rfl fun hnat => by rw [hnat, htop]; rfl
  case h_5 h4 h5 h6 h7 =>
    have hlt : bits w 10 8 < 8 := bits_lt w 10 8
    have hlow : bits w 10 8 < 4 := by
      rw [imp_false] at h4 h5 h6 h7
      omega
    refine thumbAluInstr_isWord hw ?_
    simp only [bits] at h hlow ⊢
    omega

theorem thumbMiscSpace_isWord (h : bits w 15 12 = 11) : IsWord .thumb 2 w (thumbMiscSpace w) := by
  have hop : ∀ {k}, bits w 11 8 = k → bits w 15 8 = 0xB0 + k := by
    intro k hk
    simp only [bits] at h hk ⊢
    omega
  have hpair : ∀ {k}, bits w 11 8 = k → bits w 15 9 = 0x58 + k / 2 ∧ bits w 8 8 = k % 2 := by
    intro k hk
    simp only [bits] at h hk ⊢
    omega
  unfold thumbMiscSpace
  -- the codes 0 to 7, 12 to 15, then the rest
  split
  case h_1 hk =>
    exact ⟨rfl, rfl, rfl, word_adjustSp_eq_iff.mpr ⟨hw, hop hk, rfl, rfl⟩⟩
  case h_2 hk => exact isWord_raw hw rfl rfl rfl rfl fun hnat => by rw [hnat, hop hk]; rfl
  case h_3 hk | h_4 hk | h_7 hk | h_8 hk | h_11 hk | h_12 hk =>
    exact isWord_raw hw rfl rfl rfl rfl fun hnat => by rw [hnat, (hpair hk).1]; rfl
  case h_5 hk =>
    have hlr : flag w 8 = false := (flag_eq_false_iff w 8).mpr (hpair hk).2
    exact ⟨rfl, rfl, rfl, word_push_eq_iff.mpr ⟨hw, (hpair hk).1, hlr, rfl⟩⟩
  case h_6 hk =>
    have hlr : flag w 8 = true := (flag_eq_true_iff w 8).mpr (hpair hk).2
    exact ⟨rfl, rfl, rfl, word_push_eq_iff.mpr ⟨hw, (hpair hk).1, hlr, rfl⟩⟩
  case h_9 hk =>
    have hpc : flag w 8 = false := (flag_eq_false_iff w 8).mpr (hpair hk).2
    exact ⟨rfl, rfl, rfl, word_pop_eq_iff.mpr ⟨hw, (hpair hk).1, hpc, rfl⟩⟩
  case h_10 hk =>
    have hpc : flag w 8 = true := (flag_eq_true_iff w 8).mpr (hpair hk).2
    exact ⟨rfl, rfl, rfl, word_pop_eq_iff.mpr ⟨hw, (hpair hk).1, hpc, rfl⟩⟩
  case h_13 =>
    have hlt : bits w 11 8 < 16 := bits_lt w 11 8
    have htop : bits w 15 10 = 0x2E := by
      have hrange : 8 ≤ bits w 11 8 ∧ bits w 11 8 < 12 := by
        simp only [imp_false] at *
        omega
      simp only [bits] at h hrange ⊢
      omega
    exact isWord_raw hw rfl rfl rfl rfl fun hnat => by rw [hnat, htop]; rfl

theorem thumbCondSpace_isWord (h : bits w 15 12 = 13) : IsWord .thumb 2 w (thumbCondSpace w) := by
  have hop : ∀ {k}, bits w 11 8 = k → bits w 15 8 = 0xD0 + k := by
    intro k hk
    simp only [bits] at h hk ⊢
    omega
  unfold thumbCondSpace
  split
  case h_1 hk => exact isWord_raw hw rfl rfl rfl rfl fun hnat => by rw [hnat, hop hk]; rfl
  case h_2 hk => exact ⟨rfl, rfl, rfl, word_thumbSwi_eq_iff.mpr ⟨hw, hop hk, rfl⟩⟩
  case h_3 h14 h15 =>
    refine ⟨rfl, wellFormed_bCond_iff.mpr ?_, rfl, word_bCond_eq_iff.mpr ⟨hw, h, h15, rfl, rfl⟩⟩
    exact fun hal => h14 ((eq_condCode_iff (bits_lt w 11 8) .al).mpr ⟨h15, hal⟩)

end

/-- Every halfword decodes to a well-formed THUMB instruction whose halfword it is, but BX with a low bit set. -/
theorem decodeThumbWord_isWord (hw : w < 2 ^ 16) (hbx : bits w 15 7 = 0x8E → bits w 2 0 = 0) :
    IsWord .thumb 2 w (decodeThumbWord w) := by
  have hnibble : ∀ {k}, bits w 15 11 = k → bits w 15 12 = k / 2 := fun hk => bits_high hk 12
  unfold decodeThumbWord
  -- the cases are those of bits 15 to 11, from 0 on
  split
  case h_1 h | h_2 h | h_3 h | h_13 h | h_14 h | h_15 h | h_16 h | h_17 h | h_18 h =>
    exact ⟨rfl, rfl, rfl, (encodeThumb5_eq_iff (by decide)).mpr ⟨hw, h, rfl, rfl, rfl⟩⟩
  case h_5 h | h_6 h | h_7 h | h_8 h | h_10 h | h_19 h | h_20 h | h_21 h | h_22 h | h_25 h | h_26 h =>
    exact ⟨rfl, rfl, rfl, (encodeThumb8_eq_iff (by decide)).mpr ⟨hw, h, rfl, rfl⟩⟩
  case h_4 h => exact thumbAddSubSpace_isWord hw h
  case h_9 h => exact thumbAluSpace_isWord hw h hbx
  case h_11 h | h_12 h => exact thumbRegXferInstr_isWord hw (hnibble h)
  case h_23 h | h_24 h => exact thumbMiscSpace_isWord hw (hnibble h)
  case h_27 h | h_28 h => exact thumbCondSpace_isWord hw (hnibble h)
  case h_30 h => exact isWord_raw hw rfl rfl rfl rfl fun hnat => by rw [hnat, h]; rfl
  case h_29 h | h_31 h =>
    exact ⟨rfl, rfl, rfl, (pack_offset11_eq_iff (by decide)).mpr ⟨hw, h, rfl⟩⟩
  case h_32 =>
    have hlt : bits w 15 11 < 32 := bits_lt w 15 11
    have htop : bits w 15 11 = 31 := by
      simp only [imp_false] at *
      omega
    exact ⟨rfl, rfl, rfl, (pack_offset11_eq_iff (by decide)).mpr ⟨hw, htop, rfl⟩⟩

end Sys2Proof.Proofs
end

section
/-! PROOFS. The statements about the CPU-32 encoding (R210 to R222), and the decoding samples. -/

namespace Sys2Proof.Proofs

open Sys2Proof.Machine

/-! The bytes of a word are decoded as that word. -/

theorem decode_arm_toLeBytes {w : Nat} (hw : w < 2 ^ 32) (rest : List Byte) :
    decode .arm (toLeBytes 4 w ++ rest) = .ok (decodeArmWord w, rest) := by
  have hword : ofLeBytes (toLeBytes 4 w) = w := (ofLeBytes_toLeBytes 4 w).trans (Nat.mod_eq_of_lt hw)
  have hread : decode .arm (toLeBytes 4 w ++ rest) =
      .ok (decodeArmWord (ofLeBytes (toLeBytes 4 w)), rest) := rfl
  rw [hread, hword]

theorem decode_thumb_toLeBytes {w : Nat} (hw : w < 2 ^ 16) (rest : List Byte) :
    decode .thumb (toLeBytes 2 w ++ rest) = .ok (decodeThumbWord w, rest) := by
  have hword : ofLeBytes (toLeBytes 2 w) = w := (ofLeBytes_toLeBytes 2 w).trans (Nat.mod_eq_of_lt hw)
  have hread : decode .thumb (toLeBytes 2 w ++ rest) =
      .ok (decodeThumbWord (ofLeBytes (toLeBytes 2 w)), rest) := rfl
  rw [hread, hword]

theorem word_length_arm {i : Instr} (h : i.isa = .arm) : i.word.1 = 4 := by
  cases i <;> cases h <;> rfl

theorem word_length_thumb {i : Instr} (h : i.isa = .thumb) : i.word.1 = 2 := by
  cases i <;> cases h <;> rfl

theorem decode_encode_arm {i : Instr} (hisa : i.isa = .arm) (hwf : WellFormed i = true) (rest : List Byte) :
    decode .arm (encode i ++ rest) = .ok (i, rest) := by
  obtain ⟨hw, hdec⟩ := decodes_of_isArm hisa hwf rfl
  rw [encode, word_length_arm hisa, decode_arm_toLeBytes hw, hdec]

theorem decode_encode_thumb {i : Instr} (hisa : i.isa = .thumb) (hwf : WellFormed i = true) (rest : List Byte) :
    decode .thumb (encode i ++ rest) = .ok (i, rest) := by
  obtain ⟨hw, hdec⟩ := decodes_of_isThumb hisa hwf rfl
  rw [encode, word_length_thumb hisa, decode_thumb_toLeBytes hw, hdec]

theorem IsWord.encode_eq {isa : Isa} {n w : Nat} {i : Instr} (h : IsWord isa n w i) : encode i = toLeBytes n w := by
  rw [encode, h.length_eq, h.word_eq]

/-- Settles O54: decode and encode agree on each format and on each row of the decode order. -/
theorem cpu32RoundTrip : Obligations.Cpu32RoundTrip := by
  refine ⟨?_, ?_, ?_⟩
  · intro i rest hisa hwf
    cases h : i.isa with
    | cpu8 => exact absurd h hisa
    | arm => exact decode_encode_arm h hwf rest
    | thumb => exact decode_encode_thumb h hwf rest
  · intro w hw
    have hword := decodeArmWord_isWord hw
    exact ⟨hword.wellFormed, hword.isa_eq, hword.encode_eq⟩
  · intro w hw
    by_cases hbx : bits w 15 7 = 0x8E ∧ bits w 2 0 ≠ 0
    · have hlow : w / 128 = 0x8E ∧ w % 8 ≠ 0 := by
        simp only [bits] at hbx
        omega
      rw [decodeThumbWord_bx hbx.1]
      exact ⟨rfl, rfl, fun hnot => absurd hlow hnot⟩
    · have hword := decodeThumbWord_isWord hw fun htop => by_contra fun hne => hbx ⟨htop, hne⟩
      exact ⟨hword.wellFormed, hword.isa_eq, fun _ => hword.encode_eq⟩

/-- Settles O47: the undefined words fault and the decoder knows them by their leading bits; an empty list stops. -/
theorem thumbStops : Obligations.ThumbStops := by
  refine ⟨?_, ?_, ?_⟩
  · intro w s i hi
    simp only [List.mem_cons, List.not_mem_nil, or_false] at hi
    rcases hi with rfl | rfl | rfl | rfl | rfl | rfl | rfl | rfl <;> rfl
  · intro rb s i hi
    simp only [List.mem_cons, List.not_mem_nil, or_false] at hi
    rcases hi with rfl | rfl | rfl | rfl <;> rfl
  · rintro w hw _ rfl
    have htop : ∀ {lo k}, w / 2 ^ lo = k → k < 2 ^ (15 + 1 - lo) → bits w 15 lo = k := fun h hk =>
      (Nat.mod_eq_of_lt (h ▸ hk)).trans h
    exact ⟨fun h => decodeThumbWord_undefBlx (htop h (by decide)),
      fun h => decodeThumbWord_undefB1 (htop h (by decide)),
      fun h => decodeThumbWord_undefB2 (htop h (by decide)), fun h => decodeThumbWord_undefB6 (htop h (by decide)),
      fun h => decodeThumbWord_undefB8 (htop h (by decide)), fun h => decodeThumbWord_undefBE (htop h (by decide)),
      fun h => decodeThumbWord_undefCond14 (htop h (by decide)), fun h => decodeThumbWord_undefE8 (htop h (by decide))⟩

/-- Settles O55: the decoder runs on each sample. -/
theorem decodingSamples : Obligations.DecodingSamples :=
  ⟨rfl, rfl, rfl, rfl, rfl, rfl, rfl, rfl, rfl, rfl⟩

end Sys2Proof.Proofs
end

section
/-! PROOFS. The CPU-8 loads from memory and stores (R303 to R319, R322, R763). -/

namespace Sys2Proof.Proofs

open Sys2Proof.Machine Sys2Proof.Claims

/-! A pair moved by 0 (R306 to R309). -/

theorem setPair_pairOf (c : Cpu8) (p : RP) : c.setPair p (c.pairOf p) = c := by
  cases p <;> simp [Cpu8.setPair, Cpu8.pairOf]

theorem setPair_pairOf_add_zero (c : Cpu8) (p : RP) : c.setPair p (c.pairOf p + 0#16) = c := by
  rw [BitVec.add_zero, setPair_pairOf]

/-- The same after a load of A, which is in no pair of R202. -/
theorem setPair_pairOf_add_zero_loadA (c : Cpu8) (p : RP) (v : Byte) :
    { c with a := v }.setPair p (c.pairOf p + 0#16) = { c with a := v } := by
  have hpair : { c with a := v }.pairOf p = c.pairOf p := by cases p <;> rfl
  rw [← hpair, setPair_pairOf_add_zero]

/-! Loads (R303, R306, R307, R310, R312, R314, R317, R319). -/

/-- A row that reads a byte, then changes the CPU-8 half and takes its clocks: the read leaves both as they were. -/
theorem finish8_on8_read8 (a : Half) (clocks : Nat) (f : Cpu8 → Cpu8) (s : State) :
    finish8 clocks (on8 f (read8 a s).2) =
      .next { (read8 a s).2 with cpu8 := f s.cpu8, cycles := s.cycles + clocks } := by
  simp only [finish8, charge, on8, read8_cpu8, read8_cycles]

theorem load8_hlm {dst : R8} (hd : dst ≠ .hlm) (s : State) :
    load8 dst .hlm s = .next { (read8 (s.cpu8.pairOf .hl) s).2 with
      cpu8 := s.cpu8.setReg dst (read8 (s.cpu8.pairOf .hl) s).1, cycles := s.cycles + 8 } := by
  simp only [load8, readOperand8, writeOperand8, if_neg hd, if_true, or_true, thenRes_next]
  exact finish8_on8_read8 _ 8 _ s

theorem loadAAt_next (p : RP) (delta : Half) (s : State) :
    loadAAt p delta s = .next { (read8 (s.cpu8.pairOf p) s).2 with
      cpu8 := { s.cpu8 with a := (read8 (s.cpu8.pairOf p) s).1 }.setPair p (s.cpu8.pairOf p + delta)
      cycles := s.cycles + 8 } := finish8_on8_read8 _ 8 _ s

theorem loadAFrom_next (a : Half) (clocks : Nat) (s : State) :
    loadAFrom a clocks s = .next { (read8 a s).2 with
      cpu8 := { s.cpu8 with a := (read8 a s).1 }, cycles := s.cycles + clocks } := finish8_on8_read8 a clocks _ s

/-- A load that moves no pair, in the words of those that move HL. -/
theorem loadAFrom_next_hl (a : Half) (clocks : Nat) (s : State) :
    loadAFrom a clocks s = .next { (read8 a s).2 with
      cpu8 := { s.cpu8 with a := (read8 a s).1 }.setPair .hl (s.cpu8.pairOf .hl + 0#16)
      cycles := s.cycles + clocks } := by
  rw [loadAFrom_next, setPair_pairOf_add_zero_loadA]

theorem loadAAt_zero (p : RP) (s : State) : loadAAt p 0#16 s = loadAFrom (s.cpu8.pairOf p) 8 s := by
  simp only [loadAAt, setPair_pairOf_add_zero_loadA]
  rfl

/-- Settles O2: each row is one `read8`, which leaves the CPU-8 half and the clocks to the row. -/
theorem cpu8MemoryLoads : Obligations.Cpu8MemoryLoads := by
  refine ⟨fun dst s hd => ?_, fun i a delta clocks s hrow => ?_, fun nn s => loadAFrom_next nn 16 s, fun n s => ?_⟩
  · rw [exec_ldInstr s (.inl hd), load8_hlm hd]
  · simp only [List.mem_cons, Prod.mk.injEq, List.not_mem_nil, or_false] at hrow
    obtain ⟨rfl, rfl, rfl, rfl⟩ | ⟨rfl, rfl, rfl, rfl⟩ | ⟨rfl, rfl, rfl, rfl⟩ | ⟨rfl, rfl, rfl, rfl⟩ |
      ⟨rfl, rfl, rfl, rfl⟩ := hrow
    · exact (loadAAt_zero .bc s).trans (loadAFrom_next_hl _ 8 s)
    · exact (loadAAt_zero .de s).trans (loadAFrom_next_hl _ 8 s)
    · rw [← append_ff]
      exact loadAFrom_next_hl _ 8 s
    · exact loadAAt_next .hl 1 s
    · exact loadAAt_next .hl (-1) s
  · rw [← append_ff]
    exact loadAFrom_next _ 12 s

/-! Stores (R304, R305, R308, R309, R311, R313, R315, R316, R318, R322). -/

/-- An unrefused write completes (R763), and what follows it runs. -/
theorem thenRes_write8 {a : Half} {v : Byte} {s : State} (h : ¬ Refused8 s a v) (k : State → Res) :
    ∃ t, write8 a v s = .next t ∧ thenRes (write8 a v s) k = k t := by
  obtain ⟨t, ht⟩ := (write8_next_iff a v s).mpr h
  exact ⟨t, ht, by rw [ht, thenRes_next]⟩

/-- A write changes nothing that R763 looks at. -/
theorem refused8_iff_of_write8 {a b : Half} {v w : Byte} {s t : State} (ht : write8 a v s = .next t) :
    Refused8 t b w ↔ Refused8 s b w := by
  unfold Refused8
  rw [write8_params ht]

theorem sp_of_write8 {a : Half} {v : Byte} {s t : State} (ht : write8 a v s = .next t) : t.cpu8.sp = s.cpu8.sp := by
  obtain ⟨⟨-, -, -, -, -, -, -, -, hsp, -⟩, -⟩ := write8_storesOnly ht
  exact hsp

theorem load8_to_hlm {src : R8} (hs : src ≠ .hlm) (s : State) :
    load8 .hlm src s = thenRes (write8 (s.cpu8.pairOf .hl) (s.cpu8.reg src) s) (finish8 8) := by
  simp only [load8, readOperand8, writeOperand8, if_neg hs, if_true, true_or]
  rfl

/-- A store that moves no pair, in the words of those that move HL. -/
theorem storeATo_moves_zero (a : Half) (clocks : Nat) (s : State) :
    storeATo a clocks s = thenRes (write8 a s.cpu8.a s) fun t =>
      finish8 clocks (on8 (fun c => c.setPair .hl (c.pairOf .hl + 0#16)) t) := by
  simp only [setPair_pairOf_add_zero]
  rfl

theorem storeAAt_zero (p : RP) (s : State) : storeAAt p 0#16 s = storeATo (s.cpu8.pairOf p) 8 s := by
  simp only [storeAAt, setPair_pairOf_add_zero]
  rfl

/-- Settles O3: each row is `write8` and its ending, and `write8` completes where R763 does not refuse it. -/
theorem cpu8MemoryStores : Obligations.Cpu8MemoryStores := by
  refine ⟨fun src s hs h => ?_, fun n s h => thenRes_write8 h (finish8 12), fun i a delta s hrow h => ?_,
    fun nn s h => thenRes_write8 h (finish8 16), fun n s h => ?_, fun nn s hlo hhi => ?_⟩
  · rw [exec_ldInstr s (.inr hs), load8_to_hlm hs]
    exact thenRes_write8 h (finish8 8)
  · obtain ⟨t, ht, hthen⟩ := thenRes_write8 h fun t =>
      finish8 8 (on8 (fun c => c.setPair .hl (c.pairOf .hl + delta)) t)
    refine ⟨t, ht, Eq.trans ?_ hthen⟩
    simp only [List.mem_cons, Prod.mk.injEq, List.not_mem_nil, or_false] at hrow
    obtain ⟨rfl, rfl, rfl⟩ | ⟨rfl, rfl, rfl⟩ | ⟨rfl, rfl, rfl⟩ | ⟨rfl, rfl, rfl⟩ | ⟨rfl, rfl, rfl⟩ := hrow
    · exact (storeAAt_zero .bc s).trans (storeATo_moves_zero _ 8 s)
    · exact (storeAAt_zero .de s).trans (storeATo_moves_zero _ 8 s)
    · rw [← append_ff]
      exact storeATo_moves_zero _ 8 s
    · rfl
    · rfl
  · rw [← append_ff] at h ⊢
    exact thenRes_write8 h (finish8 12)
  · obtain ⟨t, ht, hthen⟩ := thenRes_write8 hlo fun t =>
      thenRes (write8 (nn + 1) (hiByte t.cpu8.sp) t) (finish8 20)
    obtain ⟨u, hu, hthen'⟩ := thenRes_write8 (mt (refused8_iff_of_write8 ht).mp hhi) (finish8 20)
    refine ⟨t, u, ht, hu, hthen.trans ?_⟩
    rw [sp_of_write8 ht, hthen']
    rfl

end Sys2Proof.Proofs
end

section
/-! PROOFS. The CPU-8 stack: PUSH, POP, and what was pushed popped again (R300, R320, R325, R326). -/

namespace Sys2Proof.Proofs

open Sys2Proof.Machine Sys2Proof.Claims

/-! Pairs on the stack (R326). -/

theorem pair_loByte_masked (v : Half) : pair (hiByte v) (loByte v &&& 0xF0#8) = v &&& 0xFFF0#16 := by
  calc pair (hiByte v) (loByte v &&& 0xF0#8)
      = pair (hiByte v &&& BitVec.allOnes 8) (loByte v &&& 0xF0#8) := by rw [BitVec.and_allOnes]
    _ = pair (hiByte v) (loByte v) &&& pair (BitVec.allOnes 8) 0xF0#8 := BitVec.and_append.symm
    _ = v &&& 0xFFF0#16 := by rw [pair_hiByte_loByte]; rfl

/-- The register pair after a pop of `v`, whatever SP is: `v`, but for the low nibble of F. -/
theorem stackPair_setStackPair (c : Cpu8) (q : QQ) (v sp : Half) :
    { c.setStackPair q v with sp := sp }.stackPair q = if q = .af then v &&& 0xFFF0#16 else v := by
  cases q with
  | af => exact pair_loByte_masked v
  | _ => exact pair_hiByte_loByte v

theorem sp_sub_two (sp : Half) : sp - 1 - 1 = sp - 2 := by bv_omega

/-! Push and pop (R300). -/

/-- A push is two writes, and completes where R763 refuses neither. -/
theorem push16_next {v : Half} {s : State} (h : Pushes8 s v) : ∃ t, push16 v s = .next t := by
  obtain ⟨hhi, hlo⟩ := h
  obtain ⟨t, ht, hthen⟩ := thenRes_write8 (s := on8 (fun c => { c with sp := c.sp - 1 }) s) hhi fun t =>
    write8 (t.cpu8.sp - 1) (loByte v) (on8 (fun c => { c with sp := c.sp - 1 }) t)
  have hsp : t.cpu8.sp - 1 = s.cpu8.sp - 2 := by
    rw [sp_of_write8 ht]
    exact sp_sub_two _
  obtain ⟨u, hu⟩ := (write8_next_iff (s.cpu8.sp - 2) (loByte v) (on8 (fun c => { c with sp := c.sp - 1 }) t)).mpr
    (mt (refused8_iff_of_write8 ht).mp hlo)
  rw [← hsp] at hu
  exact ⟨u, hthen.trans hu⟩

theorem pop16_cpu8 (s : State) : (pop16 s).2.cpu8 = { s.cpu8 with sp := s.cpu8.sp + 2 } := by
  simp [pop16, BitVec.add_assoc]

theorem pop16_cycles (s : State) : (pop16 s).2.cycles = s.cycles := by simp [pop16]

theorem popPair_next (q : QQ) (s : State) : popPair q s = .next { (pop16 s).2 with
    cpu8 := { s.cpu8.setStackPair q (pop16 s).1 with sp := s.cpu8.sp + 2 }, cycles := s.cycles + 12 } := by
  simp only [popPair, finish8, charge, on8, pop16_cpu8, pop16_cycles]
  cases q <;> rfl

/-! A stack in core memory. -/

/-- A key of core memory holds its address, with the echo of 0xE000 moved down (R115), in its low 16 bits. -/
theorem place8_cell_mod {color : Bool} {c : Cpu8} {a : Half} {k : Nat} (h : place8 color c a = .cell k) :
    k % 0x10000 = if 0xE000 ≤ a.toNat ∧ a.toNat < 0xFE00 then a.toNat - 0x2000 else a.toNat := by
  have ha := a.isLt
  unfold place8 wramKey at h
  dsimp only at h
  split_ifs at h ⊢ <;> simp only [Place8.cell.injEq] at h <;> omega

theorem place8_cell_ne_next {color : Bool} {c : Cpu8} {a : Half} {k k' : Nat}
    (h : place8 color c a = .cell k) (h' : place8 color c (a + 1) = .cell k') : k ≠ k' := by
  rintro rfl
  have hmod := (place8_cell_mod h).symm.trans (place8_cell_mod h')
  have ha := a.isLt
  have hnext : (a + 1).toNat = (a.toNat + 1) % 0x10000 := BitVec.toNat_add a 1
  rw [hnext] at hmod
  split_ifs at hmod <;> omega

/-- A pop of two bytes of core memory reads them and moves SP. -/
theorem pop16_cells {s : State} {lo hi : Nat} (hlo : place8 s.params.colorMode s.cpu8 s.cpu8.sp = .cell lo)
    (hhi : place8 s.params.colorMode s.cpu8 (s.cpu8.sp + 1) = .cell hi) :
    pop16 s = (pair (Memory.read s.cpu8.mem hi) (Memory.read s.cpu8.mem lo),
      on8 (fun c => { c with sp := c.sp + 2 }) s) := by
  have hread := read8_cell (s := on8 (fun c => { c with sp := c.sp + 1 }) s) (key := hi) hhi
  simp only [pop16, read8_cell hlo, on8_cpu8, hread]
  simp [on8, BitVec.add_assoc]

/-- The state after a push into the core memory bytes k1 (high) and k2 (low). -/
def pushedCells (v : Half) (k1 k2 : Nat) (s : State) : State :=
  on8 (fun c => { c with
    sp := c.sp - 2, mem := Memory.write (Memory.write c.mem k1 (hiByte v)) k2 (loByte v) }) s

theorem pushedCells_low {s : State} (hm : Memory.wf s.cpu8.mem = true) (v : Half) (k1 k2 : Nat) :
    Memory.read (pushedCells v k1 k2 s).cpu8.mem k2 = loByte v := Memory.read_write_same k2 _ (Memory.wf_write k1 _ hm)

theorem pushedCells_other {s : State} (hm : Memory.wf s.cpu8.mem = true) (v : Half) {k1 k2 k : Nat} (hk : k ≠ k2) :
    Memory.read (pushedCells v k1 k2 s).cpu8.mem k = Memory.read (Memory.write s.cpu8.mem k1 (hiByte v)) k :=
  Memory.read_write_ne _ (Memory.wf_write k1 _ hm) hk

theorem pushedCells_high {s : State} (hm : Memory.wf s.cpu8.mem = true) (v : Half) {k1 k2 : Nat} (h : k1 ≠ k2) :
    Memory.read (pushedCells v k1 k2 s).cpu8.mem k1 = hiByte v := by
  rw [pushedCells_other hm v h, Memory.read_write_same k1 _ hm]

section
variable {s : State} {k1 k2 : Nat} (h1 : place8 s.params.colorMode s.cpu8 (s.cpu8.sp - 1) = .cell k1)
  (h2 : place8 s.params.colorMode s.cpu8 (s.cpu8.sp - 2) = .cell k2)
include h1 h2

theorem push16_cells (v : Half) : push16 v s = .next (pushedCells v k1 k2 s) := by
  have hhi := write8_cell (s := on8 (fun c => { c with sp := c.sp - 1 }) s) (v := hiByte v) (key := k1) h1
  rw [← sp_sub_two] at h2
  simp only [push16, on8_cpu8, hhi, thenRes_next, pushedCells, ← sp_sub_two]
  exact write8_cell (key := k2) h2

theorem stack_cells_ne : k1 ≠ k2 :=
  .symm <| place8_cell_ne_next h2 (by rwa [← sp_sub_two, BitVec.sub_add_cancel])

/-- Where the map leads depends on the bank registers alone, so the bytes pushed are those that a pop reads. -/
theorem pop16_pushedCells (hm : Memory.wf s.cpu8.mem = true) (v : Half) :
    pop16 (pushedCells v k1 k2 s) =
      (v, { pushedCells v k1 k2 s with cpu8 := { (pushedCells v k1 k2 s).cpu8 with sp := s.cpu8.sp } }) := by
  have hhi : place8 s.params.colorMode s.cpu8 (s.cpu8.sp - 2 + 1) = .cell k1 := by
    rwa [← sp_sub_two, BitVec.sub_add_cancel]
  rw [pop16_cells (s := pushedCells v k1 k2 s) (lo := k2) (hi := k1) h2 hhi,
    pushedCells_high hm v (stack_cells_ne h1 h2), pushedCells_low hm, pair_hiByte_loByte]
  simp only [pushedCells, on8, BitVec.sub_add_cancel]

end

/-- Settles O4: a push is two writes and a pop two reads, in core memory of two different bytes. -/
theorem cpu8Stack : Obligations.Cpu8Stack := by
  refine ⟨fun q s h => ?_, fun q s => ?_, fun v s k1 k2 hm h1 h2 => ?_⟩
  · obtain ⟨t, ht⟩ := push16_next h
    refine ⟨t, ht, ?_⟩
    rw [exec_pushInstr, pushPair, ht]
    rfl
  · exact ⟨_, (exec_popInstr q s).trans (popPair_next q s), rfl, rfl, stackPair_setStackPair s.cpu8 q _ _, rfl⟩
  · refine ⟨pushedCells v k1 k2 s, push16_cells h1 h2 v, rfl, pushedCells_high hm v (stack_cells_ne h1 h2),
      pushedCells_low hm v k1 k2, fun k hk1 hk2 => ?_, pop16_pushedCells h1 h2 hm v⟩
    rw [pushedCells_other hm v hk2, Memory.read_write_ne _ hm hk1]

end Sys2Proof.Proofs
end

section
/-! PROOFS. The CPU-8 operations on A, and INC and DEC (R350 to R362). -/

namespace Sys2Proof.Proofs

open Sys2Proof.Machine Sys2Proof.Claims

/-! The flag byte (R32). -/

theorem flags8_mkF {bz bn bh bc : Bool} {z n h c : Prop} (hz : bz = true ↔ z) (hn : bn = true ↔ n) (hh : bh = true ↔ h)
    (hc : bc = true ↔ c) : Flags8 (mkF bz bn bh bc &&& 0xF0#8) z n h c := by
  rw [mkF_high]
  exact ⟨by rwa [mkF_z], by rwa [mkF_n], by rwa [mkF_h], by rwa [mkF_c], mkF_low bz bn bh bc⟩

theorem addResult_flags (a b : Byte) (c : Bool) :
    Flags8 ((addResult a b c).2 &&& 0xF0#8) ((addResult a b c).1.toNat = 0) False
      (a.toNat % 16 + b.toNat % 16 + carryNat c > 0xF) (a.toNat + b.toNat + carryNat c > 0xFF) :=
  flags8_mkF (byte_eq_zero _) Bool.false_eq_true.to_iff decide_eq_true_iff decide_eq_true_iff

theorem subResult_flags (a b : Byte) (c : Bool) :
    Flags8 ((subResult a b c).2 &&& 0xF0#8) ((subResult a b c).1.toNat = 0) True
      (a.toNat % 16 < b.toNat % 16 + carryNat c) (a.toNat < b.toNat + carryNat c) :=
  flags8_mkF (byte_eq_zero _) (iff_true_intro rfl) decide_eq_true_iff decide_eq_true_iff

theorem logicResult_flags (r : Byte) {h : Bool} {p : Prop} (hp : h = true ↔ p) :
    Flags8 ((logicResult r h).2 &&& 0xF0#8) (r = 0#8) False p False :=
  flags8_mkF beq_iff_eq Bool.false_eq_true.to_iff hp Bool.false_eq_true.to_iff

theorem carryNat_false : carryNat false = 0 := rfl

theorem subResult_toNat_no_borrow (a b : Byte) :
    (subResult a b false).1.toNat = (a.toNat + 256 - b.toNat) % 256 := by
  have hb := b.isLt
  rw [subResult_toNat, carryNat_false]
  omega

/-- CP finds its operands equal where their difference is 0 (R358). -/
theorem subResult_eq_zero_iff (a b : Byte) : (subResult a b false).1.toNat = 0 ↔ a = b := by
  have ha := a.isLt
  have hb := b.isLt
  rw [subResult_toNat_no_borrow, BitVec.toNat_eq]
  omega

/-! The eight operations (R350 to R358). -/

/-- CP gives a difference only to the flags: A stays. -/
theorem aluResult8_rule (op : Alu8) (a b f : Byte) :
    AluRule op a b f (if op = .cp then a else (aluResult8 op a b f).1) ((aluResult8 op a b f).2 &&& 0xF0#8) := by
  cases op with
  | add => exact ⟨addResult_toNat a b false, addResult_flags a b false⟩
  | adc => exact ⟨addResult_toNat a b (flagC f), addResult_flags a b (flagC f)⟩
  | sub => exact ⟨subResult_toNat_no_borrow a b, subResult_flags a b false⟩
  | sbc => exact ⟨subResult_toNat a b (flagC f), subResult_flags a b (flagC f)⟩
  | and => exact ⟨rfl, logicResult_flags (a &&& b) (iff_true_intro rfl)⟩
  | xor => exact ⟨rfl, logicResult_flags (a ^^^ b) Bool.false_eq_true.to_iff⟩
  | or => exact ⟨rfl, logicResult_flags (a ||| b) Bool.false_eq_true.to_iff⟩
  | cp =>
    refine ⟨rfl, ?_⟩
    rw [← subResult_eq_zero_iff]
    exact subResult_flags a b false

theorem setAlu_eq (c : Cpu8) (op : Alu8) (r : Byte × Byte) :
    c.setAlu op r = { c with a := if op = .cp then c.a else r.1, f := r.2 &&& 0xF0#8 } := by
  unfold Cpu8.setAlu
  split <;> rfl

theorem alu8_next (op : Alu8) (k : R8) (s : State) :
    alu8 op k s = .next { (readOperand8 k s).2 with
      cpu8 := s.cpu8.setAlu op (aluResult8 op s.cpu8.a (readOperand8 k s).1 s.cpu8.f)
      cycles := s.cycles + (if k = .hlm then 8 else 4) } := by
  simp only [alu8, finish8, charge, on8, readOperand8_cpu8, readOperand8_cycles]

theorem alu8Imm_next (op : Alu8) (n : Byte) (s : State) :
    alu8Imm op n s = .next { s with
      cpu8 := s.cpu8.setAlu op (aluResult8 op s.cpu8.a n s.cpu8.f), cycles := s.cycles + 8 } := rfl

/-- The opcodes `10 ooo sss` (R350). -/
theorem decode8_aluInstr (op : Alu8) (k : R8) (rest : List Byte) :
    decode8 (BitVec.ofNat 8 (0x80 + 8 * op.code + k.code) :: rest) = .ok (aluInstr op k, rest) := by
  cases op <;> cases k <;> rfl

/-- The opcodes `11 ooo 110` (R350). -/
theorem decode8_aluImmInstr (op : Alu8) (n : Byte) (rest : List Byte) :
    decode8 (BitVec.ofNat 8 (0xC6 + 8 * op.code) :: n :: rest) = .ok (aluImmInstr op n, rest) := by
  cases op <;> rfl

/-- Settles O5: each row is `aluResult8`, whose result and flags are those of the rules on numbers. -/
theorem cpu8AluOnA : Obligations.Cpu8AluOnA := by
  refine ⟨fun op k s => ⟨_, (exec_aluInstr op k s).trans (alu8_next op k s), ?_, ?_⟩,
    fun op n s => ⟨_, (exec_aluImmInstr op n s).trans (alu8Imm_next op n s), ?_, ?_⟩,
    decode8_aluInstr, decode8_aluImmInstr⟩
  · simp only [setAlu_eq]
    exact aluResult8_rule op _ _ _
  · simp only [setAlu_eq]
  · simp only [setAlu_eq]
    exact aluResult8_rule op _ _ _
  · simp only [setAlu_eq]

/-! INC and DEC (R359 to R362). -/

theorem hAdd_one (a : Byte) : hAdd a 1 false = true ↔ a.toNat % 16 = 15 := by
  have hone : (1 : Byte).toNat = 1 := rfl
  rw [hAdd, decide_eq_true_iff, hone, carryNat_false]
  omega

theorem hSub_one (a : Byte) : hSub a 1 false = true ↔ a.toNat % 16 = 0 := by
  have hone : (1 : Byte).toNat = 1 := rfl
  rw [hSub, decide_eq_true_iff, hone, carryNat_false]
  omega

theorem incResult_flags (a f : Byte) {z : Prop} (hz : a + 1 = 0#8 ↔ z) :
    Flags8 ((incResult a f).2 &&& 0xF0#8) z False (a.toNat % 16 = 15) (f.getLsbD 4 = true) :=
  flags8_mkF (beq_iff_eq.trans hz) Bool.false_eq_true.to_iff (hAdd_one a) Iff.rfl

theorem decResult_flags (a f : Byte) {z : Prop} (hz : a - 1 = 0#8 ↔ z) :
    Flags8 ((decResult a f).2 &&& 0xF0#8) z True (a.toNat % 16 = 0) (f.getLsbD 4 = true) :=
  flags8_mkF (beq_iff_eq.trans hz) (iff_true_intro rfl) (hSub_one a) Iff.rfl

/-- The shape of INC and DEC: an operand is read, and a result made of it and of F is written back, with its flags. -/
def updateOperand8 (g : Byte → Byte → Byte × Byte) (clocks : Nat) (k : R8) (s : State) : Res :=
  let a := readOperand8 k s
  let r := g a.1 a.2.cpu8.f
  thenRes (writeOperand8 k r.1 a.2) fun t => finish8 clocks (on8 (fun c => c.setF r.2) t)

theorem inc8_eq_updateOperand8 (k : R8) (s : State) :
    inc8 k s = updateOperand8 incResult (if k = .hlm then 12 else 4) k s := rfl

theorem dec8_eq_updateOperand8 (k : R8) (s : State) :
    dec8 k s = updateOperand8 decResult (if k = .hlm then 12 else 4) k s := rfl

theorem setF_reg (c : Cpu8) (f : Byte) (k : R8) : (c.setF f).reg k = c.reg k := by cases k <;> rfl

/-- On a register. The register holds the result, which is the whole of the state's change but for F. -/
theorem updateOperand8_reg (g : Byte → Byte → Byte × Byte) (clocks : Nat) {k : R8} (hk : k ≠ .hlm) (s : State) :
    ∃ t, updateOperand8 g clocks k s = .next t ∧ t.cpu8.reg k = (g (s.cpu8.reg k) s.cpu8.f).1 ∧
      t.cpu8.f = (g (s.cpu8.reg k) s.cpu8.f).2 &&& 0xF0#8 ∧
      t = { s with cpu8 := { s.cpu8.setReg k (t.cpu8.reg k) with f := t.cpu8.f }, cycles := s.cycles + clocks } := by
  have hreg : ∀ (v f : Byte), ((s.cpu8.setReg k v).setF f).reg k = v := fun v f =>
    (setF_reg _ f k).trans (reg_setReg_same s.cpu8 k v hk)
  refine ⟨{ s with cpu8 := (s.cpu8.setReg k (g (s.cpu8.reg k) s.cpu8.f).1).setF (g (s.cpu8.reg k) s.cpu8.f).2
                   cycles := s.cycles + clocks }, ?_, hreg _ _, rfl, ?_⟩
  · simp only [updateOperand8, readOperand8, writeOperand8, if_neg hk, thenRes_next]
    rfl
  · simp only [hreg]
    rfl

/-- On the byte at HL, where R763 does not refuse the write. -/
theorem updateOperand8_hlm (g : Byte → Byte → Byte × Byte) (clocks : Nat) {s s1 : State} {v : Byte}
    (hread : read8 (s.cpu8.pairOf .hl) s = (v, s1)) (h : ¬ Refused8 s (s.cpu8.pairOf .hl) (g v s.cpu8.f).1) :
    ∃ s2, write8 (s.cpu8.pairOf .hl) (g v s.cpu8.f).1 s1 = .next s2 ∧
      updateOperand8 g clocks .hlm s = .next { s2 with
        cpu8 := { s2.cpu8 with f := (g v s.cpu8.f).2 &&& 0xF0#8 }, cycles := s2.cycles + clocks } := by
  have hcpu : s1.cpu8 = s.cpu8 := by simpa only [hread] using read8_cpu8 (s.cpu8.pairOf .hl) s
  have hparams : s1.params = s.params := by simpa only [hread] using read8_params (s.cpu8.pairOf .hl) s
  have hhl : s.cpu8.hl = s.cpu8.pairOf .hl := rfl
  have hunrefused : ¬ Refused8 s1 (s.cpu8.pairOf .hl) (g v s.cpu8.f).1 := by rwa [Refused8, hparams]
  obtain ⟨s2, hs2, hthen⟩ := thenRes_write8 hunrefused fun t =>
    finish8 clocks (on8 (fun c => c.setF (g v s.cpu8.f).2) t)
  refine ⟨s2, hs2, Eq.trans ?_ hthen⟩
  simp only [updateOperand8, readOperand8, writeOperand8, if_true, hhl, hread, hcpu]

/-- Settles O6: INC and DEC write back `incResult` and `decResult` of the operand, which keep C. -/
theorem cpu8IncDec : Obligations.Cpu8IncDec := by
  refine ⟨fun k s hk => ?_, fun k s hk => ?_, fun s v s1 hread h => ?_, fun s v s1 hread h => ?_⟩
  · obtain ⟨t, ht, hreg, hf, hstate⟩ := updateOperand8_reg incResult 4 hk s
    refine ⟨t, ?_, ?_, ?_, hstate⟩
    · rw [exec_incInstr, inc8_eq_updateOperand8, if_neg hk, ht]
    · rw [hreg]
      exact BitVec.toNat_add _ 1
    · rw [hreg, hf]
      exact incResult_flags _ _ Iff.rfl
  · obtain ⟨t, ht, hreg, hf, hstate⟩ := updateOperand8_reg decResult 4 hk s
    refine ⟨t, ?_, ?_, ?_, hstate⟩
    · rw [exec_decInstr, dec8_eq_updateOperand8, if_neg hk, ht]
    · rw [hreg, Nat.add_comm]
      exact BitVec.toNat_sub _ 1
    · rw [hreg, hf]
      exact decResult_flags _ _ Iff.rfl
  · obtain ⟨s2, hs2, hexec⟩ := updateOperand8_hlm incResult 12 hread h
    exact ⟨s2, _, hs2, incResult_flags v s.cpu8.f (by bv_omega), hexec⟩
  · obtain ⟨s2, hs2, hexec⟩ := updateOperand8_hlm decResult 12 hread h
    exact ⟨s2, _, hs2, decResult_flags v s.cpu8.f (by bv_omega), hexec⟩

end Sys2Proof.Proofs
end

section
/-! PROOFS. The CPU-8 16-bit arithmetic, and the one-byte operations on A and the flags (R363 to R374). -/

namespace Sys2Proof.Proofs

open Sys2Proof.Machine Sys2Proof.Claims

/-! 16-bit arithmetic (R363 to R366). -/

theorem addHlResult_flags (a b : Half) (f : Byte) :
    Flags8 ((addHlResult a b f).2 &&& 0xF0#8) (f.getLsbD 7 = true) False
      (a.toNat % 0x1000 + b.toNat % 0x1000 > 0xFFF) (a.toNat + b.toNat > 0xFFFF) :=
  flags8_mkF Iff.rfl Bool.false_eq_true.to_iff decide_eq_true_iff decide_eq_true_iff

theorem pairOf_setF (c : Cpu8) (p : RP) (f : Byte) : (c.setF f).pairOf p = c.pairOf p := by cases p <;> rfl

theorem exec_addHlInstr_next (p : RP) (s : State) : exec (addHlInstr p) s = .next { s with
    cpu8 := (s.cpu8.setPair .hl (s.cpu8.pairOf .hl + s.cpu8.pairOf p)).setF
      (addHlResult (s.cpu8.pairOf .hl) (s.cpu8.pairOf p) s.cpu8.f).2
    cycles := s.cycles + 8 } := exec_addHlInstr p s

theorem exec_addSp (e : Byte) (s : State) : exec (.add_sp_e e) s = .next { s with
    cpu8 := { s.cpu8 with sp := s.cpu8.sp + e.signExtend 16 }.setF (addSpResult s.cpu8.sp e).2
    cycles := s.cycles + 16 } := rfl

/-- Settles O7: each row writes a sum, and the flags of `addHlResult` and `addSpResult`. -/
theorem cpu8WordArithmetic : Obligations.Cpu8WordArithmetic := by
  refine ⟨fun p s => ⟨_, exec_addHlInstr_next p s, ?_, addHlResult_flags _ _ _, ?_⟩, exec_incPairInstr,
    exec_decPairInstr, fun e s => ⟨_, exec_addSp e s, add_signExtend_toNat _ e, addSpResult_flags _ e, rfl⟩⟩
  · rw [pairOf_setF, pairOf_setPair_same]
    exact BitVec.toNat_add _ _
  · simp only [pairOf_setF, pairOf_setPair_same]
    rfl

/-! DAA (R367). -/

theorem daaCorrection_toNat (a f : Byte) : (daaCorrection a f).toNat =
    (if f.getLsbD 4 = true ∨ (f.getLsbD 6 = false ∧ a.toNat > 0x99) then 0x60 else 0) +
      (if f.getLsbD 5 = true ∨ (f.getLsbD 6 = false ∧ a.toNat % 16 > 9) then 6 else 0) := by
  unfold daaCorrection flagN flagC flagH
  cases f.getLsbD 6 with
  | false =>
    simp only [Bool.false_eq_true, if_false, true_and]
    split_ifs <;> rfl
  | true =>
    simp only [if_true, reduceCtorEq, false_and, or_false]
    split_ifs <;> rfl

theorem daaResult_toNat (a f : Byte) : (daaResult a f).1.toNat =
    (if f.getLsbD 6 then a.toNat + 256 - (daaCorrection a f).toNat else a.toNat + (daaCorrection a f).toNat) % 256 := by
  have hcorr := (daaCorrection a f).isLt
  unfold daaResult flagN
  cases f.getLsbD 6 with
  | false => exact BitVec.toNat_add _ _
  | true =>
    refine (BitVec.toNat_sub _ _).trans (congrArg (· % 256) ?_)
    simp only [if_true]
    omega

theorem daaResult_flags (a f : Byte) :
    Flags8 ((daaResult a f).2 &&& 0xF0#8) ((daaResult a f).1 = 0#8) (f.getLsbD 6 = true) False
      ((daaCorrection a f).toNat ≥ 0x60) :=
  flags8_mkF beq_iff_eq Iff.rfl Bool.false_eq_true.to_iff decide_eq_true_iff

theorem exec_daa (s : State) : exec .daa s = .next { s with
    cpu8 := s.cpu8.setAF (daaResult s.cpu8.a s.cpu8.f).1 (daaResult s.cpu8.a s.cpu8.f).2
    cycles := s.cycles + 4 } := rfl

/-! Rotates of one byte (R371 to R374, R401 to R408). -/

theorem getElem_bit0 (b : Bool) {i : Nat} (hi : i < 8) : (bit0 b)[i] = (decide (i = 0) && b) := by
  cases b <;> simp [bit0]

theorem getElem_bit7 (b : Bool) {i : Nat} (hi : i < 8) : (bit7 b)[i] = (decide (i = 7) && b) := by
  cases b with
  | false => simp [bit7]
  | true =>
    revert i
    decide

/-- Each result, bit by bit. -/
theorem rotResult_rule (op : Rot8) (v : Byte) (c : Bool) :
    RotRule op v c (rotResult op v c).1 (rotResult op v c).2 := by
  cases op <;> simp [RotRule, rotResult, Fin.forall_fin_succ, getElem_bit0, getElem_bit7]

theorem rotateA_next (op : Rot8) (s : State) : rotateA op s = .next { s with
    cpu8 := s.cpu8.setAF (rotResult op s.cpu8.a (flagC s.cpu8.f)).1
      (mkF false false false (rotResult op s.cpu8.a (flagC s.cpu8.f)).2)
    cycles := s.cycles + 4 } := rfl

/-! DAA after a sum or a difference of two BCD numbers (R351, R353, R367). -/

theorem bcd_toNat {n : Nat} (hn : n < 100) : (bcd n).toNat = n / 10 * 16 + n % 10 := by
  have htens : n / 10 % 10 = n / 10 := by omega
  rw [bcd, BitVec.toNat_ofNat, htens]
  omega

theorem aluResult8_high (op : Alu8) (a b f : Byte) : (aluResult8 op a b f).2 &&& 0xF0#8 = (aluResult8 op a b f).2 := by
  cases op <;> exact mkF_high _ _ _ _

theorem daaResult_high (a f : Byte) : (daaResult a f).2 &&& 0xF0#8 = (daaResult a f).2 := mkF_high _ _ _ _

/-- An operation with an immediate, and then DAA, on A and F. -/
theorem exec_aluImm_daa {op : Alu8} (hop : op ≠ .cp) (n : Byte) (s : State) {r : Byte × Byte}
    (hr : aluResult8 op s.cpu8.a n s.cpu8.f = r) :
    ∃ t u, exec (aluImmInstr op n) s = .next t ∧ exec .daa t = .next u ∧
      u.cpu8.a = (daaResult r.1 r.2).1 ∧ u.cpu8.f = (daaResult r.1 r.2).2 := by
  subst hr
  refine ⟨_, _, (exec_aluImmInstr op n s).trans (alu8Imm_next op n s), exec_daa _, ?_⟩
  simp only [setAlu_eq, if_neg hop, aluResult8_high, Cpu8.setAF, Cpu8.setF, daaResult_high, and_self]

theorem daaCorrection_mkF (a : Byte) (z n h c : Bool) : (daaCorrection a (mkF z n h c)).toNat =
    (if c = true ∨ (n = false ∧ a.toNat > 0x99) then 0x60 else 0) +
      (if h = true ∨ (n = false ∧ a.toNat % 16 > 9) then 6 else 0) := by
  rw [daaCorrection_toNat, mkF_c, mkF_n, mkF_h]

/-- The low digit of a sum is corrected where the low digits carry, the high one where the numbers do: there the binary
sum is above 0x99, whether or not it leaves the byte. -/
theorem daaCorrection_bcd_add {x y : Nat} (hx : x < 100) (hy : y < 100) :
    (daaCorrection (addResult (bcd x) (bcd y) false).1 (addResult (bcd x) (bcd y) false).2).toNat =
      (if 100 ≤ x + y then 0x60 else 0) + (if 10 ≤ x % 10 + y % 10 then 6 else 0) := by
  have habove : ∀ n : Nat, (n > 0xFF ∨ n % 256 > 0x99) ↔ n > 0x99 := by omega
  have htens : x + y < 100 → x / 10 + y / 10 ≤ 9 := by omega
  refine (daaCorrection_mkF _ _ _ _ _).trans (congrArg₂ (· + ·) (if_congr ?_ rfl rfl) (if_congr ?_ rfl rfl)) <;>
    simp only [addResult_toNat, cAdd, hAdd, decide_eq_true_iff, carryNat_false, bcd_toNat hx, bcd_toNat hy,
      true_and, habove] <;>
    omega

/-- The digits of a difference are corrected where the low digits borrow, and where the numbers do. -/
theorem daaCorrection_bcd_sub {x y : Nat} (hx : x < 100) (hy : y < 100) :
    (daaCorrection (subResult (bcd x) (bcd y) false).1 (subResult (bcd x) (bcd y) false).2).toNat =
      (if x < y then 0x60 else 0) + (if x % 10 < y % 10 then 6 else 0) := by
  refine (daaCorrection_mkF _ _ _ _ _).trans (congrArg₂ (· + ·) (if_congr ?_ rfl rfl) (if_congr ?_ rfl rfl)) <;>
    simp only [cSub, hSub, decide_eq_true_iff, carryNat_false, bcd_toNat hx, bcd_toNat hy, reduceCtorEq,
      false_and, or_false] <;>
    omega

theorem daaResult_bcd_add {x y : Nat} (hx : x < 100) (hy : y < 100) :
    (daaResult (addResult (bcd x) (bcd y) false).1 (addResult (bcd x) (bcd y) false).2).1 = bcd ((x + y) % 100) := by
  have hn : (addResult (bcd x) (bcd y) false).2.getLsbD 6 = false := mkF_n _ _ _ _
  apply BitVec.eq_of_toNat_eq
  rw [daaResult_toNat, hn, daaCorrection_bcd_add hx hy, addResult_toNat, bcd_toNat hx, bcd_toNat hy,
    bcd_toNat (Nat.mod_lt _ (by decide))]
  simp only [carryNat_false, Bool.false_eq_true, if_false]
  split_ifs <;> omega

theorem daaResult_bcd_sub {x y : Nat} (hx : x < 100) (hy : y < 100) :
    (daaResult (subResult (bcd x) (bcd y) false).1 (subResult (bcd x) (bcd y) false).2).1 =
      bcd ((x + 100 - y) % 100) := by
  have hn : (subResult (bcd x) (bcd y) false).2.getLsbD 6 = true := mkF_n _ _ _ _
  apply BitVec.eq_of_toNat_eq
  rw [daaResult_toNat, hn, daaCorrection_bcd_sub hx hy, subResult_toNat_no_borrow, bcd_toNat hx, bcd_toNat hy,
    bcd_toNat (Nat.mod_lt _ (by decide))]
  simp only [if_true]
  split_ifs <;> omega

theorem daaResult_carry (a f : Byte) : (daaResult a f).2.getLsbD 4 = true ↔ (daaCorrection a f).toNat ≥ 0x60 := by
  rw [daaResult, mkF_c, decide_eq_true_iff]

/-- Settles O8: each row is its own flag byte and result, and DAA corrects each digit that carries or borrows. -/
theorem cpu8AccumulatorFlags : Obligations.Cpu8AccumulatorFlags := by
  refine ⟨fun s => ⟨_, _, exec_daa s, daaCorrection_toNat _ _, daaResult_toNat _ _, daaResult_flags _ _, rfl⟩,
    fun s => ⟨_, rfl, rfl, flags8_mkF Iff.rfl (iff_true_intro rfl) (iff_true_intro rfl) Iff.rfl, rfl⟩,
    fun s => ⟨_, rfl, flags8_mkF Iff.rfl Bool.false_eq_true.to_iff Bool.false_eq_true.to_iff (iff_true_intro rfl), rfl⟩,
    fun s => ⟨_, rfl, flags8_mkF Iff.rfl Bool.false_eq_true.to_iff Bool.false_eq_true.to_iff
      (Bool.not_eq_true' _).to_iff, rfl⟩,
    fun i op s hrow => ?_, fun x y s hx hy ha => ?_, fun x y s hx hy ha => ?_⟩
  · have hexec : exec i s = rotateA op s := by
      simp only [List.mem_cons, Prod.mk.injEq, List.not_mem_nil, or_false] at hrow
      obtain ⟨rfl, rfl⟩ | ⟨rfl, rfl⟩ | ⟨rfl, rfl⟩ | ⟨rfl, rfl⟩ := hrow <;> rfl
    exact ⟨_, _, hexec.trans (rotateA_next op s), rotResult_rule op _ _,
      flags8_mkF Bool.false_eq_true.to_iff Bool.false_eq_true.to_iff Bool.false_eq_true.to_iff Iff.rfl, rfl⟩
  · obtain ⟨t, u, ht, hu, hua, huf⟩ := exec_aluImm_daa (op := .add) nofun (bcd y) s
      (congrArg (addResult · (bcd y) false) ha)
    refine ⟨t, u, ht, hu, hua.trans (daaResult_bcd_add hx hy), ?_⟩
    rw [huf, daaResult_carry, daaCorrection_bcd_add hx hy]
    split_ifs <;> omega
  · obtain ⟨t, u, ht, hu, hua, huf⟩ := exec_aluImm_daa (op := .sub) nofun (bcd y) s
      (congrArg (subResult · (bcd y) false) ha)
    refine ⟨t, u, ht, hu, hua.trans (daaResult_bcd_sub hx hy), ?_⟩
    rw [huf, daaResult_carry, daaCorrection_bcd_sub hx hy]
    split_ifs <;> omega

end Sys2Proof.Proofs
end

section
/-! PROOFS. The CPU-8 CB table: rotates and shifts, BIT, RES and SET (R205, R400 to R411). -/

namespace Sys2Proof.Proofs

open Sys2Proof.Machine Sys2Proof.Claims

/-! An operand that is read, and a result written back to it (R300, R763). -/

/-- The read leaves HL, so the result goes to the address that was read. -/
theorem thenRes_writeBack_hlm {s s1 : State} {v r : Byte} (hread : read8 (s.cpu8.pairOf .hl) s = (v, s1))
    (h : ¬ Refused8 s (s.cpu8.pairOf .hl) r) (next : State → Res) :
    ∃ s2, write8 (s.cpu8.pairOf .hl) r s1 = .next s2 ∧ thenRes (writeOperand8 .hlm r s1) next = next s2 := by
  have hcpu : s1.cpu8 = s.cpu8 := by simpa only [hread] using read8_cpu8 (s.cpu8.pairOf .hl) s
  have hparams : s1.params = s.params := by simpa only [hread] using read8_params (s.cpu8.pairOf .hl) s
  have hwrite : writeOperand8 .hlm r s1 = write8 (s.cpu8.pairOf .hl) r s1 := by
    rw [writeOperand8, if_pos rfl, hcpu]
    rfl
  rw [hwrite]
  exact thenRes_write8 (by rwa [Refused8, hparams]) next

theorem thenRes_writeBack_next {s : State} (h : ∀ r, ¬ Refused8 s (s.cpu8.pairOf .hl) r) (k : R8) (r : Byte)
    (f : State → State) :
    ∃ t, thenRes (writeOperand8 k r (readOperand8 k s).2) (fun u => .next (f u)) = .next t := by
  by_cases hk : k = .hlm
  · subst hk
    obtain ⟨t, -, ht⟩ := thenRes_writeBack_hlm (s := s) rfl (h r) fun u => .next (f u)
    exact ⟨f t, ht⟩
  · rw [writeOperand8, if_neg hk, thenRes_next]
    exact ⟨_, rfl⟩

/-! The byte 0xCB and its table (R205). -/

theorem exec_cbPrefix_eq (op2 : Byte) (s : State) : exec (.cbPrefix op2) s = cbOperation op2 s := rfl

theorem exec_decodeCb (op2 : Byte) (s : State) : exec (decodeCb op2.toNat) s = cbOperation op2 s := by
  have hblock : bits op2.toNat 7 6 < 4 := bits_lt op2.toNat 7 6
  unfold decodeCb cbOperation
  generalize bits op2.toNat 7 6 = block at hblock
  interval_cases block
  · exact exec_rotInstr _ _ s
  · exact exec_bitInstr _ _ s
  · exact exec_resInstr _ _ s
  · exact exec_setInstr _ _ s

theorem cbOperation_next (op2 : Byte) {s : State} (h : ∀ r, ¬ Refused8 s (s.cpu8.pairOf .hl) r) :
    ∃ t, cbOperation op2 s = .next t := by
  unfold cbOperation
  split
  · exact thenRes_writeBack_next h _ _ _
  · exact ⟨_, rfl⟩
  · exact thenRes_writeBack_next h _ _ _
  · exact thenRes_writeBack_next h _ _ _

theorem decode8_rotInstr (op : Rot8) (k : R8) (rest : List Byte) :
    decode8 (0xCB#8 :: BitVec.ofNat 8 (8 * op.code + k.code) :: rest) = .ok (rotInstr op k, rest) := by
  cases op <;> cases k <;> rfl

theorem decode8_bitInstr (b : BitVec 3) (k : R8) (rest : List Byte) :
    decode8 (0xCB#8 :: BitVec.ofNat 8 (0x40 + 8 * b.toNat + k.code) :: rest) = .ok (bitInstr b k, rest) := by
  revert b; apply three_bits <;> cases k <;> rfl

theorem decode8_resInstr (b : BitVec 3) (k : R8) (rest : List Byte) :
    decode8 (0xCB#8 :: BitVec.ofNat 8 (0x80 + 8 * b.toNat + k.code) :: rest) = .ok (resInstr b k, rest) := by
  revert b; apply three_bits <;> cases k <;> rfl

theorem decode8_setInstr (b : BitVec 3) (k : R8) (rest : List Byte) :
    decode8 (0xCB#8 :: BitVec.ofNat 8 (0xC0 + 8 * b.toNat + k.code) :: rest) = .ok (setInstr b k, rest) := by
  revert b; apply three_bits <;> cases k <;> rfl

/-! Rotates and shifts (R400 to R408). -/

/-- The result of a rotate or shift, and F. -/
def rotUpdate (op : Rot8) (v f : Byte) : Byte × Byte :=
  let r := rotResult op v (flagC f)
  (r.1, mkF (r.1 == 0) false false r.2)

theorem exec_rotInstr_eq_updateOperand8 (op : Rot8) (k : R8) (s : State) :
    exec (rotInstr op k) s = updateOperand8 (rotUpdate op) (if k = .hlm then 16 else 8) k s := exec_rotInstr op k s

theorem rotUpdate_rule (op : Rot8) (v f : Byte) :
    RotRule op v (f.getLsbD 4) (rotUpdate op v f).1 (rotResult op v (flagC f)).2 := rotResult_rule op v (flagC f)

theorem rotUpdate_flags (op : Rot8) (v f : Byte) :
    Flags8 ((rotUpdate op v f).2 &&& 0xF0#8) ((rotUpdate op v f).1 = 0#8) False False
      ((rotResult op v (flagC f)).2 = true) :=
  flags8_mkF beq_iff_eq Bool.false_eq_true.to_iff Bool.false_eq_true.to_iff Iff.rfl

/-- Settles O9: each row writes back `rotUpdate` of its operand, and the row of 0xCB runs its table's instruction. -/
theorem cpu8Rotates : Obligations.Cpu8Rotates := by
  refine ⟨fun op k s hk => ?_, fun op s v s1 hread => ?_, decode8_rotInstr, fun op2 s => ⟨?_, cbOperation_next op2⟩⟩
  · obtain ⟨t, ht, hreg, hf, hstate⟩ := updateOperand8_reg (rotUpdate op) 8 hk s
    refine ⟨t, (rotResult op (s.cpu8.reg k) (flagC s.cpu8.f)).2, ?_, ?_, ?_, hstate⟩
    · rw [exec_rotInstr_eq_updateOperand8, if_neg hk, ht]
    · rw [hreg]
      exact rotUpdate_rule op _ _
    · rw [hreg, hf]
      exact rotUpdate_flags op _ _
  · refine ⟨_, _, _, rotUpdate_rule op v s.cpu8.f, rotUpdate_flags op v s.cpu8.f, fun h => ?_⟩
    rw [exec_rotInstr_eq_updateOperand8]
    exact updateOperand8_hlm (rotUpdate op) 16 hread h
  · rw [exec_cbPrefix_eq, exec_decodeCb]

/-! BIT (R409). -/

theorem exec_bitInstr_next (b : BitVec 3) (k : R8) (s : State) :
    exec (bitInstr b k) s = .next { (readOperand8 k s).2 with
      cpu8 := s.cpu8.setF (mkF (!(readOperand8 k s).1.getLsbD b.toNat) false true (flagC s.cpu8.f))
      cycles := s.cycles + (if k = .hlm then 12 else 8) } := by
  rw [exec_bitInstr]
  simp only [cbBit, finish8, charge, on8, readOperand8_cpu8, readOperand8_cycles]

/-! RES and SET (R410, R411). -/

/-- The byte with bit b set or reset. -/
def withBit (set : Bool) (b : BitVec 3) (v : Byte) : Byte := if set then v ||| oneBit b else v &&& ~~~oneBit b

theorem getLsbD_oneBit (b : BitVec 3) (i : Fin 8) : (oneBit b).getLsbD i = decide (i.val = b.toNat) := by
  have hb : b.toNat < 8 := b.isLt
  rw [oneBit, ← BitVec.twoPow_eq, BitVec.getLsbD_twoPow, decide_eq_true hb, Bool.true_and]
  exact decide_eq_decide.mpr eq_comm

theorem getLsbD_withBit (set : Bool) (b : BitVec 3) (v : Byte) (i : Fin 8) :
    (withBit set b v).getLsbD i = if i.val = b.toNat then set else v.getLsbD i := by
  cases set with
  | true =>
    rw [withBit, if_pos rfl, BitVec.getLsbD_or, getLsbD_oneBit]
    split_ifs with hi <;> simp [hi]
  | false =>
    rw [withBit, if_neg Bool.false_ne_true, BitVec.getLsbD_and, BitVec.getLsbD_not, getLsbD_oneBit]
    split_ifs with hi <;> simp [hi]

theorem exec_setOrRes (set : Bool) (b : BitVec 3) (k : R8) (s : State) :
    exec (if set then setInstr b k else resInstr b k) s =
      thenRes (writeOperand8 k (withBit set b (readOperand8 k s).1) (readOperand8 k s).2)
        (finish8 (if k = .hlm then 16 else 8)) := by
  cases set with
  | true => exact exec_setInstr b k s
  | false => exact exec_resInstr b k s

theorem exec_setOrRes_reg (set : Bool) (b : BitVec 3) {k : R8} (hk : k ≠ .hlm) (s : State) :
    exec (if set then setInstr b k else resInstr b k) s = .next { s with
      cpu8 := s.cpu8.setReg k (withBit set b (s.cpu8.reg k)), cycles := s.cycles + 8 } := by
  rw [exec_setOrRes, readOperand8, writeOperand8, if_neg hk, if_neg hk, if_neg hk]
  rfl

theorem exec_setOrRes_hlm (set : Bool) (b : BitVec 3) {s s1 : State} {v : Byte}
    (hread : read8 (s.cpu8.pairOf .hl) s = (v, s1)) :
    exec (if set then setInstr b .hlm else resInstr b .hlm) s =
      thenRes (writeOperand8 .hlm (withBit set b v) s1) (finish8 16) := by
  have hoperand : readOperand8 .hlm s = (v, s1) := hread
  rw [exec_setOrRes, hoperand]
  rfl

/-- Settles O10: BIT is one read and a flag byte, and RES and SET write back `withBit` of the operand. -/
theorem cpu8Bits : Obligations.Cpu8Bits := by
  refine ⟨fun b k s => ⟨_, exec_bitInstr_next b k s, ?_, rfl⟩,
    fun set b k s hk => ⟨_, exec_setOrRes_reg set b hk s, fun i => ?_, ?_⟩,
    fun set b s v s1 hread => ⟨withBit set b v, getLsbD_withBit set b v, fun h => ?_⟩,
    fun b k rest => ⟨decode8_bitInstr b k rest, decode8_resInstr b k rest, decode8_setInstr b k rest⟩⟩
  · exact flags8_mkF (Bool.not_eq_true' _).to_iff Bool.false_eq_true.to_iff (iff_true_intro rfl) Iff.rfl
  · rw [reg_setReg_same _ _ _ hk, getLsbD_withBit]
  · rw [reg_setReg_same _ _ _ hk]
  · rw [exec_setOrRes_hlm set b hread]
    exact thenRes_writeBack_hlm hread h (finish8 16)

end Sys2Proof.Proofs
end

section
/-! PROOFS. The CPU-8 jumps, calls, returns and restarts (R430 to R441). -/

namespace Sys2Proof.Proofs

open Sys2Proof.Machine Sys2Proof.Claims

/-! The conditions (R430). -/

theorem condPasses8_iff (cc : Cc) (f : Byte) : condPasses8 cc f = true ↔ Cond8 cc f := by
  cases cc with
  | nz => exact (Bool.not_eq_true' _).to_iff
  | z => exact Iff.rfl
  | nc => exact (Bool.not_eq_true' _).to_iff
  | c => exact Iff.rfl

/-- What a conditional row answers, taken and not taken. -/
theorem ite_condPasses8 (cc : Cc) (f : Byte) (taken skipped : Res) :
    (Cond8 cc f → (if condPasses8 cc f then taken else skipped) = taken) ∧
    (¬ Cond8 cc f → (if condPasses8 cc f then taken else skipped) = skipped) := by
  rw [← condPasses8_iff]
  exact ⟨fun h => if_pos h, fun h => if_neg h⟩

/-! Jumps (R431 to R435). -/

theorem add_signExtend_eq (a : Half) (e : Byte) : a + e.signExtend 16 = BitVec.ofNat 16 (offset16 a e) := by
  rw [← add_signExtend_toNat, BitVec.ofNat_toNat, BitVec.setWidth_eq]

theorem jumpRel_next (e : Byte) (s : State) : jumpRel e s =
    .next { s with cpu8 := { s.cpu8 with pc := BitVec.ofNat 16 (offset16 s.cpu8.pc e) }, cycles := s.cycles + 12 } := by
  rw [← add_signExtend_eq]
  rfl

/-! Calls and restarts (R436, R437, R441). -/

/-- The jump follows the push of PC, and happens where R763 does not refuse the push. -/
theorem callTo_next (a : Half) (clocks : Nat) {s : State} (h : Pushes8 s s.cpu8.pc) :
    ∃ t, push16 s.cpu8.pc s = .next t ∧
      callTo a clocks s = .next { t with cpu8 := { t.cpu8 with pc := a }, cycles := t.cycles + clocks } := by
  obtain ⟨t, ht⟩ := push16_next h
  refine ⟨t, ht, ?_⟩
  rw [callTo, ht]
  rfl

/-! Returns (R438 to R440). -/

/-- The pop takes no clocks of its own. -/
theorem finish8_on8_popPc {v : Half} {s s1 : State} (h : pop16 s = (v, s1)) (clocks : Nat) (f : Cpu8 → Cpu8) :
    finish8 clocks (on8 f (popPc s)) =
      .next { s1 with cpu8 := f { s1.cpu8 with pc := v }, cycles := s.cycles + clocks } := by
  have hcycles : s1.cycles = s.cycles := by simpa only [h] using pop16_cycles s
  rw [← hcycles, popPc, h]
  rfl

theorem finish8_popPc {v : Half} {s s1 : State} (h : pop16 s = (v, s1)) (clocks : Nat) : finish8 clocks (popPc s) =
    .next { s1 with cpu8 := { s1.cpu8 with pc := v }, cycles := s.cycles + clocks } := finish8_on8_popPc h clocks id

/-- Settles O11: a taken transfer writes PC after its push or pop, and one not taken only takes its clocks. -/
theorem cpu8ControlFlow : Obligations.Cpu8ControlFlow := by
  refine ⟨fun nn s => rfl, fun cc nn s => ?_, fun s => rfl, jumpRel_next, fun cc e s => ?_,
    fun nn s => callTo_next nn 24, fun cc nn s => ?_, fun k s h => ?_,
    fun v s s1 hpop => ⟨finish8_popPc hpop 16, finish8_on8_popPc hpop 16 _, fun cc => ?_⟩⟩
  · rw [exec_jpInstr]
    exact ite_condPasses8 cc s.cpu8.f _ _
  · rw [exec_jrInstr, ← jumpRel_next]
    exact ite_condPasses8 cc s.cpu8.f _ _
  · rw [exec_callInstr]
    obtain ⟨htaken, hskipped⟩ := ite_condPasses8 cc s.cpu8.f (callTo nn 24 s) (finish8 12 s)
    refine ⟨fun hcc h => ?_, hskipped⟩
    rw [callIf, htaken hcc]
    exact callTo_next nn 24 h
  · rw [exec_rstInstr]
    exact callTo_next _ 16 h
  · rw [exec_retInstr, ← finish8_popPc hpop 20]
    exact ite_condPasses8 cc s.cpu8.f _ _

end Sys2Proof.Proofs
end

section
/-! PROOFS. The CPU-8 machine control, and the illegal opcodes (R206, R442 to R447). -/

namespace Sys2Proof.Proofs

open Sys2Proof.Machine Sys2Proof.Claims

/-! STOP and EI (R444, R446). -/

theorem stop8_armed {s : State} (h : s.params.colorMode = true ∧ s.cpu8.speedArmed = true) : stop8 s =
    .next { s with cpu8 := { s.cpu8 with doubleSpeed := !s.cpu8.doubleSpeed, speedArmed := false }
                   cycles := s.cycles + 4 } := by
  simp only [stop8, finish8, charge, on8, if_pos h]

theorem stop8_unarmed {s : State} (h : ¬ (s.params.colorMode = true ∧ s.cpu8.speedArmed = true)) : stop8 s =
    .next { s with cpu8 := { s.cpu8 with stopped := true, div16 := if s.params.stopResetsDiv then 0 else s.cpu8.div16 }
                   cycles := s.cycles + 4 } := by
  simp only [stop8, finish8, charge, on8, if_neg h]
  split <;> rfl

theorem ei8_at_once {s : State} (h : s.params.eiDelay = false) :
    ei8 s = .next { s with cpu8 := { s.cpu8 with ime := true }, cycles := s.cycles + 4 } := by
  simp only [ei8, finish8, charge, on8, h, Bool.false_eq_true, if_false]

theorem ei8_delayed {s : State} (h : s.params.eiDelay = true) :
    ei8 s = .next { s with cpu8 := { s.cpu8 with eiPending := true }, cycles := s.cycles + 4 } := by
  simp only [ei8, finish8, charge, on8, h, if_true]

/-! The step that fetches an illegal opcode (R447, R810). -/

theorem dispatches_iff (c : Cpu8) :
    c.dispatches = true ↔ c.ime = true ∧ c.ie.setWidth 5 &&& c.iflag ≠ 0#5 := by
  rw [Cpu8.dispatches, Bool.and_eq_true, bne_iff_ne]
  rfl

theorem fetch8_one_byte {s : State} {op : Byte} (hop : (read8 s.cpu8.pc s).1 = op) (hlen : length8 op.toNat = 1) :
    fetch8 s = (decodePrimary op.toNat 0 0, (fetchByte s).2) := by
  have hfetched : (fetchByte s).1 = op := hop
  simp only [fetch8, hfetched, hlen]

theorem fetchByte_pc (s : State) : (fetchByte s).2.cpu8.pc = s.cpu8.pc + 1 := by
  simp only [fetchByte, on8_cpu8, read8_cpu8]

/-- The fetch leaves PC one past the opcode, and the fault names the opcode's own address. -/
theorem runInstruction8_illegal_d3 {s : State} (h : (read8 s.cpu8.pc s).1 = 0xD3#8) :
    runInstruction8 s = .fault (.undefinedOpcode 0xD3 s.cpu8.pc.toNat) := by
  have hexec : ∀ u : State, exec .illegal_d3 u = .fault (.undefinedOpcode 0xD3 (u.cpu8.pc - 1).toNat) := fun _ => rfl
  have hdecode : decodePrimary (0xD3#8 : Byte).toNat 0 0 = .illegal_d3 := rfl
  rw [runInstruction8, fetch8_one_byte h rfl, hdecode, hexec, thenRes_fault, fetchByte_pc, BitVec.add_sub_cancel]

/-- Settles O12: each row is its own change of the CPU-8 half, and an illegal opcode is one of eleven rows that fault. -/
theorem cpu8MachineControl : Obligations.Cpu8MachineControl := by
  refine ⟨fun s => ⟨rfl, rfl, rfl, ei8_at_once, ei8_delayed, fun _ => ⟨stop8_armed, stop8_unarmed⟩⟩,
    fun i op s hrow => ?_, fun s hf hv hstop hhalt hdispatch hop => ?_⟩
  · simp only [List.mem_cons, Prod.mk.injEq, List.not_mem_nil, or_false] at hrow
    obtain ⟨rfl, rfl⟩ | ⟨rfl, rfl⟩ | ⟨rfl, rfl⟩ | ⟨rfl, rfl⟩ | ⟨rfl, rfl⟩ | ⟨rfl, rfl⟩ | ⟨rfl, rfl⟩ | ⟨rfl, rfl⟩ |
      ⟨rfl, rfl⟩ | ⟨rfl, rfl⟩ | ⟨rfl, rfl⟩ := hrow <;> exact ⟨rfl, fun _ => rfl⟩
  · have hirq : ¬ (s.cpu8.ime = true ∧ s.cpu8.ie.setWidth 5 &&& s.cpu8.iflag ≠ 0#5) :=
      mt (dispatches_iff s.cpu8).mpr (Bool.eq_false_iff.mp hdispatch)
    rw [step_of_fetches8 ⟨hf, hv, hstop, hhalt, hirq⟩]
    exact runInstruction8_illegal_d3 (s := beginStep s) hop

end Sys2Proof.Proofs
end

section
/-! PROOFS. The CPU-32 sum and difference on numbers (R504), and the sixteen operations (R506 to R521). -/

namespace Sys2Proof.Proofs

open Sys2Proof.Machine Sys2Proof.Claims

/-! The sign of a word. -/

theorem getLsbD_31_eq (a : Word) : a.getLsbD 31 = decide (2 ^ 31 ≤ a.toNat) :=
  (BitVec.msb_eq_getLsbD_last a).symm.trans (BitVec.msb_eq_decide a)

theorem signed_not (a : Word) : signed (~~~a) = -1 - signed a := by
  have ha := a.isLt
  unfold signed
  rw [BitVec.toNat_not]
  split <;> split <;> omega

theorem one_le_one (b : Bool) : one b ≤ 1 := by
  cases b <;> decide

/-! `AddC` (R504). -/

section
variable {a b r : Word} {cin c v : Bool}

theorem addC_result (h : addC a b cin = (r, c, v)) : r = BitVec.ofNat 32 (a.toNat + b.toNat + one cin) :=
  (congrArg Prod.fst h).symm

theorem addC_toNat (h : addC a b cin = (r, c, v)) : r.toNat = (a.toNat + b.toNat + one cin) % 2 ^ 32 := by
  rw [addC_result h, BitVec.toNat_ofNat]

theorem addC_carry (h : addC a b cin = (r, c, v)) : c = true ↔ 2 ^ 32 ≤ a.toNat + b.toNat + one cin := by
  have hc : decide (a.toNat + b.toNat + one cin > 0xFFFFFFFF) = c := congrArg (·.2.1) h
  rw [← hc, decide_eq_true_iff]
  exact Iff.rfl

theorem addC_overflow_bit (h : addC a b cin = (r, c, v)) : v = ((a ^^^ r) &&& (b ^^^ r)).getLsbD 31 := by
  have hv : ((a ^^^ (addC a b cin).1) &&& (b ^^^ (addC a b cin).1)).getLsbD 31 = v := congrArg (·.2.2) h
  rw [← hv, h]

/-- V is set when the operands have one sign and the result the other. -/
theorem addC_overflow_signs (h : addC a b cin = (r, c, v)) :
    v = true ↔ (2 ^ 31 ≤ a.toNat ↔ ¬ 2 ^ 31 ≤ r.toNat) ∧ (2 ^ 31 ≤ b.toNat ↔ ¬ 2 ^ 31 ≤ r.toNat) := by
  rw [addC_overflow_bit h, BitVec.getLsbD_and, BitVec.getLsbD_xor, BitVec.getLsbD_xor, getLsbD_31_eq, getLsbD_31_eq,
    getLsbD_31_eq, Bool.and_eq_true, Bool.xor_iff_ne, Bool.xor_iff_ne]
  simp only [ne_eq, decide_eq_decide, not_iff]
  tauto

/-- That is, when the exact signed sum does not fit. -/
theorem addC_overflow (h : addC a b cin = (r, c, v)) : v = true ↔ overflows (signed a + signed b + one cin) := by
  have hr := addC_toNat h
  have ha := a.isLt
  have hb := b.isLt
  have hone := one_le_one cin
  rw [addC_overflow_signs h, overflows, signed, signed]
  split <;> split <;> omega

/-! `AddC` of a complement is a subtraction, the carry the borrow's complement. -/

theorem addC_not_toNat (h : addC a (~~~b) cin = (r, c, v)) :
    r.toNat = (a.toNat + 2 ^ 33 - b.toNat - (1 - one cin)) % 2 ^ 32 := by
  have hb := b.isLt
  have hone := one_le_one cin
  rw [addC_toNat h, BitVec.toNat_not]
  omega

theorem addC_not_carry (h : addC a (~~~b) cin = (r, c, v)) : c = true ↔ b.toNat + (1 - one cin) ≤ a.toNat := by
  have hb := b.isLt
  have hone := one_le_one cin
  rw [addC_carry h, BitVec.toNat_not]
  omega

theorem addC_not_overflow (h : addC a (~~~b) cin = (r, c, v)) :
    v = true ↔ overflows (signed a - signed b - (1 - one cin : Nat)) := by
  have hone := one_le_one cin
  have hsum : signed a + signed (~~~b) + one cin = signed a - signed b - (1 - one cin : Nat) := by
    rw [signed_not]
    omega
  rw [addC_overflow h, hsum]

theorem addC_not_result (h : addC a (~~~b) cin = (r, c, v)) : r = a - b - BitVec.ofNat 32 (1 - one cin) := by
  have hb := b.isLt
  have hone := one_le_one cin
  apply BitVec.eq_of_toNat_eq
  rw [addC_not_toNat h, BitVec.toNat_sub, BitVec.toNat_sub, BitVec.toNat_ofNat]
  omega

/-- V of a subtraction by the rule's formula: the operands' signs differ, and the result's is not the first's. -/
theorem addC_not_overflow_bit (h : addC a (~~~b) cin = (r, c, v)) : v = ((a ^^^ b) &&& (a ^^^ r)).getLsbD 31 := by
  rw [addC_overflow_bit h]
  simp only [BitVec.getLsbD_and, BitVec.getLsbD_xor, BitVec.getLsbD_not, Nat.reduceLT, decide_true, Bool.true_and]
  cases a.getLsbD 31 <;> cases b.getLsbD 31 <;> cases r.getLsbD 31 <;> rfl

end

/-! The sixteen operations: a logical one, a sum or a difference (R506 to R521). -/

theorem dpResult_rule {op : DpOp} {a b r : Word} {shc c v : Bool} {p : Psr} (h : dpResult op a b shc p = (r, c, v)) :
    DpRule op a b shc p r c v := by
  have logical {x : Word} (h : (x, shc, p.v) = (r, c, v)) : r = x ∧ c = shc ∧ v = p.v := by
    cases h
    exact ⟨rfl, rfl, rfl⟩
  have sum {x y : Word} {cin : Bool} (h : addC x y cin = (r, c, v)) :=
    And.intro (addC_toNat h) (And.intro (addC_carry h) (addC_overflow h))
  have difference {x y : Word} {cin : Bool} (h : addC x (~~~y) cin = (r, c, v)) :=
    And.intro (addC_not_toNat h) (And.intro (addC_not_carry h) (addC_not_overflow h))
  cases op with
  | and | eor | tst | teq | orr | mov | bic | mvn => exact logical h
  | add | adc | cmn => exact sum h
  | sub | rsb | sbc | rsc | cmp => exact difference h

/-- Settles O21: `AddC` is the sum of its operands and the carry; of a complement, the difference. -/
theorem cpu32DataOperations : Obligations.Cpu32DataOperations := by
  refine ⟨fun a b r cin c v h => ⟨addC_toNat h, addC_carry h, addC_overflow_bit h, addC_overflow h⟩,
    fun a b r c v h => ⟨?_, addC_not_carry h, addC_not_overflow_bit h, ?_⟩,
    fun a b r cin c v h => addC_not_result h, fun op a b r shc c v p h => dpResult_rule h⟩
  · exact (addC_not_result h).trans (BitVec.sub_zero (a - b))
  · exact (addC_not_overflow h).trans (by rw [show (1 - one true : Nat) = 0 from rfl, Nat.cast_zero, sub_zero])

end Sys2Proof.Proofs
end

section
/-! PROOFS. The ARM shifter bit by bit (R501 to R503). -/

namespace Sys2Proof.Proofs

open Sys2Proof.Machine Sys2Proof.Claims

/-- A rotation takes each bit from k places up, modulo the width. -/
theorem getLsbD_rotateRight_mod (m : Word) (k : Nat) {i : Nat} (hi : i < 32) :
    (m.rotateRight k).getLsbD i = m.getLsbD ((i + k) % 32) := by
  rw [BitVec.getLsbD_rotateRight]
  by_cases h : i < 32 - k % 32
  · rw [decide_eq_true h, cond_true]
    congr 1
    omega
  · rw [decide_eq_false h, cond_false, decide_eq_true hi, Bool.true_and]
    congr 1
    omega

/-- The rows of the shift tables, each bit named by where it comes from (R502, R503). -/
theorem shiftSmall_rule (kind : Shift) (m : Word) (k : Nat) :
    ShiftRule kind m k (shiftSmall kind m k).1 (shiftSmall kind m k).2 := by
  cases kind with
  | lsl =>
    refine ⟨fun i hi => ?_, rfl⟩
    simp only [shiftSmall, BitVec.getLsbD_shiftLeft, decide_eq_true hi, Bool.true_and, ← decide_not, Nat.not_lt]
  | lsr =>
    refine ⟨fun i hi => ?_, rfl⟩
    simp only [shiftSmall, BitVec.getLsbD_ushiftRight, Nat.add_comm]
  | asr =>
    refine ⟨fun i hi => ?_, rfl⟩
    simp only [shiftSmall, BitVec.getLsbD_sshiftRight, decide_eq_false (Nat.not_le.mpr hi), Bool.not_false,
      Bool.true_and, BitVec.msb_eq_getLsbD_last, Nat.add_comm k i, apply_ite m.getLsbD]
  | ror => exact ⟨fun i hi => getLsbD_rotateRight_mod m k hi, rfl⟩

/-! The amounts from 1 to 31, alike by an immediate and by a register. -/

theorem shiftImm_small (kind : Shift) (m : Word) {k : Nat} (c : Bool) (h1 : 1 ≤ k) :
    shiftImm kind m k c = shiftSmall kind m k :=
  if_neg (Nat.one_le_iff_ne_zero.mp h1)

theorem shiftReg_small (kind : Shift) (m : Word) {k : Nat} (c : Bool) (h1 : 1 ≤ k) (h31 : k ≤ 31) :
    shiftReg kind m k c = shiftSmall kind m k := by
  have h0 : ¬ k = 0 := Nat.one_le_iff_ne_zero.mp h1
  have hlt : k < 32 := by omega
  have hmod : k % 32 = k := Nat.mod_eq_of_lt hlt
  cases kind <;> simp only [shiftReg, if_neg h0, if_pos hlt, hmod]

/-! The amount 0: LSR and ASR shift by 32, ROR rotates through the carry (R502). -/

theorem shiftImm_ror_zero (m : Word) (c : Bool) :
    shiftImm .ror m 0 c = ((if c then 0x80000000#32 else 0#32) ||| (m >>> 1), m.getLsbD 0) := rfl

/-- The carry enters at the top, alone. -/
theorem getLsbD_carryTop (c : Bool) (i : Nat) :
    (if c then 0x80000000#32 else 0#32).getLsbD i = (c && decide (i = 31)) := by
  cases c with
  | false => simp
  | true =>
    rw [if_pos rfl, Bool.true_and, show (0x80000000#32 : Word) = BitVec.twoPow 32 31 from rfl, BitVec.getLsbD_twoPow]
    simp [eq_comm]

theorem getLsbD_shiftImm_ror_zero (m : Word) (c : Bool) (i : Nat) :
    (shiftImm .ror m 0 c).1.getLsbD i = ((c && decide (i = 31)) || m.getLsbD (i + 1)) := by
  rw [shiftImm_ror_zero, BitVec.getLsbD_or, getLsbD_carryTop, BitVec.getLsbD_ushiftRight, Nat.add_comm 1 i]

/-! The amounts of 32 and more (R503). -/

section
variable (m : Word) (c : Bool) {k : Nat} (h : 32 ≤ k)
include h

theorem shiftReg_lsl_large : shiftReg .lsl m k c = (0#32, decide (k = 32) && m.getLsbD 0) := by
  rw [shiftReg, if_neg (by omega), if_neg (Nat.not_lt.mpr h)]
  rfl

theorem shiftReg_lsr_large : shiftReg .lsr m k c = (0#32, decide (k = 32) && m.getLsbD 31) := by
  rw [shiftReg, if_neg (by omega), if_neg (Nat.not_lt.mpr h)]
  rfl

theorem shiftReg_asr_large :
    shiftReg .asr m k c = ((if m.getLsbD 31 then 0xFFFFFFFF#32 else 0#32), m.getLsbD 31) := by
  rw [shiftReg, if_neg (by omega), if_neg (Nat.not_lt.mpr h)]
  rfl

theorem shiftReg_ror_whole (hk : k % 32 = 0) : shiftReg .ror m k c = (m, m.getLsbD 31) := by
  rw [shiftReg, if_neg (by omega), if_pos hk]

end

theorem shiftReg_ror_part (m : Word) (c : Bool) {k : Nat} (hk : k % 32 ≠ 0) :
    shiftReg .ror m k c = shiftReg .ror m (k % 32) c := by
  rw [shiftReg_small .ror m c (k := k % 32) (by omega) (by omega), shiftReg, if_neg (by omega), if_neg hk]

/-- Settles O22: a bit of a rotation is a bit of its operand; the small amounts share one table, and 0 and 32 on are
rows of their own. -/
theorem cpu32Shifter : Obligations.Cpu32Shifter := by
  refine ⟨fun x c => ⟨fun i hi => ?_, rfl⟩, fun kind m k c h1 h31 => ?_,
    fun m c => ⟨rfl, rfl, rfl, rfl, ?_, fun i hi => ?_⟩, fun kind m c => rfl,
    fun m c k h _ => ⟨shiftReg_lsl_large m c h, shiftReg_lsr_large m c h, shiftReg_asr_large m c h,
      shiftReg_ror_whole m c h, shiftReg_ror_part m c⟩⟩
  · have hbit : (i + 2 * x.rot.toNat) % 32 < 32 := Nat.mod_lt _ (by decide)
    rw [rotatedImm, getLsbD_rotateRight_mod _ _ hi, BitVec.getLsbD_setWidth, decide_eq_true hbit, Bool.true_and]
    by_cases h8 : (i + 2 * x.rot.toNat) % 32 < 8
    · rw [decide_eq_true h8, Bool.true_and]
    · rw [decide_eq_false h8, Bool.false_and, BitVec.getLsbD_of_ge _ _ (Nat.not_lt.mp h8)]
  · rw [shiftImm_small kind m c h1, shiftReg_small kind m c h1 h31]
    exact ⟨shiftSmall_rule kind m k, rfl⟩
  · rw [getLsbD_shiftImm_ror_zero, decide_eq_true rfl, Bool.and_true, BitVec.getLsbD_of_ge m 32 (Nat.le_refl 32),
      Bool.or_false]
  · rw [getLsbD_shiftImm_ror_zero, decide_eq_false (by omega), Bool.and_false, Bool.false_or]

end Sys2Proof.Proofs
end

section
/-! PROOFS. ARM data processing into a register, and its restrictions (R503, R505, R831). -/

namespace Sys2Proof.Proofs

open Sys2Proof.Machine Sys2Proof.Claims

theorem dpOf_rd (op : DpOp) (d : Dp) : (dpOf op d).rd = d.rd := by
  unfold dpOf
  split <;> rfl

theorem dpOf_rn (op : DpOp) (d : Dp) : (dpOf op d).rn = d.rn := by
  unfold dpOf
  split <;> rfl

theorem dpOf_cond (op : DpOp) (d : Dp) : (dpOf op d).cond = d.cond := by
  unfold dpOf
  split <;> rfl

section
variable {op : DpOp} {d : Dp} {s : State} {a b r : Word} {shc c v : Bool}

/-- An operation that is no test, into a register below R15: the result, and the flags with S (R505). -/
theorem dpFinish_toReg (extra : Nat) (ht : ¬ isTest op) (hm : isMove op → d.rn = 0#4) (hd : d.rd ≠ 15#4)
    (hr : dpResult op a b shc s.cpu32.cpsr = (r, c, v)) :
    dpFinish op d a b shc extra s = .next (past s
      { setX s d.rd r with cpsr := if d.s then withFlags s.cpu32.cpsr r c v else s.cpu32.cpsr } (sCost s + extra)) := by
  have htest : ¬ isTestOp op = true := mt (isTestOp_iff op).mp ht
  have hmove : ¬ (ignoresRn op = true ∧ d.rn ≠ 0#4) := fun ⟨e, hn⟩ => hn (hm ((ignoresRn_iff op).mp e))
  simp only [dpFinish, if_neg htest, if_neg hmove, if_neg hd, hr]
  cases d.s
  · exact retire_writeReg d.rd r s extra
  · exact retire_withCpu32 (c := { setX s d.rd r with cpsr := withFlags s.cpu32.cpsr r c v }) ⟨rfl, rfl, rfl⟩ extra

/-- A test with Rd = 0 changes the flags and PC only (R505, R514 to R517). -/
theorem dpFinish_test (extra : Nat) (ht : isTest op) (hd : d.rd = 0#4)
    (hr : dpResult op a b shc s.cpu32.cpsr = (r, c, v)) :
    dpFinish op d a b shc extra s =
      .next (past s { s.cpu32 with cpsr := withFlags s.cpu32.cpsr r c v } (sCost s + extra)) := by
  simp only [dpFinish, if_pos ((isTestOp_iff op).mpr ht), if_neg (not_not_intro hd), hr]
  exact retire_withCpu32 (c := { s.cpu32 with cpsr := withFlags s.cpu32.cpsr r c v }) ⟨rfl, rfl, rfl⟩ extra

theorem not_isTest_of_isMove (h : isMove op) : ¬ isTest op := by
  rcases h with rfl | rfl <;> simp [isTest]

/-- A field that should be zero and is not stops the instruction (R215, R505). -/
theorem dpFinish_sbz (extra : Nat) (h : (isTest op ∧ d.rd ≠ 0#4) ∨ (isMove op ∧ d.rn ≠ 0#4)) :
    dpFinish op d a b shc extra s = unpredictable .sbz s := by
  rcases h with ⟨ht, hd⟩ | ⟨hm, hn⟩
  · simp only [dpFinish, if_pos ((isTestOp_iff op).mpr ht), if_pos hd]
  · have htest : ¬ isTestOp op = true := mt (isTestOp_iff op).mp (not_isTest_of_isMove hm)
    simp only [dpFinish, if_neg htest, if_pos (And.intro ((ignoresRn_iff op).mpr hm) hn)]

/-- A shift by R15 is reported before the fields are looked at (R503; log entry 35). -/
theorem exec_dpRegShift_rsIsR15 (op : DpOp) {x : Op2RegShift} (hc : CondHolds d.cond s.cpu32.cpsr) (hrs : x.rs = 15#4) :
    exec (dpRegShiftInstr op d x) s = unpredictable .rsIsR15 s := by
  have hpass : condPasses (dpOf op d).cond s.cpu32.cpsr = true := dpOf_cond op d ▸ (condPasses_iff _ _).mpr hc
  rw [exec_dpRegShiftInstr, dpRegShift, ifCond_pass hpass, if_pos hrs]

end

/-- Settles O24: each row is `dpFinish` on its operands, which writes a register, writes the flags or stops. -/
theorem armDataProcessing : Obligations.ArmDataProcessing := by
  refine ⟨fun op d s i a b r shc c v extra hform hcond ht hm hd hr => ?_,
    fun op d s i a b r shc c v extra hform hcond ht hd hr => ?_,
    fun op d s i a b shc extra hform hcond h => ?_,
    fun op d x s hcond hrs => exec_dpRegShift_rsIsR15 op hcond hrs⟩
  · rw [exec_of_dpForm hform hcond, dpOf_of_not_isTest ht, dpFinish_toReg extra ht hm hd hr]
  · rw [exec_of_dpForm hform hcond, dpFinish_test extra ht ((dpOf_rd op d).trans hd) hr]
  · rw [← dpOf_rd op d, ← dpOf_rn op d] at h
    rw [exec_of_dpForm hform hcond, dpFinish_sbz extra h, unpredictable]

end Sys2Proof.Proofs
end

section
/-! PROOFS. The ARM multiplies (R530 to R536). -/

namespace Sys2Proof.Proofs

open Sys2Proof.Machine Sys2Proof.Claims

/-! The cost by the size of Rs (R536). -/

/-- The top k bytes are 0 below 2^(32 - 8k). -/
theorem leadingBytes_zero (w : Word) :
    (1 ≤ leadingBytes w 0x00 ↔ w.toNat < 2 ^ 24) ∧ (2 ≤ leadingBytes w 0x00 ↔ w.toNat < 2 ^ 16) ∧
      (3 ≤ leadingBytes w 0x00 ↔ w.toNat < 2 ^ 8) := by
  have hw := w.isLt
  unfold leadingBytes
  split_ifs <;> omega

/-- And all 0xFF from 2^32 - 2^(32 - 8k) on. -/
theorem leadingBytes_ff (w : Word) :
    (1 ≤ leadingBytes w 0xFF ↔ 2 ^ 32 - 2 ^ 24 ≤ w.toNat) ∧ (2 ≤ leadingBytes w 0xFF ↔ 2 ^ 32 - 2 ^ 16 ≤ w.toNat) ∧
      (3 ≤ leadingBytes w 0xFF ↔ 2 ^ 32 - 2 ^ 8 ≤ w.toNat) := by
  have hw := w.isLt
  unfold leadingBytes
  split_ifs <;> omega

theorem leadingBytes_le (w : Word) (x : Nat) : leadingBytes w x ≤ 4 := by
  unfold leadingBytes
  split_ifs <;> omega

/-- A size of k bytes is one whose other bytes lead, all 0 or all 0xFF. -/
theorem multiplyCycles_eq {w : Word} {n : Nat} (h : ICycles w n) : multiplyCycles w = n := by
  simp only [ICycles] at h
  obtain ⟨h1, h2, h3, h4⟩ := h
  obtain ⟨z1, z2, z3⟩ := leadingBytes_zero w
  obtain ⟨f1, f2, f3⟩ := leadingBytes_ff w
  have hz := leadingBytes_le w 0x00
  have hf := leadingBytes_le w 0xFF
  rw [multiplyCycles]
  split <;> omega

/-! MUL and MLA (R530, R531). -/

theorem mulAdd_eq {x y z r : Word} (h : r.toNat = (x.toNat * y.toNat + z.toNat) % 2 ^ 32) : x * y + z = r := by
  apply BitVec.eq_of_toNat_eq
  rw [h, BitVec.toNat_add, BitVec.toNat_mul, Nat.mod_add_mod]

section
variable {o : MulOps} {s : State}

/-- Rd takes the product with the addend; N and Z follow it with S, C is cleared and V kept. -/
theorem multiplyFinish_eq {acc r : Word} {n : Nat} (extra : Nat)
    (hr : r.toNat = ((readReg o.rm s).toNat * (readReg o.rs s).toNat + acc.toNat) % 2 ^ 32)
    (hn : ICycles (readReg o.rs s) n) :
    multiplyFinish o acc extra s = .next (past s
      { setX s o.rd r with cpsr := if o.s then withFlags s.cpu32.cpsr r false s.cpu32.cpsr.v else s.cpu32.cpsr }
      (sCost s + n + extra)) := by
  simp only [multiplyFinish, mulAdd_eq hr, multiplyCycles_eq hn, Nat.add_assoc]
  cases o.s
  · exact retire_writeReg o.rd r s (n + extra)
  · exact retire_withCpu32 (c := { setX s o.rd r with cpsr := withFlags s.cpu32.cpsr r false s.cpu32.cpsr.v })
      ⟨rfl, rfl, rfl⟩ (n + extra)

variable (hc : CondHolds o.cond s.cpu32.cpsr)
include hc

theorem exec_armMul : exec (.armMul o) s =
    if o.rd = 15#4 ∨ o.rs = 15#4 ∨ o.rm = 15#4 ∨ o.rd = o.rm then unpredictable .multiplyOperands s
    else if o.rn ≠ 0#4 then unpredictable .sbz s else multiplyFinish o 0 0 s := by
  show multiply o s = _
  rw [multiply, ifCond_pass ((condPasses_iff _ _).mpr hc)]

theorem exec_armMla : exec (.armMla o) s =
    if o.rd = 15#4 ∨ o.rn = 15#4 ∨ o.rs = 15#4 ∨ o.rm = 15#4 ∨ o.rd = o.rm then unpredictable .multiplyOperands s
    else multiplyFinish o (readReg o.rn s) 1 s := by
  show multiplyAccumulate o s = _
  rw [multiplyAccumulate, ifCond_pass ((condPasses_iff _ _).mpr hc)]

end

/-! The long product modulo 2^64 (R532 to R535). -/

theorem signed_eq_toInt (a : Word) : signed a = a.toInt := by
  rw [BitVec.toInt_eq_toNat_cond, signed]
  split <;> split <;> omega

theorem ofInt_signed (a : Word) : BitVec.ofInt 64 (signed a) = a.signExtend 64 := by
  rw [signed_eq_toInt, ← BitVec.toInt_signExtend_of_le (v := 64) (by decide), BitVec.ofInt_toInt]

/-- The product of two words on numbers, their signs read or not. -/
def exactProduct (sgn : Bool) (a b : Word) : Int := if sgn then signed a * signed b else (a.toNat * b.toNat : Nat)

theorem longProduct_eq_ofInt (sgn : Bool) (a b : Word) :
    longProduct sgn a b = BitVec.ofInt 64 (exactProduct sgn a b) := by
  cases sgn with
  | false =>
    show a.setWidth 64 * b.setWidth 64 = BitVec.ofInt 64 (a.toNat * b.toNat : Nat)
    rw [BitVec.ofInt_natCast, BitVec.ofNat_mul, BitVec.ofNat_toNat, BitVec.ofNat_toNat]
  | true =>
    show a.signExtend 64 * b.signExtend 64 = BitVec.ofInt 64 (signed a * signed b)
    rw [BitVec.ofInt_mul, ofInt_signed, ofInt_signed]

theorem append_toNat_word (hi lo : Word) : (hi ++ lo).toNat = hi.toNat * 2 ^ 32 + lo.toNat := by
  rw [BitVec.toNat_append, ← Nat.shiftLeft_add_eq_or_of_lt lo.isLt, Nat.shiftLeft_eq]

/-- The 64-bit accumulator of a long multiply, 0 when it does not accumulate. -/
def accumulator (acc : Bool) (o : LongMulOps) (s : State) : BitVec 64 :=
  if acc then readReg o.rdHi s ++ readReg o.rdLo s else 0

theorem toNat_accumulator (acc : Bool) (o : LongMulOps) (s : State) : (accumulator acc o s).toNat =
    if acc then (readReg o.rdHi s).toNat * 2 ^ 32 + (readReg o.rdLo s).toNat else 0 := by
  cases acc
  · rfl
  · exact append_toNat_word _ _

/-- Two words that hold the exact sum modulo 2^64 are the halves of the machine's sum. -/
theorem longProduct_add_eq_append {sgn : Bool} {a b hi lo : Word} {z : BitVec 64}
    (h : ((hi.toNat * 2 ^ 32 + lo.toNat : Nat) : Int) = (exactProduct sgn a b + (z.toNat : Nat)) % 2 ^ 64) :
    longProduct sgn a b + z = hi ++ lo := by
  have hz : z = BitVec.ofInt 64 (z.toNat : Nat) := by rw [BitVec.ofInt_natCast, BitVec.ofNat_toNat, BitVec.setWidth_eq]
  have hsum : longProduct sgn a b + z = BitVec.ofInt 64 (exactProduct sgn a b + (z.toNat : Nat)) := by
    rw [BitVec.ofInt_add, ← hz, longProduct_eq_ofInt]
  apply BitVec.eq_of_toNat_eq
  rw [hsum, BitVec.toNat_ofInt, append_toNat_word]
  omega

/-! The long multiplies (R532 to R536). -/

theorem append_high (hi lo : Word) : ((hi ++ lo) >>> 32).setWidth 32 = hi := by
  have hlo := lo.isLt
  have hhi := hi.isLt
  apply BitVec.eq_of_toNat_eq
  rw [BitVec.toNat_setWidth, BitVec.toNat_ushiftRight, append_toNat_word, Nat.shiftRight_eq_div_pow]
  omega

theorem append_low (hi lo : Word) : (hi ++ lo).setWidth 32 = lo := BitVec.setWidth_append_eq_right

theorem append_eq_zero_iff (hi lo : Word) : hi ++ lo = 0#64 ↔ hi = 0#32 ∧ lo = 0#32 := by
  rw [← BitVec.toNat_inj, ← BitVec.toNat_inj, ← BitVec.toNat_inj, append_toNat_word, BitVec.toNat_ofNat,
    BitVec.toNat_ofNat]
  omega

/-- N and Z of a long product by its halves, C cleared and V kept (R532). -/
def longFlags (p : Psr) (hi lo : Word) : Psr :=
  { p with n := hi.getLsbD 31, z := decide (hi = 0#32 ∧ lo = 0#32), c := false }

theorem setLongFlags_append (p : Psr) (hi lo : Word) : p.setLongFlags (hi ++ lo) = longFlags p hi lo := by
  have hn : (hi ++ lo).getLsbD 63 = hi.getLsbD 31 := by
    rw [BitVec.getLsbD_append]
    rfl
  have hz : ((hi ++ lo) == 0#64) = decide (hi = 0#32 ∧ lo = 0#32) :=
    decide_eq_decide.mpr (append_eq_zero_iff hi lo)
  simp only [Psr.setLongFlags, longFlags, hn]
  rw [← hz]
  rfl

/-- The operands a long multiply stops on (R532). -/
abbrev LongOperandsStop (o : LongMulOps) : Prop :=
  o.rdHi = 15#4 ∨ o.rdLo = 15#4 ∨ o.rs = 15#4 ∨ o.rm = 15#4 ∨ o.rdHi = o.rdLo ∨ o.rdHi = o.rm ∨ o.rdLo = o.rm

section
variable {sgn acc : Bool} {o : LongMulOps} {s : State} (hc : CondHolds o.cond s.cpu32.cpsr)
include hc

theorem multiplyLong_stops (h : LongOperandsStop o) : multiplyLong sgn acc o s = unpredictable .multiplyOperands s := by
  rw [multiplyLong, ifCond_pass ((condPasses_iff _ _).mpr hc), if_pos h]

/-- RdHi and RdLo take the product with the accumulator; N and Z follow it with S, C is cleared and V kept. -/
theorem multiplyLong_completes {hi lo : Word} {n : Nat} (h : ¬ LongOperandsStop o)
    (hp : longProduct sgn (readReg o.rm s) (readReg o.rs s) + accumulator acc o s = hi ++ lo)
    (hn : ICycles (readReg o.rs s) n) :
    multiplyLong sgn acc o s = .next (past s
      { (setX s o.rdLo lo).setRegIn s.cpu32.cpsr.mode o.rdHi hi with
        cpsr := if o.s then longFlags s.cpu32.cpsr hi lo else s.cpu32.cpsr }
      (sCost s + n + 1 + one acc)) := by
  have hcost : sCost s + n + 1 + one acc = sCost s + (n + one acc + 1) := by omega
  unfold accumulator at hp
  rw [multiplyLong, ifCond_pass ((condPasses_iff _ _).mpr hc), if_neg h, hcost]
  simp only [hp, append_high, append_low, multiplyCycles_eq hn, setLongFlags_append]
  cases o.s
  · exact retire_withCpu32 (c := (setX s o.rdLo lo).setRegIn s.cpu32.cpsr.mode o.rdHi hi) SameFetch.rfl _
  · exact retire_withCpu32 (c := { (setX s o.rdLo lo).setRegIn s.cpu32.cpsr.mode o.rdHi hi with
      cpsr := longFlags s.cpu32.cpsr hi lo }) ⟨rfl, rfl, rfl⟩ _

end

/-- Settles O26: the machine's words are the exact products modulo their size, and its cost follows the leading bytes. -/
theorem armMultiply : Obligations.ArmMultiply := by
  refine ⟨fun acc o s r n hc hrd hrs hrm hne hrn hr hn => ?_,
    fun sgn acc o s hi lo n hc hhi hlo hrs hrm hhl hhm hlm hr hn => ?_,
    fun o s hc => ⟨fun h => ?_, fun h hrn => ?_, fun h => ?_⟩, fun o s hc h i hi => ?_⟩
  · cases acc with
    | false =>
      have hops : ¬ (o.rd = 15#4 ∨ o.rs = 15#4 ∨ o.rm = 15#4 ∨ o.rd = o.rm) := by tauto
      have hsbz : ¬ o.rn ≠ 0#4 := not_not_intro hrn
      refine (exec_armMul hc).trans ?_
      rw [if_neg hops, if_neg hsbz]
      exact multiplyFinish_eq 0 hr hn
    | true =>
      have hops : ¬ (o.rd = 15#4 ∨ o.rn = 15#4 ∨ o.rs = 15#4 ∨ o.rm = 15#4 ∨ o.rd = o.rm) := by
        have hrn' : o.rn ≠ 15#4 := hrn
        tauto
      refine (exec_armMla hc).trans ?_
      rw [if_neg hops]
      exact multiplyFinish_eq 1 hr hn
  · have hops : ¬ LongOperandsStop o := by
      unfold LongOperandsStop
      tauto
    have hp : longProduct sgn (readReg o.rm s) (readReg o.rs s) + accumulator acc o s = hi ++ lo := by
      refine longProduct_add_eq_append (hr.trans ?_)
      rw [toNat_accumulator]
      cases acc <;> rfl
    refine Eq.trans ?_ (multiplyLong_completes hc hops hp hn)
    cases sgn <;> cases acc <;> rfl
  · rw [exec_armMul hc, if_pos h, unpredictable]
  · rw [exec_armMul hc, if_neg h, if_pos hrn, unpredictable]
  · rw [exec_armMla hc, if_pos h, unpredictable]
  · simp only [List.mem_cons, List.not_mem_nil, or_false] at hi
    obtain rfl | rfl | rfl | rfl := hi <;> exact multiplyLong_stops hc h

end Sys2Proof.Proofs
end

section
/-! PROOFS. The restrictions of the single and the block transfers (R560, R562, R565, R580, R583). -/

namespace Sys2Proof.Proofs

open Sys2Proof.Machine Sys2Proof.Claims

/-! The single transfers. -/

/-- The restrictions of a single transfer in the order the model tests them, and then the transfer (R560, R562, R565). -/
def transferChecked (ix : Index) (load byteLoad half rm15 : Bool) (body : Res) (s : State) : Res :=
  if half = true ∧ ix.pre = false ∧ ix.wb = true then unpredictable .postIndexedW s
  else if half = true ∧ ix.rd = 15#4 then unpredictable .halfRdR15 s
  else if rm15 = true then unpredictable .offsetR15 s
  else if byteLoad = true ∧ ix.rd = 15#4 then unpredictable .ldrbToPc s
  else if Index.writesBack ix = true ∧ ix.rn = 15#4 then unpredictable .writebackR15 s
  else if load = true ∧ Index.writesBack ix = true ∧ ix.rn = ix.rd then unpredictable .loadWritebackSame s
  else body

/-- An answer that these restrictions decide, but for what follows them. -/
def IsChecked (r : Res) (ix : Index) (load byteLoad half rm15 : Bool) (s : State) : Prop :=
  ∃ body, r = transferChecked ix load byteLoad half rm15 body s

theorem loadIndexed_isChecked (k : LoadKind) (ix : Index) (offset : Word) (s : State) :
    IsChecked (loadIndexed k ix offset s) ix true false false false s := by
  simp only [IsChecked, loadIndexed, transferChecked, Bool.false_eq_true, false_and, true_and, if_false]
  exact ⟨_, rfl⟩

theorem storeIndexed_isChecked (w : Width) (ix : Index) (offset : Word) (s : State) :
    IsChecked (storeIndexed w ix offset s) ix false false false false s := by
  simp only [IsChecked, storeIndexed, transferChecked, Bool.false_eq_true, false_and, if_false]
  exact ⟨_, rfl⟩

/-- LDRB into R15 (R562). -/
theorem loadSingle_isChecked (k : LoadKind) (ix : Index) (offset : Word) (s : State) :
    IsChecked (loadSingle k ix offset s) ix true (decide (k = .unsignedByte)) false false s := by
  obtain ⟨body, h⟩ := loadIndexed_isChecked k ix offset s
  refine ⟨body, ?_⟩
  simp only [loadSingle, h, transferChecked, decide_eq_true_eq, Bool.false_eq_true, false_and, if_false]

/-- R15 as the offset (R560). -/
theorem IsChecked.offset {r : Res} {ix : Index} {load byteLoad : Bool} {s : State}
    (h : IsChecked r ix load byteLoad false false s) (rm : RegNum) :
    IsChecked (if rm = 15#4 then unpredictable .offsetR15 s else r) ix load byteLoad false (decide (rm = 15#4)) s := by
  obtain ⟨body, rfl⟩ := h
  refine ⟨body, ?_⟩
  simp only [transferChecked, decide_eq_true_eq, Bool.false_eq_true, false_and, if_false]

/-- The halfword and signed transfers (R565). -/
theorem IsChecked.half {body : State → Res} {ix : Index} {load rm15 : Bool} {s : State}
    (h : IsChecked (body s) ix load false false rm15 s) : IsChecked (halfChecked ix body s) ix load false true rm15 s := by
  obtain ⟨r, hr⟩ := h
  refine ⟨r, ?_⟩
  simp only [halfChecked, hr, transferChecked, Bool.false_eq_true, false_and, true_and, if_false]

section
variable {s : State}

theorem IsChecked.ifCond {cond : Cond} {body : State → Res} {ix : Index} {load byteLoad half rm15 : Bool}
    (hc : CondHolds cond s.cpu32.cpsr) (h : IsChecked (body s) ix load byteLoad half rm15 s) :
    IsChecked (ifCond cond body s) ix load byteLoad half rm15 s := by
  rwa [ifCond_pass ((condPasses_iff _ _).mpr hc)]

theorem loadSingleImm_isChecked (k : LoadKind) (o : XferImm) (hc : CondHolds o.ix.cond s.cpu32.cpsr) :
    IsChecked (loadSingleImm k o s) o.ix true (decide (k = .unsignedByte)) false false s :=
  .ifCond hc (loadSingle_isChecked k o.ix _ s)

theorem loadSingleReg_isChecked (k : LoadKind) (o : XferReg) (hc : CondHolds o.ix.cond s.cpu32.cpsr) :
    IsChecked (loadSingleReg k o s) o.ix true (decide (k = .unsignedByte)) false (decide (o.op2.rm = 15#4)) s :=
  .ifCond hc ((loadSingle_isChecked k o.ix _ s).offset o.op2.rm)

theorem storeSingleImm_isChecked (w : Width) (o : XferImm) (hc : CondHolds o.ix.cond s.cpu32.cpsr) :
    IsChecked (storeSingleImm w o s) o.ix false false false false s :=
  .ifCond hc (storeIndexed_isChecked w o.ix _ s)

theorem storeSingleReg_isChecked (w : Width) (o : XferReg) (hc : CondHolds o.ix.cond s.cpu32.cpsr) :
    IsChecked (storeSingleReg w o s) o.ix false false false (decide (o.op2.rm = 15#4)) s :=
  .ifCond hc ((storeIndexed_isChecked w o.ix _ s).offset o.op2.rm)

theorem loadHalfImm_isChecked (k : LoadKind) (o : HalfImm) (hc : CondHolds o.ix.cond s.cpu32.cpsr) :
    IsChecked (loadHalfImm k o s) o.ix true false true false s :=
  .ifCond hc (.half (loadIndexed_isChecked k o.ix _ s))

theorem loadHalfReg_isChecked (k : LoadKind) (o : HalfReg) (hc : CondHolds o.ix.cond s.cpu32.cpsr) :
    IsChecked (loadHalfReg k o s) o.ix true false true (decide (o.rm = 15#4)) s :=
  .ifCond hc (.half ((loadIndexed_isChecked k o.ix _ s).offset o.rm))

theorem storeHalfImm_isChecked (o : HalfImm) (hc : CondHolds o.ix.cond s.cpu32.cpsr) :
    IsChecked (storeHalfImm o s) o.ix false false true false s :=
  .ifCond hc (.half (storeIndexed_isChecked .half o.ix _ s))

theorem storeHalfReg_isChecked (o : HalfReg) (hc : CondHolds o.ix.cond s.cpu32.cpsr) :
    IsChecked (storeHalfReg o s) o.ix false false true (decide (o.rm = 15#4)) s :=
  .ifCond hc (.half ((storeIndexed_isChecked .half o.ix _ s).offset o.rm))

/-- Every row of the single transfers meets its restrictions first, in this order. -/
theorem exec_of_transferRow {i : Instr} {ix : Index} {load byteLoad half rm15 : Bool}
    (h : TransferRow i ix load byteLoad half rm15) (hc : CondHolds ix.cond s.cpu32.cpsr) :
    IsChecked (exec i s) ix load byteLoad half rm15 s := by
  simp only [TransferRow, List.mem_cons, List.not_mem_nil, or_false, Prod.mk.injEq] at h
  obtain ⟨o, rfl, h⟩ | ⟨o, rfl, h⟩ | ⟨o, rfl, h⟩ | ⟨o, rfl, h⟩ := h
  · obtain ⟨rfl, rfl, rfl, rfl, rfl⟩ | ⟨rfl, rfl, rfl, rfl, rfl⟩ | ⟨rfl, rfl, rfl, rfl, rfl⟩ |
      ⟨rfl, rfl, rfl, rfl, rfl⟩ := h
    · exact loadSingleImm_isChecked .word o hc
    · exact loadSingleImm_isChecked .unsignedByte o hc
    · exact storeSingleImm_isChecked .word o hc
    · exact storeSingleImm_isChecked .byte o hc
  · obtain ⟨rfl, rfl, rfl, rfl, rfl⟩ | ⟨rfl, rfl, rfl, rfl, rfl⟩ | ⟨rfl, rfl, rfl, rfl, rfl⟩ |
      ⟨rfl, rfl, rfl, rfl, rfl⟩ := h
    · exact loadSingleReg_isChecked .word o hc
    · exact loadSingleReg_isChecked .unsignedByte o hc
    · exact storeSingleReg_isChecked .word o hc
    · exact storeSingleReg_isChecked .byte o hc
  · obtain ⟨rfl, rfl, rfl, rfl, rfl⟩ | ⟨rfl, rfl, rfl, rfl, rfl⟩ | ⟨rfl, rfl, rfl, rfl, rfl⟩ |
      ⟨rfl, rfl, rfl, rfl, rfl⟩ := h
    · exact loadHalfImm_isChecked .unsignedHalf o hc
    · exact loadHalfImm_isChecked .signedByte o hc
    · exact loadHalfImm_isChecked .signedHalf o hc
    · exact storeHalfImm_isChecked o hc
  · obtain ⟨rfl, rfl, rfl, rfl, rfl⟩ | ⟨rfl, rfl, rfl, rfl, rfl⟩ | ⟨rfl, rfl, rfl, rfl, rfl⟩ |
      ⟨rfl, rfl, rfl, rfl, rfl⟩ := h
    · exact loadHalfReg_isChecked .unsignedHalf o hc
    · exact loadHalfReg_isChecked .signedByte o hc
    · exact loadHalfReg_isChecked .signedHalf o hc
    · exact storeHalfReg_isChecked o hc

end

/-! The block transfers. -/

/-- LDM and STM meet the restrictions of R580 and R583 first; an LDM with R15 restores (R583). -/
theorem exec_block_checked {o : BlockOps} {s : State} (hc : CondHolds o.cond s.cpu32.cpsr) (load : Bool) :
    ∃ body, exec (if load then .armLdm o else .armStm o) s =
      blockChecked o (load && decide (15#4 ∈ blockRegs o.list)) body s := by
  rw [← condPasses_iff] at hc
  cases load with
  | true => exact ⟨_, ifCond_pass hc⟩
  | false => exact ⟨_, ifCond_pass hc⟩

theorem restores_iff (o : BlockOps) (load : Bool) : (load && decide (15#4 ∈ blockRegs o.list)) = true ↔
    load = true ∧ (o.list = 0#16 ∨ o.list.getLsbD 15 = true) := by
  rw [Bool.and_eq_true, decide_eq_true_eq, pc_mem_blockRegs]

/-- Settles O34: each row answers its first restriction, in the order of `transferChecked` and of `blockChecked`. -/
theorem armTransferRestrictions : Obligations.ArmTransferRestrictions := by
  refine ⟨fun i ix load byteLoad half rm15 s hrow hc => ?_, fun o s load hc => ?_⟩
  · obtain ⟨body, h⟩ := exec_of_transferRow hrow hc
    dsimp only
    rw [h, transferChecked]
    refine ⟨fun hh hp => ?_, fun hh hp hrd => ?_, fun hrm hh => ?_, fun hrm hh => ⟨fun hb hrd => ?_, fun hb hw hrn => ?_,
      fun hb hw hrn hl hsame => ?_⟩⟩
    · rw [if_pos ⟨hh, hp⟩, unpredictable]
    · rw [if_neg fun ⟨_, h⟩ => hp h, if_pos ⟨hh, hrd⟩, unpredictable]
    · rw [if_neg fun ⟨h, hp⟩ => (hh h).1 hp, if_neg fun ⟨h, hr⟩ => (hh h).2 hr, if_pos hrm, unpredictable]
    all_goals
      rw [if_neg fun ⟨h, hp⟩ => (hh h).1 hp, if_neg fun ⟨h, hr⟩ => (hh h).2 hr, if_neg (Bool.eq_false_iff.mp hrm)]
    · rw [if_pos ⟨hb, hrd⟩, unpredictable]
    · rw [if_neg fun ⟨h, hr⟩ => hb h hr, if_pos ⟨(writesBack_iff ix).mpr hw, hrn⟩, unpredictable]
    · rw [if_neg fun ⟨h, hr⟩ => hb h hr, if_neg fun ⟨_, h⟩ => hrn h,
        if_pos ⟨hl, (writesBack_iff ix).mpr hw, hsame⟩, unpredictable]
  · obtain ⟨body, h⟩ := exec_block_checked hc load
    dsimp only
    rw [h, blockChecked, ← restores_iff]
    refine ⟨fun hrn => ?_, fun hrn hs hw hto => ?_, fun hrn hs hw hm => ?_⟩
    · rw [if_pos hrn, unpredictable]
    · rw [if_neg hrn, if_pos ⟨hs, hw, Bool.eq_false_iff.mpr hto⟩, unpredictable]
    · have hallowed : ¬ (o.s = true ∧ o.wb = true ∧ (load && decide (15#4 ∈ blockRegs o.list)) = false) := by
        rintro ⟨-, hwb, hto⟩
        obtain hw | hw := hw
        · exact absurd (hwb.symm.trans hw) nofun
        · exact absurd (hw.symm.trans hto) nofun
      rw [if_neg hrn, if_neg hallowed, if_pos ⟨hs, hm⟩, unpredictable]

end Sys2Proof.Proofs
end

section
/-! PROOFS. STR, STRB and STRH (R560, R563, R564, R567, R832, R842). -/

namespace Sys2Proof.Proofs

open Sys2Proof.Machine Sys2Proof.Claims

/-! A store keeps the registers, in the IO window too (R122). -/

/-- PC, the registers and the status words. -/
def regsView (s : State) : Word × Psr × Vector Word 30 × (Word × Word × Word × Word × Word) := coreRegs s.cpu32

theorem writeDmaControl_keepsRegs (n : Fin 4) (v : Half) (s : State) : Keeps regsView s (writeDmaControl n v s) := by
  unfold writeDmaControl
  dsimp only
  split
  · exact .next rfl
  split
  · exact .next rfl
  split
  · exact .refused
  · exact .next rfl

theorem writePostHalt_keepsRegs (v mask : Half) (s : State) : Keeps regsView s (writePostHalt v mask s) := by
  have hpost : regsView (if mask.getLsbD 0 then on32 (fun c => { c with postflg := v.getLsbD 0 }) s else s) =
      regsView s := by
    split <;> rfl
  unfold writePostHalt
  dsimp only
  split
  · split
    · exact .refused
    · exact .next hpost
  · exact .next hpost

theorem regsView_writeTimerControl (n : Fin 4) (v : Half) (s : State) :
    regsView (on32 (fun c => c.writeTimerControl n v) s) = regsView s := by
  rw [regsView, on32_cpu32, Cpu32.writeTimerControl]
  dsimp only
  split <;> rfl

theorem ioWrite16_keepsRegs (r : Io32) (o : Nat) (v mask : Half) (s : State) :
    Keeps regsView s (ioWrite16 r o v mask s) := by
  cases r with
  | dmaControl n => exact writeDmaControl_keepsRegs n v s
  | postHalt => exact writePostHalt_keepsRegs v mask s
  | timerControl n => exact .next (regsView_writeTimerControl n v s)
  | _ => exact .next rfl

theorem ioWrite_keepsRegs (w : Width) (a v : Word) (s : State) : Keeps regsView s (ioWrite w a v s) := by
  cases w with
  | byte => exact .of_view_eq (congrArg coreRegs (stored16_cpu32 _ s)) (ioWrite16_keepsRegs _ _ _ _ _)
  | half => exact ioWrite16_keepsRegs _ _ _ _ s
  | word => exact .thenRes (ioWrite16_keepsRegs _ _ _ _ s) fun t => ioWrite16_keepsRegs _ _ _ _ t

theorem memWrite_keepsRegs (m : Master) (w : Width) (a v : Word) (s : State) : Keeps regsView s (memWrite m w a v s) := by
  by_cases h : region a = .io
  · unfold memWrite
    rw [h]
    exact ioWrite_keepsRegs w a v s
  · obtain ⟨t, ht, hframe, -⟩ := memWrite_writesTo m w a v s h
    rw [ht]
    exact .next ((congrArg regsView hframe).trans rfl)

theorem storeData_keepsRegs (seq : Bool) (w : Width) (a v : Word) (s : State) :
    Keeps regsView s (storeData seq w a v s) := by
  unfold storeData
  dsimp only
  split
  · exact .fault
  · exact .of_view_eq rfl (memWrite_keepsRegs .cpu w a v _)

theorem mode_of_storeData {seq : Bool} {w : Width} {a v : Word} {s t : State} (h : storeData seq w a v s = .next t) :
    t.cpu32.cpsr.mode = s.cpu32.cpsr.mode :=
  congrArg (fun r => r.2.1.mode) (storeData_keepsRegs seq w a v s t h)

/-! The ending (R832, R834). -/

theorem codeCost_false_eq_nCost (s : State) : codeCost false s = nCost s := by
  unfold codeCost nCost
  rw [codeBytes_eq_len32]
  rfl

theorem nCost_congr {s t : State} (h : SameFetch t.cpu32 s.cpu32) : nCost t = nCost s := by
  obtain ⟨hp, ht, hw⟩ := h
  rw [← codeCost_false_eq_nCost, ← codeCost_false_eq_nCost]
  exact codeCost_congr false hw hp ht

/-- A store ends past itself, at the cost of its code fetch. -/
theorem retireStore_withCpu32 {s : State} {c : Cpu32} (h : SameFetch c s.cpu32) :
    retireStore { s with cpu32 := c } = .next (past s c (nCost s)) := by
  have hn : nCost { s with cpu32 := c } = nCost s := nCost_congr h
  obtain ⟨hp, ht, -⟩ := h
  have hlen : BitVec.ofNat 32 c.codeBytes = len32 s := by
    rw [← codeBytes_eq_len32, Cpu32.codeBytes, Cpu32.codeBytes, ht]
  simp only [retireStore, advancePc, on32, charge, codeCost_false_eq_nCost, hn, past, hlen, hp]

/-! The rows. -/

/-- STR and STRB, in both forms of the offset (R560). -/
theorem exec_of_storeWordOffset {w : Width} {imm : XferImm → Instr} {reg : XferReg → Instr} {s : State} {ix : Index}
    {offset : Word} {i : Instr} (h : WordOffset s ix offset imm reg i) (hc : CondHolds ix.cond s.cpu32.cpsr)
    (himm : ∀ o, exec (imm o) s = storeSingleImm w o s) (hreg : ∀ o, exec (reg o) s = storeSingleReg w o s) :
    exec i s = storeIndexed w ix offset s := by
  rw [← condPasses_iff] at hc
  obtain ⟨o, rfl, rfl, rfl⟩ | ⟨o, rfl, rfl, hrm, rfl⟩ := h
  · rw [himm, storeSingleImm, ifCond_pass hc]
  · rw [hreg, storeSingleReg, ifCond_pass hc, if_neg hrm, regOffset]

/-- STRH, in both forms of the offset (R565, R567). -/
theorem exec_of_storeHalfOffset {s : State} {ix : Index} {offset : Word} {i : Instr}
    (h : HalfOffset s ix offset .armStrhImm .armStrhReg i) (hc : CondHolds ix.cond s.cpu32.cpsr) :
    exec i s = storeIndexed .half ix offset s := by
  have himm : ∀ o, exec (.armStrhImm o) s = storeHalfImm o s := fun _ => rfl
  have hreg : ∀ o, exec (.armStrhReg o) s = storeHalfReg o s := fun _ => rfl
  rw [← condPasses_iff] at hc
  obtain ⟨hpost, hrd, ⟨o, rfl, rfl, rfl⟩ | ⟨o, rfl, rfl, hrm, rfl⟩⟩ := h
  · rw [himm, storeHalfImm, ifCond_pass hc, halfChecked_allowed hpost hrd, halfImm_offset]
  · rw [hreg, storeHalfReg, ifCond_pass hc, halfChecked_allowed hpost hrd, if_neg hrm]

/-- Every row of the single stores is `storeIndexed` once its own restrictions are met. -/
theorem exec_of_storeForm {w : Width} {s : State} {ix : Index} {offset : Word} {i : Instr}
    (h : StoreForm w s ix offset i) (hc : CondHolds ix.cond s.cpu32.cpsr) : exec i s = storeIndexed w ix offset s := by
  cases w with
  | word => exact exec_of_storeWordOffset h hc (fun _ => rfl) (fun _ => rfl)
  | byte => exact exec_of_storeWordOffset h hc (fun _ => rfl) (fun _ => rfl)
  | half => exact exec_of_storeHalfOffset h hc

/-- The state after a single store and its writeback (R560, R832). -/
def storedPast (ix : Index) (offset : Word) (s t : State) : State :=
  past t
    (if ix.pre = true ∧ ix.wb = false then t.cpu32
      else t.cpu32.setRegIn s.cpu32.cpsr.mode ix.rn (offsetAddr ix offset s)) (nCost t)

theorem not_writesBack_iff (ix : Index) : ¬ writesBack ix ↔ ix.pre = true ∧ ix.wb = false := by
  rw [writesBack, not_or, Bool.not_eq_false, Bool.not_eq_true]

theorem retireStore_writeBack {ix : Index} {offset : Word} {s t : State}
    (hmode : t.cpu32.cpsr.mode = s.cpu32.cpsr.mode) :
    retireStore (Index.writeBack ix (offsetAddr ix offset s) t) = .next (storedPast ix offset s t) := by
  by_cases hw : writesBack ix
  · rw [writeBack_of_writesBack hw, storedPast, if_neg fun h => (not_writesBack_iff ix).mpr h hw, ← hmode]
    exact retireStore_withCpu32 (sameFetch_setX t ix.rn _)
  · rw [writeBack_of_not_writesBack hw, storedPast, if_pos ((not_writesBack_iff ix).mp hw)]
    exact retireStore_withCpu32 (c := t.cpu32) SameFetch.rfl

/-- A single store is the bus write, then the writeback. -/
theorem storeIndexed_allowed {w : Width} {ix : Index} {offset : Word} {s : State} (hwb : writesBack ix → ix.rn ≠ 15#4) :
    storeIndexed w ix offset s = thenRes (storeData false w (transferAddr ix offset s) (readRegLate ix.rd s) s)
      fun t => .next (storedPast ix offset s t) := by
  have hbase : ¬ (Index.writesBack ix = true ∧ ix.rn = 15#4) := fun ⟨hw, he⟩ => hwb ((writesBack_iff ix).mp hw) he
  have haddr : Index.addr ix offset s = transferAddr ix offset s := rfl
  rw [storeIndexed, if_neg hbase, haddr]
  cases hstore : storeData false w (transferAddr ix offset s) (readRegLate ix.rd s) s with
  | next t => exact retireStore_writeBack (mode_of_storeData hstore)
  | fault f => rfl
  | refused q => rfl

/-- Settles O33: each row is `storeIndexed`, whose bus write stops on the hazard and completes outside the IO window. -/
theorem armStores : Obligations.ArmStores := by
  intro w ix offset i s hform hc hwb
  have hexec := (exec_of_storeForm hform hc).trans (storeIndexed_allowed hwb)
  refine ⟨fun hhaz => ?_, hexec, fun hhaz hio => ?_⟩
  · rw [hexec, storeData_of_hazard hhaz, unpredictable, thenRes_fault]
  · obtain ⟨t, ht⟩ := storeData_of_not_hazard hhaz hio false (readRegLate ix.rd s)
    refine ⟨t, ht, ?_⟩
    rw [hexec, ht, thenRes_next]
    rfl

end Sys2Proof.Proofs
end

section
/-! PROOFS. Storing a word outside the IO window (R103, R120 to R129, R842). -/

namespace Sys2Proof.Proofs

open Sys2Proof.Machine Sys2Proof.Claims

/-! The bus write of a word. -/

@[simp] theorem onSave_draws (f : Save → Save) (s : State) : (onSave f s).draws = s.draws := rfl
@[simp] theorem setSaveByte_draws (o : Nat) (v : Byte) (s : State) : (setSaveByte o v s).draws = s.draws := rfl
@[simp] theorem eraseSave_draws (o n : Nat) (s : State) : (eraseSave o n s).draws = s.draws := rfl

theorem flashCommand_draws (b : Nat) (s : State) : (flashCommand b s).draws = s.draws := by
  unfold flashCommand
  dsimp only
  split
  case h_4 => split <;> simp only [onSave_draws, eraseSave_draws]
  all_goals rfl

theorem flashWrite_draws (o : Nat) (b : Byte) (s : State) : (flashWrite o b s).draws = s.draws := by
  unfold flashWrite
  dsimp only
  split
  · rfl
  split
  · rfl
  split
  · rfl
  split
  · rfl
  split
  · exact flashCommand_draws _ s
  split
  · rw [onSave_draws, eraseSave_draws]
  split <;> rfl

/-- A write of the save region draws nothing (R151 to R154). -/
theorem saveWrite_draws (byteWrite : Bool) (a : Nat) (b : Byte) (s : State) :
    (saveWrite byteWrite a b s).draws = s.draws := by
  have hdetect : (if s.cpu32.save.kind = .unknown then
      onSave (fun v => { v with kind := detectSave byteWrite a b }) s else s).draws = s.draws := by
    split <;> rfl
  unfold saveWrite
  dsimp only
  split
  · exact hdetect
  · exact (flashWrite_draws _ _ _).trans hdetect
  · exact (flashWrite_draws _ _ _).trans hdetect
  all_goals exact hdetect

/-- A write of the save region neither makes nor unmakes an EEPROM (R151). -/
theorem saveWrite_isEepromType (byteWrite : Bool) (a : Nat) (b : Byte) (s : State) :
    isEepromType (saveWrite byteWrite a b s).cpu32.save.kind = isEepromType s.cpu32.save.kind := by
  by_cases h : s.cpu32.save.kind = .unknown
  · have hdetect : isEepromType (detectSave byteWrite a b) = false := by
      unfold detectSave
      split <;> rfl
    have hknown : (onSave (fun v => { v with kind := detectSave byteWrite a b }) s).cpu32.save.kind ≠ .unknown :=
      detectSave_ne_unknown byteWrite a b
    rw [saveWrite_unknown h, (inSave_saveWrite hknown).1, h]
    exact hdetect
  · rw [(inSave_saveWrite h).1]

/-- A word write of cartridge ROM is ignored, the EEPROM's window too (R128, R156). -/
theorem romWrite_word (m : Master) (a v : Word) (s : State) : romWrite m .word a v s = s := by
  unfold romWrite
  split <;> rfl

/-- A word write outside the IO window draws nothing, keeps which addresses are the EEPROM's, and changes the save machine
from the save region only (R120, R151). -/
theorem memWrite_word_save {m : Master} {a v : Word} {s t : State} (hio : region a ≠ .io)
    (h : memWrite m .word a v s = .next t) : t.draws = s.draws ∧
    isEepromType t.cpu32.save.kind = isEepromType s.cpu32.save.kind ∧
    (region a ≠ .save → t.cpu32.save = s.cpu32.save) := by
  obtain hr | hignored | hsave | ⟨x, hrom⟩ := region_cases hio
  · obtain hw | ⟨hw, -⟩ | ⟨hw, -⟩ := memWrite_ram_cases m .word v s hr
    · obtain rfl := Host.Outcome.next.inj (hw.2.symm.trans h)
      exact ⟨rfl, rfl, fun _ => rfl⟩
    · cases hw
    · cases hw
  · obtain rfl := Host.Outcome.next.inj ((memWrite_ignored hignored).symm.trans h)
    exact ⟨rfl, rfl, fun _ => rfl⟩
  · rw [memWrite, hsave] at h
    cases h
    exact ⟨saveWrite_draws _ _ _ s, saveWrite_isEepromType _ _ _ s, fun hne => absurd hsave hne⟩
  · rw [memWrite, hrom] at h
    obtain rfl := (romWrite_word m a v s).symm.trans (Host.Outcome.next.inj h)
    exact ⟨rfl, rfl, fun _ => rfl⟩

/-! Where the hazard is the same (R842). -/

/-- Two states in which a store meets the same hazard. -/
def SameHazard (s t : State) : Prop :=
  t.cpu32.pc = s.cpu32.pc ∧ t.cpu32.cpsr.t = s.cpu32.cpsr.t ∧
    isEepromType t.cpu32.save.kind = isEepromType s.cpu32.save.kind

theorem SameHazard.trans {s t u : State} (h : SameHazard s t) (h' : SameHazard t u) : SameHazard s u := by
  obtain ⟨hp, ht, he⟩ := h
  obtain ⟨hp', ht', he'⟩ := h'
  exact ⟨hp'.trans hp, ht'.trans ht, he'.trans he⟩

theorem SameHazard.hazard_iff {s t : State} (h : SameHazard s t) (w : Width) (a : Word) :
    Hazard t w a ↔ Hazard s w a := by
  obtain ⟨hp, ht, he⟩ := h
  have hspan : storeSpan w a t = storeSpan w a s := by
    unfold storeSpan
    rw [he]
  rw [Hazard, Hazard, hspan, hp, len32, len32, ht]

/-! The bytes a word names. -/

theorem wordAt_eq_alignTo (a : Word) : wordAt a = alignTo .word a := rfl

/-- A byte that a word store at an address may change: of the word in core memory, or a save byte (R120). -/
def WordByte (a : Word) (k : Nat) : Prop :=
  (isRam (region a) ∧ ∃ b, b < 4 ∧ k = memKey (region a) (a.toNat / 4 * 4) + b) ∨ (region a = .save ∧ 0x0E000000 ≤ k)

theorem memKey_word {r : Region} (hr : isRam r) (x : Nat) {b : Nat} (hb : b < 4) :
    memKey r (x / 4 * 4 + b) = memKey r (x / 4 * 4) + b := memKey_unit hr .word x hb

/-- Two addresses of a region less than 1 KiB apart are two bytes (R124 to R127). -/
theorem memKey_ne_of_lt {r : Region} (hr : isRam r) {x y : Nat} (hlt : x < y) (hnear : y < x + 0x400) :
    memKey r x ≠ memKey r y := by
  obtain rfl | rfl | rfl | rfl | rfl := hr
  case inr.inr.inr.inl =>
    simp only [memKey, vramOffset]
    split <;> split <;> omega
  all_goals
    simp only [memKey]
    omega

theorem lt_of_isRam {a : Word} (h : isRam (region a)) : a.toNat < 0x08000000 := by
  have h' := inRegion_region a
  obtain hr | hr | hr | hr | hr := h <;> rw [hr] at h' <;> simp only [InRegion] at h' <;> omega

/-- The words that follow a word of core memory, as far as a block transfer reaches, do not overlap it. -/
theorem not_wordByte_of_later {a : Word} (hr : isRam (region a)) {j b : Nat} (hj : j < 0x40) (hb : b < 4) :
    ¬ WordByte (a + 4 + BitVec.ofNat 32 (4 * j)) (memKey (region a) (a.toNat / 4 * 4) + b) := by
  rw [← memKey_word hr _ hb]
  rintro (⟨hr', b', hb', hk⟩ | ⟨-, hk⟩)
  · rw [← memKey_word hr' _ hb'] at hk
    by_cases hsame : region a = region (a + 4 + BitVec.ofNat 32 (4 * j))
    · rw [← hsame] at hk
      have ha := lt_of_isRam hr
      have hnat : (a + 4 + BitVec.ofNat 32 (4 * j)).toNat = a.toNat + 4 * (j + 1) := by
        rw [add_four_mul_succ, BitVec.toNat_add, BitVec.toNat_ofNat]
        omega
      rw [hnat] at hk
      exact memKey_ne_of_lt hr (by omega) (by omega) hk
    · exact memKey_ne_of_region hr hr' hsame _ _ hk
  · have hpage := memKey_page hr (a.toNat / 4 * 4 + b)
    have hlow : pageOf (region a) < 8 := by
      obtain h | h | h | h | h := hr <;> rw [h] <;> decide
    omega

/-! Words at rising addresses. -/

/-- What stores of these words at rising addresses leave in memory and the save machine: each word of core memory is
there, and no other byte changes but save bytes (R120, R834). -/
structure WordsStored (a : Word) (vs : List Word) (s t : State) : Prop where
  eeprom : isEepromType t.cpu32.save.kind = isEepromType s.cpu32.save.kind
  save : (∀ j, j < vs.length → region (a + BitVec.ofNat 32 (4 * j)) ≠ .save) → t.cpu32.save = s.cpu32.save
  canonical : Memory.wf s.cpu32.mem = true → Memory.wf t.cpu32.mem = true
  words : Memory.wf s.cpu32.mem = true → ∀ j v, vs[j]? = some v → isRam (region (a + BitVec.ofNat 32 (4 * j))) →
    ramWord t (a + BitVec.ofNat 32 (4 * j)) = v
  others : Memory.wf s.cpu32.mem = true → ∀ k, Memory.read t.cpu32.mem k ≠ Memory.read s.cpu32.mem k →
    ∃ j, j < vs.length ∧ WordByte (a + BitVec.ofNat 32 (4 * j)) k

theorem WordsStored.nil (a : Word) (s : State) : WordsStored a [] s s :=
  ⟨rfl, fun _ => rfl, id, fun _ _ _ h _ => (nomatch h), fun _ _ h => absurd rfl h⟩

theorem ramWord_congr {s t : State} {a : Word}
    (h : ∀ b, b < 4 → Memory.read t.cpu32.mem (memKey (region a) (a.toNat / 4 * 4) + b) =
      Memory.read s.cpu32.mem (memKey (region a) (a.toNat / 4 * 4) + b)) : ramWord t a = ramWord s a := by
  have h0 := h 0 (by decide)
  rw [Nat.add_zero] at h0
  simp only [ramWord, h0, h 1 (by decide), h 2 (by decide), h 3 (by decide)]

/-- One word, then the words after it. -/
theorem WordsStored.cons {a v : Word} {vs : List Word} {s t u : State} (hlen : vs.length < 0x40)
    (h : WordsStored a [v] s t) (h' : WordsStored (a + 4) vs t u) : WordsStored a (v :: vs) s u where
  eeprom := h'.eeprom.trans h.eeprom
  save hne := by
    have hfirst : ∀ j, j < 1 → region (a + BitVec.ofNat 32 (4 * j)) ≠ .save := fun j hj => hne j (by
      rw [List.length_cons]
      omega)
    refine (h'.save fun j hj => ?_).trans (h.save hfirst)
    rw [add_four_mul_succ]
    exact hne (j + 1) (Nat.succ_lt_succ hj)
  canonical hm := h'.canonical (h.canonical hm)
  words hm j w hj hr := by
    cases j with
    | zero =>
      obtain rfl : v = w := Option.some.inj hj
      have hword := h.words hm 0 v rfl hr
      rw [Nat.mul_zero, BitVec.add_zero] at hr hword ⊢
      rw [← hword]
      refine ramWord_congr fun b hb => ?_
      by_contra hne
      obtain ⟨j, hj, hbyte⟩ := h'.others (h.canonical hm) _ hne
      exact not_wordByte_of_later hr (hj.trans hlen) hb hbyte
    | succ j =>
      rw [← add_four_mul_succ] at hr ⊢
      exact h'.words (h.canonical hm) j w hj hr
  others hm k hk := by
    by_cases hrest : Memory.read u.cpu32.mem k = Memory.read t.cpu32.mem k
    · obtain ⟨j, hj, hbyte⟩ := h.others hm k (hrest ▸ hk)
      exact ⟨j, (hj.trans_le (Nat.succ_le_succ (Nat.zero_le _))), hbyte⟩
    · obtain ⟨j, hj, hbyte⟩ := h'.others (h.canonical hm) k hrest
      rw [add_four_mul_succ] at hbyte
      exact ⟨j + 1, Nat.succ_lt_succ hj, hbyte⟩

/-! One word. -/

/-- A write outside the IO window keeps memory's canonical form. -/
theorem memWrite_wf {m : Master} {w : Width} {a v : Word} {s t : State} (hio : region a ≠ .io)
    (h : memWrite m w a v s = .next t) (hm : Memory.wf s.cpu32.mem = true) : Memory.wf t.cpu32.mem = true := by
  obtain ⟨u, hu, -, hwf⟩ := memWrite_writesTo m w a v s hio
  obtain rfl := Host.Outcome.next.inj (hu.symm.trans h)
  exact hwf hm

/-- The bytes a word store names (R103). -/
theorem storeSpan_word {a : Word} {s : State} (hr : isRam (region a)) :
    storeSpan .word (alignTo .word a) s = (alignTo .word a, 4) := by
  have hr' : isRam (region (alignTo .word a)) := by rwa [region_alignTo_word]
  rw [storeSpan_wide (w := .word) (by decide) hr', alignTo_word_alignTo_word]
  rfl

/-- A word is its four bytes (R102). -/
theorem append_bytes (v : Word) : (v >>> (8 * 3)).setWidth 8 ++ (v >>> (8 * 2)).setWidth 8 ++
    (v >>> (8 * 1)).setWidth 8 ++ (v >>> (8 * 0)).setWidth 8 = v := by
  have hv := v.isLt
  apply BitVec.eq_of_toNat_eq
  simp only [byte_eq, toNat_append_byte, BitVec.toNat_ofNat]
  omega

/-- A word written to core memory stands there (R103). -/
theorem ramWord_of_memWrite {m : Master} {a v : Word} {s t : State} (hm : Memory.wf s.cpu32.mem = true)
    (hr : isRam (region a)) (h : memWrite m .word (alignTo .word a) v s = .next t) : ramWord t a = v := by
  obtain ⟨-, hin, -⟩ := memWrite_ram m .word v hm (by rwa [region_alignTo_word]) h
  rw [storeSpan_word hr, region_alignTo_word, alignTo_word_toNat] at hin
  have hbyte : ∀ b, b < 4 → Memory.read t.cpu32.mem (memKey (region a) (a.toNat / 4 * 4) + b) =
      (v >>> (8 * b)).setWidth 8 := by
    intro b hb
    rw [← memKey_word hr _ hb]
    exact hin b hb
  have h0 := hbyte 0 (by decide)
  rw [Nat.add_zero] at h0
  rw [ramWord, h0, hbyte 1 (by decide), hbyte 2 (by decide), hbyte 3 (by decide)]
  exact append_bytes v

/-- A word write changes no other byte, but save bytes (R120). -/
theorem wordByte_of_memWrite {m : Master} {a v : Word} {s t : State} (hm : Memory.wf s.cpu32.mem = true)
    (hio : region a ≠ .io) (h : memWrite m .word (alignTo .word a) v s = .next t) {k : Nat}
    (hk : Memory.read t.cpu32.mem k ≠ Memory.read s.cpu32.mem k) : WordByte a k := by
  obtain ⟨hr, j, hj, rfl⟩ | ⟨hlow, hsave | ⟨x, hrom⟩⟩ := memWrite_changes hm (by rwa [region_alignTo_word]) h hk
  · rw [region_alignTo_word] at hr ⊢
    rw [storeSpan_word hr] at hj ⊢
    rw [alignTo_word_toNat]
    exact .inl ⟨hr, j, hj, memKey_word hr _ hj⟩
  · rw [region_alignTo_word] at hsave
    exact .inr ⟨hsave, hlow⟩
  · rw [memWrite, hrom] at h
    obtain rfl := (romWrite_word m _ v s).symm.trans (Host.Outcome.next.inj h)
    exact absurd rfl hk

/-- An instruction's stores: the half `c`, but for the last access, memory and the save machine, at this cost. -/
def Stores (c : Cpu32) (cost : Nat) (s t : State) : Prop :=
  t = { s with
    cpu32 := { c with lastAccess := t.cpu32.lastAccess, save := t.cpu32.save, mem := t.cpu32.mem }
    cycles := s.cycles + cost }

/-- A word store outside the IO window that meets no hazard. -/
theorem storeData_word {a : Word} {s : State} (hio : region a ≠ .io) (hhaz : ¬ Hazard s .word (wordAt a)) (seq : Bool)
    (v : Word) : ∃ t, storeData seq .word (alignTo .word a) v s = .next t ∧
      Stores s.cpu32 (accessCost seq .word a s) s t ∧ WordsStored a [v] s t := by
  have hio' : region (alignTo .word a) ≠ .io := by rwa [region_alignTo_word]
  rw [wordAt_eq_alignTo] at hhaz
  obtain ⟨t, ht⟩ := storeData_of_not_hazard hhaz hio' seq v
  let u := recordAccess (alignTo .word a) .word false (charge (accessCost seq .word (alignTo .word a) s) s)
  have hwrite : memWrite .cpu .word (alignTo .word a) v u = .next t := memWrite_of_storeData ht
  obtain ⟨hdraws, heeprom, hsave⟩ := memWrite_word_save hio' hwrite
  refine ⟨t, ht, ?_, heeprom, ?_, memWrite_wf (s := u) hio' hwrite, ?_, ?_⟩
  · have hframe := storeData_state hio' ht
    have hlast := congrArg (fun t => t.cpu32.lastAccess) hframe
    have hdraws' : t.draws = s.draws := hdraws
    rw [accessCost_alignTo_word, hdraws'] at hframe
    rw [Stores, hlast]
    exact hframe
  · intro hne
    have h0 := hne 0 Nat.one_pos
    rw [Nat.mul_zero, BitVec.add_zero] at h0
    exact hsave (by rwa [region_alignTo_word])
  · intro hm j w hj hr
    obtain ⟨rfl, rfl⟩ : j = 0 ∧ v = w := by
      cases j with
      | zero => exact ⟨rfl, Option.some.inj hj⟩
      | succ j => cases hj
    rw [Nat.mul_zero, BitVec.add_zero] at hr ⊢
    exact ramWord_of_memWrite (s := u) hm hr hwrite
  · intro hm k hk
    refine ⟨0, Nat.one_pos, ?_⟩
    rw [Nat.mul_zero, BitVec.add_zero]
    exact wordByte_of_memWrite (s := u) hm hio hwrite hk

end Sys2Proof.Proofs
end

section
/-! PROOFS. Storing a list of registers (R580, R582, R834, R842). -/

namespace Sys2Proof.Proofs

open Sys2Proof.Machine Sys2Proof.Claims

/-! What a block store reads and writes of the registers. -/

/-- The registers, all at once. -/
def setSlots (r : Vector Word 30) (s : State) : State := { s with cpu32 := { s.cpu32 with slots := r } }

/-- A value that depends on the registers, PC and CPSR only. -/
def ReadsRegs (get : RegNum → State → Word) : Prop := ∀ (i : RegNum) {s t : State}, t.cpu32.slots = s.cpu32.slots →
  t.cpu32.pc = s.cpu32.pc → t.cpu32.cpsr = s.cpu32.cpsr → get i t = get i s

/-- A base write that leaves the registers `r` in every state with the registers and CPSR of `s`. -/
def WritesSlots (wb : State → State) (r : Vector Word 30) (s : State) : Prop := ∀ t : State,
  t.cpu32.slots = s.cpu32.slots → t.cpu32.cpsr = s.cpu32.cpsr → wb t = setSlots r t

theorem Stores.trans {c : Cpu32} {n m : Nat} {s t u : State} (h : Stores c n s t) (h' : Stores t.cpu32 m t u) :
    Stores c (n + m) s u := by
  unfold Stores at *
  rw [h', h, ← Nat.add_assoc]

theorem stores_setSlots {c : Cpu32} {n : Nat} {s t : State} (h : Stores c n s t) (r : Vector Word 30) :
    Stores { c with slots := r } n s (setSlots r t) := by
  unfold Stores at h
  rw [Stores, setSlots, h]

section
variable {c : Cpu32} {n : Nat} {s t : State}

theorem Stores.slots_eq (h : Stores c n s t) : t.cpu32.slots = c.slots := by rw [h]
theorem Stores.pc_eq (h : Stores c n s t) : t.cpu32.pc = c.pc := by rw [h]
theorem Stores.cpsr_eq (h : Stores c n s t) : t.cpu32.cpsr = c.cpsr := by rw [h]
theorem Stores.waitcnt_eq (h : Stores c n s t) : t.cpu32.waitcnt = c.waitcnt := by rw [h]

end

theorem WordsStored.sameHazard {a : Word} {vs : List Word} {n : Nat} {s t : State} (h : WordsStored a vs s t)
    (hs : Stores s.cpu32 n s t) : SameHazard s t := ⟨hs.pc_eq, by rw [hs.cpsr_eq], h.eeprom⟩

/-- The words of a transfer: the first, and those after it. -/
theorem forall_words_cons {P : Word → Prop} {a : Word} {n : Nat}
    (h : ∀ j, j < n + 1 → P (a + BitVec.ofNat 32 (4 * j))) :
    P a ∧ ∀ j, j < n → P (a + 4 + BitVec.ofNat 32 (4 * j)) := by
  have h0 := h 0 (Nat.succ_pos n)
  rw [Nat.mul_zero, BitVec.add_zero] at h0
  refine ⟨h0, fun j hj => ?_⟩
  rw [add_four_mul_succ]
  exact h (j + 1) (Nat.succ_lt_succ hj)

theorem storeRegs_cons (get : RegNum → State → Word) (wb : State → State) (first : Bool) (i : RegNum)
    (rest : List RegNum) (a : Word) (s : State) : storeRegs get wb first (i :: rest) a s =
      thenRes (storeData (!first) .word (alignTo .word a) (get i s) s) fun t =>
        storeRegs get wb false rest (a + 4) (if first then wb t else t) := rfl

/-! The hazard. -/

/-- A word in the two slots after the instruction stops the block, whatever was stored before it (R842). -/
theorem storeRegs_stops {get : RegNum → State → Word} {wb : State → State} (hwb : ∀ t, SameHazard t (wb t))
    (regs : List RegNum) (first : Bool) {a : Word} {s : State}
    (hio : ∀ j, j < regs.length → region (a + BitVec.ofNat 32 (4 * j)) ≠ .io)
    (h : ∃ j, j < regs.length ∧ Hazard s .word (wordAt (a + BitVec.ofNat 32 (4 * j)))) :
    storeRegs get wb first regs a s = unpredictable .storeIntoPrefetch s := by
  induction regs generalizing first a s with
  | nil =>
    obtain ⟨j, hj, -⟩ := h
    exact absurd hj (Nat.not_lt_zero j)
  | cons i rest ih =>
    obtain ⟨hio0, hrest⟩ := forall_words_cons (P := fun b => region b ≠ .io) hio
    rw [storeRegs_cons]
    by_cases hhaz : Hazard s .word (wordAt a)
    · rw [← wordAt_eq_alignTo, storeData_of_hazard hhaz, unpredictable, thenRes_fault]
    · obtain ⟨t, ht, hstores, hwords⟩ := storeData_word hio0 hhaz (!first) (get i s)
      have hsame : SameHazard s (if first then wb t else t) := by
        split
        · exact (hwords.sameHazard hstores).trans (hwb t)
        · exact hwords.sameHazard hstores
      obtain ⟨j, hj, hlater⟩ := h
      cases j with
      | zero =>
        rw [Nat.mul_zero, BitVec.add_zero] at hlater
        exact absurd hlater hhaz
      | succ j =>
        rw [← add_four_mul_succ] at hlater
        rw [ht, thenRes_next, ih false hrest ⟨j, Nat.lt_of_succ_lt_succ hj, (hsame.hazard_iff _ _).mpr hlater⟩,
          unpredictable, unpredictable, hsame.1]

/-! The stores. -/

theorem wordsCost_congr {s t : State} (h : t.cpu32.waitcnt = s.cpu32.waitcnt) (first : Bool) (a : Word) (n : Nat) :
    wordsCost first a t n = wordsCost first a s n := by
  induction n generalizing first a with
  | zero => rfl
  | succ n ih => rw [wordsCost, wordsCost, accessCost_congr _ _ _ h, ih]

/-- After the first word each register is stored as it stands. -/
theorem storeRegs_rest {get : RegNum → State → Word} (hget : ReadsRegs get) (wb : State → State) {regs : List RegNum}
    (hlen : regs.length ≤ 0x40) {a : Word} {s : State}
    (hio : ∀ j, j < regs.length → region (a + BitVec.ofNat 32 (4 * j)) ≠ .io)
    (hhaz : ∀ j, j < regs.length → ¬ Hazard s .word (wordAt (a + BitVec.ofNat 32 (4 * j)))) :
    ∃ t, storeRegs get wb false regs a s = .next t ∧ Stores s.cpu32 (wordsCost false a s regs.length) s t ∧
      WordsStored a (regs.map fun i => get i s) s t := by
  induction regs generalizing a s with
  | nil => exact ⟨s, rfl, rfl, .nil a s⟩
  | cons i rest ih =>
    obtain ⟨hio0, hiorest⟩ := forall_words_cons (P := fun b => region b ≠ .io) hio
    obtain ⟨hhaz0, hhazrest⟩ := forall_words_cons (P := fun b => ¬ Hazard s .word (wordAt b)) hhaz
    obtain ⟨t, ht, hstores, hwords⟩ := storeData_word hio0 hhaz0 true (get i s)
    have hsame := hwords.sameHazard hstores
    obtain ⟨u, hu, hstores', hwords'⟩ := ih (Nat.le_of_succ_le hlen) hiorest fun j hj =>
      mt (hsame.hazard_iff _ _).mp (hhazrest j hj)
    have hvalues : (rest.map fun k => get k t) = rest.map fun k => get k s :=
      List.map_congr_left fun k _ => hget k hstores.slots_eq hstores.pc_eq hstores.cpsr_eq
    rw [wordsCost_congr hstores.waitcnt_eq] at hstores'
    rw [hvalues] at hwords'
    refine ⟨u, ?_, hstores.trans hstores', hwords.cons (by rwa [List.length_map]) hwords'⟩
    rw [storeRegs_cons]
    exact (congrArg (thenRes · _) ht).trans hu

/-- The words of a block store: the first register as it was, the later ones after the base's write (R582). -/
def storedWords (get : RegNum → State → Word) (r : Vector Word 30) (s : State) : List RegNum → List Word
  | [] => []
  | i :: rest => get i s :: rest.map fun k => get k (setSlots r s)

theorem length_storedWords (get : RegNum → State → Word) (r : Vector Word 30) (s : State) (regs : List RegNum) :
    (storedWords get r s regs).length = regs.length := by
  cases regs with
  | nil => rfl
  | cons i rest => exact congrArg (· + 1) (List.length_map _)

theorem getElem?_storedWords {get : RegNum → State → Word} {r : Vector Word 30} {s : State} {regs : List RegNum}
    {j : Nat} {i : RegNum} (h : regs[j]? = some i) :
    (storedWords get r s regs)[j]? = some (if j = 0 then get i s else get i (setSlots r s)) := by
  cases regs with
  | nil => cases h
  | cons k rest =>
    cases j with
    | zero =>
      obtain rfl : k = i := Option.some.inj h
      rfl
    | succ j =>
      have hrest : rest[j]? = some i := h
      rw [storedWords, List.getElem?_cons_succ, List.getElem?_map, hrest, if_neg (Nat.succ_ne_zero j)]
      rfl

/-- A block of registers outside the IO window that meets no hazard. -/
theorem storeRegs_completes {get : RegNum → State → Word} {wb : State → State} {r : Vector Word 30}
    {regs : List RegNum} {a : Word} {s : State} (hget : ReadsRegs get) (hwb : WritesSlots wb r s) (hne : regs ≠ [])
    (hlen : regs.length ≤ 0x40) (hio : ∀ j, j < regs.length → region (a + BitVec.ofNat 32 (4 * j)) ≠ .io)
    (hhaz : ∀ j, j < regs.length → ¬ Hazard s .word (wordAt (a + BitVec.ofNat 32 (4 * j)))) :
    ∃ t, storeRegs get wb true regs a s = .next t ∧
      Stores { s.cpu32 with slots := r } (wordsCost true a s regs.length) s t ∧
      WordsStored a (storedWords get r s regs) s t := by
  cases regs with
  | nil => exact absurd rfl hne
  | cons i rest =>
    obtain ⟨hio0, hiorest⟩ := forall_words_cons (P := fun b => region b ≠ .io) hio
    obtain ⟨hhaz0, hhazrest⟩ := forall_words_cons (P := fun b => ¬ Hazard s .word (wordAt b)) hhaz
    obtain ⟨t, ht, hstores, hwords⟩ := storeData_word hio0 hhaz0 false (get i s)
    have hbase := hwb t hstores.slots_eq hstores.cpsr_eq
    have hsame : SameHazard s (setSlots r t) := hwords.sameHazard hstores
    obtain ⟨u, hu, hstores', hwords'⟩ := storeRegs_rest hget wb (Nat.le_of_succ_le hlen) hiorest fun j hj =>
      mt (hsame.hazard_iff _ _).mp (hhazrest j hj)
    have hstores0 := stores_setSlots hstores r
    have hwords0 : WordsStored a [get i s] s (setSlots r t) :=
      ⟨hwords.eeprom, hwords.save, hwords.canonical, hwords.words, hwords.others⟩
    have hvalues : (rest.map fun k => get k (setSlots r t)) = rest.map fun k => get k (setSlots r s) :=
      List.map_congr_left fun k _ => hget k rfl hstores.pc_eq hstores.cpsr_eq
    have hwait : (setSlots r t).cpu32.waitcnt = s.cpu32.waitcnt := hstores.waitcnt_eq
    rw [wordsCost_congr hwait] at hstores'
    rw [hvalues] at hwords'
    refine ⟨u, ?_, hstores0.trans hstores', hwords0.cons (by rwa [List.length_map]) hwords'⟩
    rw [storeRegs_cons]
    refine (congrArg (thenRes · _) ht).trans ?_
    rw [thenRes_next, if_pos rfl, hbase]
    exact hu

/-! The claim. -/

theorem stores_past {r : Vector Word 30} {n : Nat} {s t : State} (h : Stores { s.cpu32 with slots := r } n s t)
    (r' : Vector Word 30) (cost : Nat) : Stores { s.cpu32 with slots := r', pc := s.cpu32.pc + len32 s } (n + cost) s
      (past t (setSlots r' t).cpu32 cost) := by
  unfold Stores at h
  rw [Stores, h, ← Nat.add_assoc]
  rfl

theorem wordsCost_eq_blockCost {regs : List RegNum} (hne : regs ≠ []) (a : Word) (s : State) :
    wordsCost true a s regs.length = blockCost a regs.length s := by
  obtain ⟨n, hn⟩ := Nat.exists_eq_succ_of_ne_zero (mt List.length_eq_zero_iff.mp hne)
  rw [hn, wordsCost_true]

/-- What a block store claims of its words follows from what it stores. -/
theorem blockStores_imp {i : Instr} {addr : Nat → Word} {n : Nat} {c : Cpu32} {cost : Nat} {s : State}
    {stored stored' : State → Nat → Prop} (h : BlockStores i addr n c cost s stored)
    (himp : ∀ t j, stored t j → stored' t j) : BlockStores i addr n c cost s stored' := by
  intro hio
  obtain ⟨hstops, hcompletes⟩ := h hio
  refine ⟨hstops, fun hhaz => ?_⟩
  obtain ⟨t, ht, hframe, hsave, hmem⟩ := hcompletes hhaz
  refine ⟨t, ht, hframe, hsave, fun hm => ?_⟩
  obtain ⟨hin, hout⟩ := hmem hm
  exact ⟨fun j hj hr => himp t j (hin j hj hr), hout⟩

/-- A block store that ends with a write of registers, or none, and its code fetch (R582, R834). -/
theorem blockStores_of_storeRegs {i : Instr} {get : RegNum → State → Word} {wb ending : State → State}
    {r r' : Vector Word 30} {regs : List RegNum} {a : Word} {s : State}
    (hexec : exec i s = thenRes (storeRegs get wb true regs a s) fun t => retireStore (ending t))
    (hget : ReadsRegs get) (hwb : WritesSlots wb r s) (hsame : ∀ t, SameHazard t (wb t))
    (hending : WritesSlots ending r' (setSlots r s)) (hne : regs ≠ []) (hlen : regs.length ≤ 0x40) :
    BlockStores i (fun j => a + BitVec.ofNat 32 (4 * j)) regs.length { s.cpu32 with slots := r' }
      (blockCost a regs.length s + nCost s) s fun t j =>
        ∀ v, (storedWords get r s regs)[j]? = some v → ramWord t (a + BitVec.ofNat 32 (4 * j)) = v := by
  intro hio
  refine ⟨fun h => ?_, fun hhaz => ?_⟩
  · rw [hexec, storeRegs_stops hsame regs true hio h, unpredictable, thenRes_fault]
  · obtain ⟨t, ht, hstores, hwords⟩ := storeRegs_completes hget hwb hne hlen hio hhaz
    rw [wordsCost_eq_blockCost hne] at hstores
    have hend := hending t hstores.slots_eq hstores.cpsr_eq
    have hfetch : nCost t = nCost s := nCost_congr ⟨hstores.pc_eq, by rw [hstores.cpsr_eq], hstores.waitcnt_eq⟩
    have hretire : retireStore (setSlots r' t) = .next (past t (setSlots r' t).cpu32 (nCost s)) :=
      hfetch ▸ retireStore_withCpu32 (c := (setSlots r' t).cpu32) ⟨rfl, rfl, rfl⟩
    obtain ⟨-, hsave, -, hin, hout⟩ := hwords
    rw [length_storedWords] at hsave hout
    refine ⟨past t (setSlots r' t).cpu32 (nCost s), ?_, stores_past hstores r' (nCost s), hsave,
      fun hm => ⟨fun j hj hr v hv => hin hm j v hv hr, hout hm⟩⟩
    rw [hexec, ht, thenRes_next, hend, hretire]

end Sys2Proof.Proofs
end

section
/-! PROOFS. STM (R580, R582 to R585, R834, R842). -/

namespace Sys2Proof.Proofs

open Sys2Proof.Machine Sys2Proof.Claims

/-! The registers it reads and writes. -/

/-- The registers after STM's base write, where there is one (R582). -/
def stmSlots (o : BlockOps) (s : State) : Vector Word 30 :=
  (if o.wb then setX s o.rn (blockNewBase o (readReg o.rn s)) else s.cpu32).slots

/-- What STM reads: the user bank with S (R583). -/
def stmGet (o : BlockOps) : RegNum → State → Word := if o.s then readUserLate else readRegLate

theorem readsRegs_readRegLate : ReadsRegs readRegLate := by
  intro i s t hslots hpc hcpsr
  rw [readRegLate, readRegLate, Cpu32.regIn, Cpu32.regIn, hslots, hpc, hcpsr]

theorem readsRegs_readUserLate : ReadsRegs readUserLate := by
  intro i s t hslots hpc _
  rw [readUserLate, readUserLate, Cpu32.regIn, Cpu32.regIn, hslots, hpc]

theorem readsRegs_stmGet (o : BlockOps) : ReadsRegs (stmGet o) := by
  unfold stmGet
  split
  · exact readsRegs_readUserLate
  · exact readsRegs_readRegLate

theorem stmGet_pc (o : BlockOps) (s : State) : stmGet o 15#4 s = s.cpu32.pc + 12 := by
  unfold stmGet
  split <;> rfl

theorem stmGet_of_ne {o : BlockOps} {i : RegNum} (hi : i ≠ 15#4) (s : State) :
    stmGet o i s = s.cpu32.regIn (if o.s then .usr else s.cpu32.cpsr.mode) i := by
  unfold stmGet
  split
  · exact if_neg hi
  · exact if_neg hi

/-- STM's base write. -/
def stmBase (o : BlockOps) (s t : State) : State :=
  if o.wb then writeReg o.rn (blockNewBase o (readReg o.rn s)) t else t

theorem writesSlots_writeReg (i : RegNum) (v : Word) (s : State) :
    WritesSlots (writeReg i v) (setX s i v).slots s := by
  intro t hslots hcpsr
  have hset : (setX t i v).slots = (setX s i v).slots := by
    rw [setX, setX, Cpu32.setRegIn, Cpu32.setRegIn, hslots, hcpsr]
  exact congrArg (fun r => setSlots r t) hset

theorem writesSlots_self (s : State) : WritesSlots (fun t => t) s.cpu32.slots s := by
  intro t hslots _
  rw [setSlots, ← hslots]

theorem writesSlots_stmBase (o : BlockOps) (s : State) : WritesSlots (stmBase o s) (stmSlots o s) s := by
  unfold stmBase stmSlots
  split
  · exact writesSlots_writeReg _ _ s
  · exact writesSlots_self s

theorem sameHazard_stmBase (o : BlockOps) (s t : State) : SameHazard t (stmBase o s t) := by
  unfold stmBase
  split <;> exact ⟨rfl, rfl, rfl⟩

/-- A register after the base's write: the base itself is `newb` (R582). -/
theorem stmGet_setSlots {o : BlockOps} {s : State} {i : RegNum} (hi : i ≠ 15#4) (hrn : o.rn ≠ 15#4)
    (hsw : o.s = true → o.wb = false) : stmGet o i (setSlots (stmSlots o s) s) =
      if o.wb = true ∧ i = o.rn then blockNewBase o (readReg o.rn s)
      else s.cpu32.regIn (if o.s then .usr else s.cpu32.cpsr.mode) i := by
  rw [stmGet_of_ne hi]
  by_cases hwb : o.wb = true
  · have hs : ¬ o.s = true := fun hs => absurd (hwb.symm.trans (hsw hs)) nofun
    have hset : (setSlots (stmSlots o s) s).cpu32 = setX s o.rn (blockNewBase o (readReg o.rn s)) := by
      rw [stmSlots, if_pos hwb]
      rfl
    rw [hset, if_neg hs, if_neg hs]
    by_cases he : i = o.rn
    · subst he
      rw [if_pos ⟨hwb, rfl⟩]
      exact regIn_setRegIn_same _ _ _ _
    · rw [if_neg fun ⟨_, h⟩ => he h]
      exact regIn_setRegIn_ne _ _ _ _ _ _ fun hslot => he (slotOf_injective _ _ _ hrn hi hslot).symm
  · have hset : setSlots (stmSlots o s) s = s := by
      rw [stmSlots, if_neg hwb]
      rfl
    have hkept : ¬ (o.wb = true ∧ i = o.rn) := fun ⟨h, _⟩ => hwb h
    rw [hset, if_neg hkept]

/-! The instruction. -/

theorem exec_armStm {o : BlockOps} {s : State} (h : BlockAllowed o False s) : exec (.armStm o) s =
    thenRes (storeRegs (stmGet o) (stmBase o s) true (blockRegs o.list) (blockStart o (readReg o.rn s)) s)
      fun t => retireStore t := by
  obtain ⟨hc, hrn, hsw, hmode⟩ := h
  have hchecked : ∀ body, blockChecked o false body s = body s := by
    intro body
    have hpriv : ¬ (o.s = true ∧ (s.cpu32.cpsr.mode = .usr ∨ s.cpu32.cpsr.mode = .sys)) := by
      rintro ⟨hs, he | he⟩
      · exact (hmode hs).1 he
      · exact (hmode hs).2 he
    rw [blockChecked, if_neg hrn, if_neg fun ⟨hs, hw, _⟩ => hsw hs hw, if_neg hpriv]
  have hexec : exec (.armStm o) s = blockStore o s := rfl
  rw [hexec, blockStore, ifCond_pass ((condPasses_iff _ _).mpr hc), hchecked]
  rfl

theorem length_blockRegs_le (list : BitVec 16) : (blockRegs list).length ≤ 0x40 := by
  have hcount : listCount list ≤ 16 := (List.length_filter_le _ _).trans (List.length_range).le
  rw [length_blockRegs]
  split <;> omega

/-- The register at a place of the transfer: R15 alone with an empty list (R584). -/
theorem getElem?_blockRegs_place {list : BitVec 16} {j : Nat} {i : RegNum}
    (h : if list = 0#16 then j = 0 ∧ i = 15#4 else Listed list j i) : (blockRegs list)[j]? = some i := by
  by_cases he : list = 0#16
  · rw [if_pos he] at h
    obtain ⟨rfl, rfl⟩ := h
    rw [blockRegs, if_pos he]
    rfl
  · rw [if_neg he] at h
    exact getElem?_blockRegs h

/-- The value of a place of the transfer (R582). -/
theorem storedWords_stm {o : BlockOps} {s : State} (hrn : o.rn ≠ 15#4) (hsw : o.s = true → o.wb = false) {j : Nat}
    {i : RegNum} (h : (blockRegs o.list)[j]? = some i) :
    (storedWords (stmGet o) (stmSlots o s) s (blockRegs o.list))[j]? = some
      (if i = 15#4 then s.cpu32.pc + 12
        else if o.wb = true ∧ i = o.rn ∧ 0 < j then blockNewBase o (readReg o.rn s)
        else s.cpu32.regIn (if o.s then .usr else s.cpu32.cpsr.mode) i) := by
  rw [getElem?_storedWords h]
  congr 1
  by_cases hi : i = 15#4
  · subst hi
    rw [if_pos rfl, stmGet_pc, stmGet_pc]
    exact ite_self _
  · rw [if_neg hi, stmGet_of_ne hi, stmGet_setSlots hi hrn hsw]
    by_cases hj : j = 0
    · have hfirst : ¬ (o.wb = true ∧ i = o.rn ∧ 0 < j) := fun ⟨_, _, h⟩ => h.ne' hj
      rw [if_pos hj, if_neg hfirst]
    · rw [if_neg hj]
      simp only [Nat.pos_of_ne_zero hj, and_true]

/-- Settles O37: STM stores its registers word by word, writes the base after the first, and ends with its code fetch. -/
theorem armStoreMultiple : Obligations.ArmStoreMultiple := by
  intro o s hallow
  have hstores := blockStores_of_storeRegs (ending := fun t => t) (r' := stmSlots o s) (exec_armStm hallow)
    (readsRegs_stmGet o) (writesSlots_stmBase o s) (sameHazard_stmBase o s) (writesSlots_self _)
    (blockRegs_ne_nil o.list) (length_blockRegs_le o.list)
  obtain ⟨-, hrn, hsw, -⟩ := hallow
  have hsw' : o.s = true → o.wb = false := fun hs => Bool.eq_false_iff.mpr (hsw hs)
  obtain ⟨hlow, hend⟩ := blockLow_blockSize o (readReg o.rn s) (blockSize_eq o.list)
  have hlen := (length_blockRegs o.list).symm
  have hcpu : { s.cpu32 with slots := stmSlots o s } =
      if o.wb then setX s o.rn (blockNewBase o (readReg o.rn s)) else s.cpu32 := by
    unfold stmSlots
    split <;> rfl
  rw [hcpu] at hstores
  dsimp only
  rw [hlow, hend, hlen]
  exact blockStores_imp hstores fun t j hwords i hi => hwords _ (storedWords_stm hrn hsw' (getElem?_blockRegs_place hi))

end Sys2Proof.Proofs
end

section
/-! PROOFS. B, BL and BX (R610 to R612). -/

namespace Sys2Proof.Proofs

open Sys2Proof.Machine Sys2Proof.Claims

theorem exec_armBranch (link : Bool) (o : BranchOps) (s : State) :
    exec (if link then .armBl o else .armB o) s = branch link o s := by
  cases link <;> rfl

/-- A branch whose condition passes is one jump; BL first writes the next address to LR (R610, R611). -/
theorem branch_pass {link : Bool} {o : BranchOps} {s : State} (h : CondHolds o.cond s.cpu32.cpsr) :
    branch link o s = .next (jumped s (if link then setX s 14#4 (s.cpu32.pc + 4) else s.cpu32) s.cpu32.cpsr.t
      (s.cpu32.pc + 8 + (o.offset.signExtend 32 <<< 2)) 0) := by
  rw [branch, ifCond_pass ((condPasses_iff _ _).mpr h)]
  cases link with
  | false => exact jumpTo_self s _ _
  | true => exact jumpTo_withCpu32 (sameFetch_setX s 14#4 _) _ _ 0

/-- Settles O28: each branch is one `jumpTo`, and B's sign-extended offset is the statement's number. -/
theorem armBranches : Obligations.ArmBranches := by
  refine ⟨fun link o s h => ?_, fun o s h => ?_⟩
  · have hoffset := signExtend_shiftLeft (n := 23) (k := 2) o.offset (by decide)
    rw [Nat.mul_comm (2 ^ 2), Nat.mul_comm (2 ^ 2)] at hoffset
    rw [exec_armBranch, branch_pass h, hoffset]
    rfl
  · exact (ifCond_pass ((condPasses_iff _ _).mpr h)).trans (jumpTo_self s _ _)

end Sys2Proof.Proofs
end

section
/-! PROOFS. The condition of an ARM word (R500, R614 to R616): every word but the reserved ones runs under the condition
its bits 31 to 28 name. -/

namespace Sys2Proof.Proofs

open Sys2Proof.Machine Sys2Proof.Claims

/-- The instruction does its work under the condition (R500). -/
def RunsUnder (cond : Cond) (i : Instr) : Prop := ∃ body, ∀ s, exec i s = ifCond cond body s

theorem ifCond_skips {cond : Cond} {s : State} (h : ¬ CondHolds cond s.cpu32.cpsr) (body : State → Res) :
    ifCond cond body s = .next (past s s.cpu32 (sCost s)) :=
  (ifCond_fail ((condPasses_eq_false_iff _ _).mpr h)).trans (retire_self s 0)

theorem RunsUnder.exec_skips {cond : Cond} {i : Instr} {s : State} (hi : RunsUnder cond i)
    (h : ¬ CondHolds cond s.cpu32.cpsr) : exec i s = .next (past s s.cpu32 (sCost s)) := by
  obtain ⟨body, hexec⟩ := hi
  rw [hexec]
  exact ifCond_skips h _

theorem runsUnder_ite {cond : Cond} {p : Prop} [Decidable p] {i j : Instr} (hi : RunsUnder cond i)
    (hj : RunsUnder cond j) : RunsUnder cond (if p then i else j) := by
  split
  · exact hi
  · exact hj

/-! The undefined and coprocessor words (R614, R615). -/

/-- The undefined and the coprocessor rows of a word. -/
def undefinedRows (w : Word) : List Instr :=
  [.armUndefStoreSignedReg w, .armUndefStoreSignedImm w, .armUndefMultiplySpace w, .armUndefCompareNoS w,
    .armUndefSpace w, .armLdcStc w, .armCdpMrcMcr w]

theorem bits_31_28 {w : Nat} (hw : w < 2 ^ 32) : bits w 31 28 = w / 2 ^ 28 :=
  Nat.mod_eq_of_lt (Nat.div_lt_of_lt_mul hw)

theorem exec_undefinedRows {w : Word} {i : Instr} (hi : i ∈ undefinedRows w) (s : State) :
    exec i s = ifCond (Cond.ofCode (w.toNat / 2 ^ 28)) (undefinedAlways w.toNat) s := by
  rw [← bits_31_28 w.isLt]
  simp only [undefinedRows, List.mem_cons, List.not_mem_nil, or_false] at hi
  rcases hi with rfl | rfl | rfl | rfl | rfl | rfl | rfl <;> rfl

theorem runsUnder_undefinedRows {w : Nat} (hw : w < 2 ^ 32) {i : Instr} (hi : i ∈ undefinedRows (BitVec.ofNat 32 w)) :
    RunsUnder (Cond.ofCode (bits w 31 28)) i := by
  refine ⟨undefinedAlways w, fun s => ?_⟩
  rw [exec_undefinedRows hi, BitVec.toNat_ofNat, Nat.mod_eq_of_lt hw, bits_31_28 hw]

/-! The rows with several instructions (R211, R213, R560, R565). -/

theorem runsUnder_longMulInstr (w : Nat) : RunsUnder (Cond.ofCode (bits w 31 28)) (longMulInstr w) := by
  unfold longMulInstr
  split <;> exact ⟨_, fun _ => rfl⟩

theorem runsUnder_halfRegInstr {w : Nat} (hw : w < 2 ^ 32) :
    RunsUnder (Cond.ofCode (bits w 31 28)) (halfRegInstr w) := by
  refine runsUnder_ite (runsUnder_undefinedRows hw (by simp [undefinedRows])) (runsUnder_ite ⟨_, fun _ => rfl⟩ ?_)
  split <;> exact ⟨_, fun _ => rfl⟩

theorem runsUnder_halfImmInstr {w : Nat} (hw : w < 2 ^ 32) :
    RunsUnder (Cond.ofCode (bits w 31 28)) (halfImmInstr w) := by
  refine runsUnder_ite (runsUnder_undefinedRows hw (by simp [undefinedRows])) (runsUnder_ite ⟨_, fun _ => rfl⟩ ?_)
  split <;> exact ⟨_, fun _ => rfl⟩

theorem runsUnder_dpImmInstr (op : DpOp) (d : Dp) (x : Op2Imm) : RunsUnder d.cond (dpImmInstr op d x) :=
  ⟨_, fun s => by rw [exec_dpImmInstr, dpImm, dpOf_cond]⟩

theorem runsUnder_dpShiftInstr (op : DpOp) (d : Dp) (x : Op2Shift) : RunsUnder d.cond (dpShiftInstr op d x) :=
  ⟨_, fun s => by rw [exec_dpShiftInstr, dpShift, dpOf_cond]⟩

theorem runsUnder_dpRegShiftInstr (op : DpOp) (d : Dp) (x : Op2RegShift) :
    RunsUnder d.cond (dpRegShiftInstr op d x) :=
  ⟨_, fun s => by rw [exec_dpRegShiftInstr, dpRegShift, dpOf_cond]⟩

theorem runsUnder_dataProcInstr (w : Nat) : RunsUnder (Cond.ofCode (bits w 31 28)) (dataProcInstr w) :=
  runsUnder_ite (runsUnder_dpImmInstr _ _ _)
    (runsUnder_ite (runsUnder_dpShiftInstr _ _ _) (runsUnder_dpRegShiftInstr _ _ _))

theorem runsUnder_singleInstr (w : Nat) : RunsUnder (Cond.ofCode (bits w 31 28)) (singleInstr w) := by
  refine runsUnder_ite ?_ ?_ <;> split <;> exact ⟨_, fun _ => rfl⟩

/-! The decoder, by the rows of R212. -/

theorem runsUnder_decodeArmWord {w : Nat} (hw : w < 2 ^ 32) (hr : isReserved w = false) :
    RunsUnder (Cond.ofCode (bits w 31 28)) (decodeArmWord w) := by
  have hundef {i : Instr} (hi : i ∈ undefinedRows (BitVec.ofNat 32 w)) := runsUnder_undefinedRows hw hi
  rw [decodeArmWord, if_neg (Bool.eq_false_iff.mp hr)]
  refine runsUnder_ite ⟨_, fun _ => rfl⟩ ?_
  refine runsUnder_ite (runsUnder_ite ⟨_, fun _ => rfl⟩ ⟨_, fun _ => rfl⟩) ?_
  refine runsUnder_ite (runsUnder_longMulInstr w) ?_
  refine runsUnder_ite (runsUnder_ite ⟨_, fun _ => rfl⟩ ⟨_, fun _ => rfl⟩) ?_
  refine runsUnder_ite (runsUnder_halfRegInstr hw) ?_
  refine runsUnder_ite (runsUnder_halfImmInstr hw) ?_
  refine runsUnder_ite (hundef (by simp [undefinedRows])) ?_
  refine runsUnder_ite ⟨_, fun _ => rfl⟩ ?_
  refine runsUnder_ite ⟨_, fun _ => rfl⟩ ?_
  refine runsUnder_ite ⟨_, fun _ => rfl⟩ ?_
  refine runsUnder_ite (hundef (by simp [undefinedRows])) ?_
  refine runsUnder_ite (runsUnder_dataProcInstr w) ?_
  refine runsUnder_ite (hundef (by simp [undefinedRows])) ?_
  split
  · exact runsUnder_singleInstr w
  · exact runsUnder_singleInstr w
  · exact runsUnder_ite ⟨_, fun _ => rfl⟩ ⟨_, fun _ => rfl⟩
  · exact runsUnder_ite ⟨_, fun _ => rfl⟩ ⟨_, fun _ => rfl⟩
  · exact hundef (by simp [undefinedRows])
  · exact runsUnder_ite (hundef (by simp [undefinedRows])) ⟨_, fun _ => rfl⟩

/-- Settles O23: every row of the decoder but the reserved one runs under the word's condition, so that a failed one
leaves PC and the fetch; an undefined row's work under it is the stop. -/
theorem armConditions : Obligations.ArmConditions := by
  refine ⟨fun w s hw hne h => ?_, fun w i s _ h hi => ?_, fun w i s _ h hi => ?_, fun w s => rfl, fun w hw he => ?_⟩
  · rw [← bits_31_28 hw] at hne h
    exact (runsUnder_decodeArmWord hw (decide_eq_false hne)).exec_skips h
  · exact (exec_undefinedRows hi s).trans (ifCond_pass ((condPasses_iff _ _).mpr h))
  · exact (exec_undefinedRows hi s).trans (ifCond_skips h _)
  · rw [← bits_31_28 hw] at he
    exact decodeArmWord_reserved (decide_eq_true he)

end Sys2Proof.Proofs
end

section
/-! PROOFS. THUMB formats 1 to 4: shifts, arithmetic and MUL (R631 to R657). -/

namespace Sys2Proof.Proofs

open Sys2Proof.Machine Sys2Proof.Claims

/-! A low register (R630). -/

theorem low_ne_pc (r : LowReg) : low r ≠ 15#4 := by
  revert r
  decide

theorem readReg_low (r : LowReg) (s : State) : readReg (low r) s = lowReg s r := if_neg (low_ne_pc r)

/-- A row that writes Rd ends past itself with the flags of its result (R630, R836). -/
theorem thumbResult_eq (rd : LowReg) (r : Word) (c v : Bool) (extra : Nat) (s : State) :
    thumbResult rd (r, c, v) extra s = .next (thumbWrites s rd r c v extra) :=
  retire_withCpu32 (c := { setX s (low rd) r with cpsr := withFlags s.cpu32.cpsr r c v }) ⟨rfl, rfl, rfl⟩ extra

/-! Formats 2 to 4 by the ARM operations. -/

/-- What each of these rows does with the two values it reads: a test writes the flags, another Rd too. -/
def thumbOperation (op : DpOp) (rd : LowReg) (a b : Word) (s : State) : Res :=
  let r := dpResult op a b s.cpu32.cpsr.c s.cpu32.cpsr
  if isTestOp op then thumbTest r s else thumbResult rd r 0 s

section
variable {op : DpOp} {rd : LowReg} {a b r : Word} {c v : Bool} {s : State}
  (hr : dpResult op a b s.cpu32.cpsr.c s.cpu32.cpsr = (r, c, v))
include hr

theorem thumbOperation_of_not_isTest (h : ¬ isTest op) :
    thumbOperation op rd a b s = .next (thumbWrites s rd r c v 0) := by
  simp only [thumbOperation, if_neg (mt (isTestOp_iff op).mp h), hr]
  exact thumbResult_eq rd r c v 0 s

theorem thumbOperation_of_isTest (h : isTest op) : thumbOperation op rd a b s =
    .next (past s { s.cpu32 with cpsr := withFlags s.cpu32.cpsr r c v } (sCost s)) := by
  simp only [thumbOperation, if_pos ((isTestOp_iff op).mpr h), hr]
  exact thumbTest_eq r c v s

end

theorem exec_thumbAddSubReg {i : Instr} {op : DpOp} {rd rs rn : LowReg}
    (h : (i, op) ∈ [(Instr.thumbAddReg rd rs rn, DpOp.add), (.thumbSubReg rd rs rn, .sub)]) (s : State) :
    exec i s = thumbOperation op rd (lowReg s rs) (lowReg s rn) s := by
  simp only [← readReg_low]
  simp only [List.mem_cons, Prod.mk.injEq, List.not_mem_nil, or_false] at h
  obtain ⟨rfl, rfl⟩ | ⟨rfl, rfl⟩ := h <;> rfl

theorem exec_thumbAddSubImm {i : Instr} {op : DpOp} {rd rs : LowReg} {imm : BitVec 3}
    (h : (i, op) ∈ [(Instr.thumbAddImm3 rd rs imm, DpOp.add), (.thumbSubImm3 rd rs imm, .sub)]) (s : State) :
    exec i s = thumbOperation op rd (lowReg s rs) (BitVec.ofNat 32 imm.toNat) s := by
  rw [← readReg_low, BitVec.ofNat_toNat]
  simp only [List.mem_cons, Prod.mk.injEq, List.not_mem_nil, or_false] at h
  obtain ⟨rfl, rfl⟩ | ⟨rfl, rfl⟩ := h <;> rfl

theorem exec_thumbImm8 {i : Instr} {op : DpOp} {rd : LowReg} {imm : Byte}
    (h : (i, op) ∈ [(Instr.thumbMovImm rd imm, DpOp.mov), (.thumbCmpImm rd imm, .cmp), (.thumbAddImm8 rd imm, .add),
      (.thumbSubImm8 rd imm, .sub)]) (s : State) :
    exec i s = thumbOperation op rd (lowReg s rd) (BitVec.ofNat 32 imm.toNat) s := by
  rw [← readReg_low, BitVec.ofNat_toNat]
  simp only [List.mem_cons, Prod.mk.injEq, List.not_mem_nil, or_false] at h
  obtain ⟨rfl, rfl⟩ | ⟨rfl, rfl⟩ | ⟨rfl, rfl⟩ | ⟨rfl, rfl⟩ := h <;> rfl

theorem exec_thumbAlu {i : Instr} {op : DpOp} {rd rs : LowReg}
    (h : (i, op) ∈ [(Instr.thumbAnd rd rs, DpOp.and), (.thumbEor rd rs, .eor), (.thumbAdc rd rs, .adc),
      (.thumbSbc rd rs, .sbc), (.thumbTst rd rs, .tst), (.thumbCmp rd rs, .cmp), (.thumbCmn rd rs, .cmn),
      (.thumbOrr rd rs, .orr), (.thumbBic rd rs, .bic), (.thumbMvn rd rs, .mvn)]) (s : State) :
    exec i s = thumbOperation op rd (lowReg s rd) (lowReg s rs) s := by
  simp only [← readReg_low]
  simp only [List.mem_cons, Prod.mk.injEq, List.not_mem_nil, or_false] at h
  obtain ⟨rfl, rfl⟩ | ⟨rfl, rfl⟩ | ⟨rfl, rfl⟩ | ⟨rfl, rfl⟩ | ⟨rfl, rfl⟩ | ⟨rfl, rfl⟩ | ⟨rfl, rfl⟩ | ⟨rfl, rfl⟩ |
    ⟨rfl, rfl⟩ | ⟨rfl, rfl⟩ := h <;> rfl

/-- NEG is RSB from 0 (R651). -/
theorem exec_thumbNeg (rd rs : LowReg) (s : State) :
    exec (.thumbNeg rd rs) s = thumbOperation .rsb rd (lowReg s rs) 0#32 s := by
  rw [← readReg_low]
  rfl

/-- Settles O39: each row is `thumbOperation` on the values it reads. -/
theorem thumbArithmetic : Obligations.ThumbArithmetic := by
  intro i op rd a b r c v s hrow hr
  have hexec : exec i s = thumbOperation op rd a b s := by
    obtain ⟨rs, rn, rfl, rfl, h⟩ | ⟨rs, imm, rfl, rfl, h⟩ | ⟨imm, rfl, rfl, h⟩ | ⟨rs, rfl, rfl, h⟩ |
      ⟨rs, rfl, rfl, rfl, rfl⟩ := hrow
    · exact exec_thumbAddSubReg h s
    · exact exec_thumbAddSubImm h s
    · exact exec_thumbImm8 h s
    · exact exec_thumbAlu h s
    · exact exec_thumbNeg rd rs s
  rw [hexec]
  exact ⟨thumbOperation_of_not_isTest hr, thumbOperation_of_isTest hr⟩

/-! The shifts and MUL. -/

theorem exec_thumbShiftImm {i : Instr} {kind : Shift} {rd rs : LowReg} {amount : BitVec 5}
    (h : (i, kind) ∈ [(Instr.thumbLslImm rd rs amount, Shift.lsl), (.thumbLsrImm rd rs amount, .lsr),
      (.thumbAsrImm rd rs amount, .asr)]) (s : State) : exec i s = thumbShiftImm kind rd rs amount s := by
  simp only [List.mem_cons, Prod.mk.injEq, List.not_mem_nil, or_false] at h
  obtain ⟨rfl, rfl⟩ | ⟨rfl, rfl⟩ | ⟨rfl, rfl⟩ := h <;> rfl

theorem exec_thumbShiftReg {i : Instr} {kind : Shift} {rd rs : LowReg}
    (h : (i, kind) ∈ [(Instr.thumbLsl rd rs, Shift.lsl), (.thumbLsr rd rs, .lsr), (.thumbAsr rd rs, .asr),
      (.thumbRor rd rs, .ror)]) (s : State) : exec i s = thumbShiftReg kind rd rs s := by
  simp only [List.mem_cons, Prod.mk.injEq, List.not_mem_nil, or_false] at h
  obtain ⟨rfl, rfl⟩ | ⟨rfl, rfl⟩ | ⟨rfl, rfl⟩ | ⟨rfl, rfl⟩ := h <;> rfl

/-- The product modulo 2^32, at the cost of the old Rd (R655). -/
theorem thumbMultiply_eq {rd rs : LowReg} {r : Word} {n : Nat} {s : State}
    (hr : r.toNat = ((lowReg s rd).toNat * (lowReg s rs).toNat) % 2 ^ 32) (hn : ICycles (lowReg s rd) n) :
    thumbMultiply rd rs s = .next (thumbWrites s rd r false s.cpu32.cpsr.v n) := by
  have hprod : lowReg s rd * lowReg s rs = r := BitVec.eq_of_toNat_eq ((BitVec.toNat_mul _ _).trans hr.symm)
  simp only [thumbMultiply, readReg_low, hprod, multiplyCycles_eq hn]
  exact thumbResult_eq rd r false _ n s

/-- Settles O40: the shifts write what the ARM shifter answers, and MUL the product. -/
theorem thumbShiftsMultiply : Obligations.ThumbShiftsMultiply := by
  refine ⟨fun i kind rd rs amount s h => ?_, fun i kind rd rs s h => ?_,
    fun rd rs r n s hr hn => thumbMultiply_eq hr hn⟩
  · rw [exec_thumbShiftImm h, thumbShiftImm, readReg_low]
    exact thumbResult_eq rd _ _ _ 0 s
  · rw [exec_thumbShiftReg h, thumbShiftReg, readReg_low, readReg_low]
    exact thumbResult_eq rd _ _ _ 1 s

end Sys2Proof.Proofs
end

section
/-! PROOFS. The THUMB loads and stores (R662 to R678, R830, R836, R842). -/

namespace Sys2Proof.Proofs

open Sys2Proof.Machine Sys2Proof.Claims

/-! The addresses (R221). -/

theorem scaled4_eq (imm : Byte) : scaled4 imm = BitVec.ofNat 32 (4 * imm.toNat) :=
  setWidth_shiftLeft_two imm (by decide)

theorem scaled5_eq (w : Width) (imm : BitVec 5) : scaled5 w imm = BitVec.ofNat 32 (w.bytes * imm.toNat) := by
  rw [scaled5, Nat.mul_comm]

/-! The rows. -/

theorem exec_thumbLoadReg {i : Instr} {k : LoadKind} {rd rb ro : LowReg}
    (h : (i, k) ∈ [(Instr.thumbLdrReg rd rb ro, LoadKind.word), (.thumbLdrbReg rd rb ro, .unsignedByte),
      (.thumbLdsbReg rd rb ro, .signedByte), (.thumbLdrhReg rd rb ro, .unsignedHalf),
      (.thumbLdshReg rd rb ro, .signedHalf)]) (s : State) : exec i s = thumbLoadReg k rd rb ro s := by
  simp only [List.mem_cons, Prod.mk.injEq, List.not_mem_nil, or_false] at h
  obtain ⟨rfl, rfl⟩ | ⟨rfl, rfl⟩ | ⟨rfl, rfl⟩ | ⟨rfl, rfl⟩ | ⟨rfl, rfl⟩ := h <;> rfl

theorem exec_thumbLoadImm {i : Instr} {k : LoadKind} {n : Nat} {rd rb : LowReg} {imm : BitVec 5}
    (h : (i, k, n) ∈ [(Instr.thumbLdrImm rd rb imm, LoadKind.word, 4), (.thumbLdrbImm rd rb imm, .unsignedByte, 1),
      (.thumbLdrhImm rd rb imm, .unsignedHalf, 2)]) (s : State) :
    n = (LoadKind.width k).bytes ∧ exec i s = thumbLoadImm k rd rb imm s := by
  simp only [List.mem_cons, Prod.mk.injEq, List.not_mem_nil, or_false] at h
  obtain ⟨rfl, rfl, rfl⟩ | ⟨rfl, rfl, rfl⟩ | ⟨rfl, rfl, rfl⟩ := h <;> exact ⟨rfl, rfl⟩

/-- Every row of the loads is `thumbLoad` at its address. -/
theorem exec_of_thumbLoadForm {k : LoadKind} {rd : LowReg} {a : Word} {i : Instr} {s : State}
    (h : ThumbLoadForm k rd a i s) : exec i s = thumbLoad k rd a s := by
  obtain ⟨imm, rfl, rfl, rfl⟩ | ⟨rb, ro, rfl, hrow⟩ | ⟨rb, imm, n, rfl, hrow⟩ | ⟨imm, rfl, rfl, rfl⟩ := h
  · rw [← scaled4_eq]
    rfl
  · rw [exec_thumbLoadReg hrow, thumbLoadReg, readReg_low, readReg_low]
  · obtain ⟨rfl, hexec⟩ := exec_thumbLoadImm hrow s
    rw [hexec, thumbLoadImm, readReg_low, scaled5_eq]
  · rw [← scaled4_eq]
    rfl

theorem exec_thumbStoreReg {i : Instr} {w : Width} {rd rb ro : LowReg}
    (h : (i, w) ∈ [(Instr.thumbStrReg rd rb ro, Width.word), (.thumbStrbReg rd rb ro, .byte),
      (.thumbStrhReg rd rb ro, .half)]) (s : State) : exec i s = thumbStoreReg w rd rb ro s := by
  simp only [List.mem_cons, Prod.mk.injEq, List.not_mem_nil, or_false] at h
  obtain ⟨rfl, rfl⟩ | ⟨rfl, rfl⟩ | ⟨rfl, rfl⟩ := h <;> rfl

theorem exec_thumbStoreImm {i : Instr} {w : Width} {n : Nat} {rd rb : LowReg} {imm : BitVec 5}
    (h : (i, w, n) ∈ [(Instr.thumbStrImm rd rb imm, Width.word, 4), (.thumbStrbImm rd rb imm, .byte, 1),
      (.thumbStrhImm rd rb imm, .half, 2)]) (s : State) : n = w.bytes ∧ exec i s = thumbStoreImm w rd rb imm s := by
  simp only [List.mem_cons, Prod.mk.injEq, List.not_mem_nil, or_false] at h
  obtain ⟨rfl, rfl, rfl⟩ | ⟨rfl, rfl, rfl⟩ | ⟨rfl, rfl, rfl⟩ := h <;> exact ⟨rfl, rfl⟩

/-- Every row of the stores is `thumbStore` at its address. -/
theorem exec_of_thumbStoreForm {w : Width} {rd : LowReg} {a : Word} {i : Instr} {s : State}
    (h : ThumbStoreForm w rd a i s) : exec i s = thumbStore w rd a s := by
  obtain ⟨rb, ro, rfl, hrow⟩ | ⟨rb, imm, n, rfl, hrow⟩ | ⟨imm, rfl, rfl, rfl⟩ := h
  · rw [exec_thumbStoreReg hrow, thumbStoreReg, readReg_low, readReg_low]
  · obtain ⟨rfl, hexec⟩ := exec_thumbStoreImm hrow s
    rw [hexec, thumbStoreImm, readReg_low, scaled5_eq]
  · rw [← scaled4_eq]
    rfl

/-! The endings. -/

theorem retireStore_self (s : State) : retireStore s = .next (past s s.cpu32 (nCost s)) :=
  retireStore_withCpu32 (c := s.cpu32) SameFetch.rfl

theorem thumbStore_eq (w : Width) (rd : LowReg) (a : Word) (s : State) : thumbStore w rd a s =
    thenRes (storeData false w a (lowReg s rd) s) fun s1 => .next (past s1 s1.cpu32 (nCost s1)) := by
  rw [thumbStore, readReg_low, funext retireStore_self]

/-- Settles O42: each row is `thumbLoad`, and a read leaves what the code fetch costs. -/
theorem thumbLoads : Obligations.ThumbLoads := by
  intro k rd a v i s s1 hform hv
  have hloads := loadValue_loadsTo k a s
  rw [hv] at hloads
  rw [exec_of_thumbLoadForm hform, thumbLoad, hv, ← hloads.sCost_eq]
  exact finishLoad_reg (low_ne_pc rd) v s1

/-- Settles O43: each row is `thumbStore`, whose bus write stops on the hazard and completes outside the IO window. -/
theorem thumbStores : Obligations.ThumbStores := by
  intro w rd a i s hform
  have hexec := (exec_of_thumbStoreForm hform).trans (thumbStore_eq w rd a s)
  refine ⟨fun hhaz => ?_, hexec, fun hhaz hio => ?_⟩
  · rw [hexec, storeData_of_hazard hhaz, unpredictable, thenRes_fault]
  · obtain ⟨s1, hs1⟩ := storeData_of_not_hazard hhaz hio false (lowReg s rd)
    exact ⟨s1, hs1, by rw [hexec, hs1, thenRes_next]⟩

end Sys2Proof.Proofs
end

section
/-! PROOFS. SWI, ARM and THUMB (R613, R742, R743). -/

namespace Sys2Proof.Proofs

open Sys2Proof.Machine Sys2Proof.Claims

/-- The refill at an exception's vector is two ARM fetches, with WAITCNT as it was (R830, R835). -/
theorem refillCost_vector {s t : State} {v : Word} (hw : t.cpu32.waitcnt = s.cpu32.waitcnt)
    (ht : t.cpu32.cpsr.t = false) (hv : t.cpu32.pc = v) :
    refillCost t = accessCost false .word v s + accessCost true .word (v + 4#32) s := by
  rw [refillCost, Cpu32.codeWidth, Cpu32.codeBytes, ht, hv, accessCost_congr _ _ _ hw, accessCost_congr _ _ _ hw]
  rfl

theorem enterAt_svc (ret : Word) (s : State) : enterAt .svc 0x08#32 ret s = .next { s with
    cpu32 := svcEntry s.cpu32 ret
    cycles := s.cycles + sCost s + accessCost false .word 0x08#32 s + accessCost true .word 0x0C#32 s } := by
  have hrefill : refillCost { s with cpu32 := svcEntry s.cpu32 ret } =
      accessCost false .word 0x08#32 s + accessCost true .word 0x0C#32 s := refillCost_vector rfl rfl rfl
  simp only [enterAt, enterException_svc, codeCost_true_eq_sCost, charge, Nat.add_assoc, hrefill]

/-- Settles O29: both forms are `enterAt`, with the address after the SWI of their state. -/
theorem softwareInterrupt : Obligations.SoftwareInterrupt := by
  intro i ret s h
  have hexec : exec i s = enterAt .svc 0x08#32 ret s := by
    obtain ⟨o, rfl, hc, rfl⟩ | ⟨n, rfl, rfl⟩ := h
    · exact ifCond_pass (body := fun s => enterAt .svc 0x08#32 (s.cpu32.pc + 4) s) ((condPasses_iff _ _).mpr hc)
    · rfl
  refine ⟨_, hexec.trans (enterAt_svc ret s), rfl, ?_, rfl, rfl⟩
  exact regIn_setRegIn_same s.cpu32 .svc 14#4 ret

end Sys2Proof.Proofs
end

section
/-! PROOFS. The CPU-32 boundary: IRQ entry and HALT (R741, R744, R745, R749). -/

namespace Sys2Proof.Proofs

open Sys2Proof.Machine Sys2Proof.Claims

/-- The state at a boundary, about to go on: nothing charged or delivered, and not halted (R745, R811). -/
def awake32 (s : State) : State :=
  { s with cpu32 := { s.cpu32 with halted := false }, cycles := 0, outbox := [] }

/-- With no DMA pending the step is the halt check and what follows it (R811). -/
theorem step_of_idleDma {s : State} (h : Boundary32 s) : step s =
    if s.cpu32.halted then
      if s.cpu32.ie &&& s.cpu32.iflag = 0#14 then .next (passCycles 1 (beginStep s)) else boundary32 (awake32 s)
    else boundary32 (beginStep s) := by
  obtain ⟨hf, hv, hdma⟩ := h
  have hidle : (beginStep s).cpu32.lowestPending = none := lowestPending_eq_none hdma
  rw [step_eq_step32 hf hv, step32, dmaPhase_idle _ hidle, thenRes_next, afterDma, if_neg (not_not.mpr hidle)]
  rfl

/-- Halted with nothing pending, a step is one cycle (R745). -/
theorem step_of_halted {s : State} (h : Boundary32 s) (hhalt : s.cpu32.halted = true)
    (hserv : s.cpu32.ie &&& s.cpu32.iflag = 0#14) : step s = .next (ran 1 { s with cycles := 0, outbox := [] }) := by
  rw [step_of_idleDma h, if_pos hhalt, if_pos hserv]
  rfl

/-- Not halted, or with an enabled interrupt pending, the boundary goes on (R745, R811). -/
theorem step_of_awake {s : State} (h : Boundary32 s)
    (hgo : s.cpu32.halted = true → s.cpu32.ie &&& s.cpu32.iflag ≠ 0#14) : step s = boundary32 (awake32 s) := by
  rw [step_of_idleDma h]
  split
  · rename_i hhalt
    exact if_neg (hgo hhalt)
  · rename_i hhalt
    rw [awake32, ← Bool.eq_false_iff.mpr hhalt]
    rfl

/-- The CPU-32 half after the IRQ entry of R744. -/
def irqEntry (c : Cpu32) : Cpu32 :=
  { c.setRegIn .irq 14#4 (c.pc + 4) with
    halted := false, pc := 0x18#32, spsrIrq := c.cpsr.toWord
    cpsr := { c.cpsr with mode := .irq, t := false, i := true } }

theorem enterException_irq (s : State) : enterException .irq 0x18#32 (s.cpu32.pc + 4) (awake32 s) =
    { s with cpu32 := irqEntry s.cpu32, cycles := 0, outbox := [] } := by
  have hstored : enterException .irq 0x18#32 (s.cpu32.pc + 4) (awake32 s) =
      { s with
        cpu32 := { irqEntry s.cpu32 with spsrIrq := s.cpu32.cpsr.toWord &&& psrMask }
        cycles := 0
        outbox := [] } := rfl
  rw [hstored, toWord_masked]
  rfl

/-- The IRQ entry costs the two fetches at the vector and one cycle (R744, R835). -/
theorem enterIrq_awake32 (s : State) : enterIrq (awake32 s) =
    .next (ran (accessCost false .word 0x18#32 s + accessCost true .word 0x1C#32 s + 1)
      { s with cpu32 := irqEntry s.cpu32, cycles := 0, outbox := [] }) := by
  have hpc : (awake32 s).cpu32.pc = s.cpu32.pc := rfl
  have hrefill : refillCost { s with cpu32 := irqEntry s.cpu32, cycles := 0, outbox := [] } =
      accessCost false .word 0x18#32 s + accessCost true .word 0x1C#32 s := refillCost_vector rfl rfl rfl
  simp only [enterIrq, hpc, enterException_irq, hrefill]
  rfl

/-- Settles O49: with no DMA pending a step ends in the halt, the IRQ entry or the next instruction. -/
theorem cpu32Interrupts : Obligations.Cpu32Interrupts := by
  intro s h
  refine ⟨step_of_halted h, fun _ hserv => ?_, fun hirq => ?_⟩
  · rw [step_of_awake h fun _ => hserv,
      step_of_awake (s := { s with cpu32 := { s.cpu32 with halted := false } }) h nofun]
    rfl
  · have htakes : (awake32 s).cpu32.takesIrq = true := (takesIrq_iff (awake32 s)).mpr hirq
    obtain ⟨-, hserv, -⟩ := hirq
    refine ⟨_, ?_, rfl⟩
    rw [step_of_awake h fun _ => hserv, boundary32, if_pos htakes, enterIrq_awake32]
    rfl

end Sys2Proof.Proofs
end

section
/-! PROOFS. The register lists of THUMB (R682 to R685). -/

namespace Sys2Proof.Proofs

open Sys2Proof.Machine Sys2Proof.Claims

/-- The indices a list names from 8 on, ascending. -/
def listedHigh (list : BitVec 16) : List Nat := [8, 9, 10, 11, 12, 13, 14, 15].filter fun k => list.getLsbD k

theorem listedBelow_split (list : BitVec 16) : listedBelow list 16 = listedBelow list 8 ++ listedHigh list := by
  have hrange : List.range 16 = List.range 8 ++ [8, 9, 10, 11, 12, 13, 14, 15] := rfl
  rw [listedBelow, hrange, List.filter_append]
  rfl

/-- The low registers stand in bits 7 to 0. -/
theorem thumbList_high (list : Byte) (more : BitVec 16) {k : Nat} (hk : 8 ≤ k) :
    (thumbList list more).getLsbD k = more.getLsbD k := by
  rw [thumbList, BitVec.getLsbD_or, BitVec.getLsbD_setWidth, BitVec.getLsbD_of_ge list k hk, Bool.and_false,
    Bool.false_or]

/-- A list of low registers and a list of high ones, one after the other (R580). -/
theorem listedBelow_thumbList (list : Byte) {more : BitVec 16} (hmore : ∀ k, k < 8 → more.getLsbD k = false) :
    listedBelow (thumbList list more) 16 = listedBelow (list.setWidth 16) 16 ++ listedBelow more 16 := by
  have hbit : ∀ k, 8 ≤ k → (list.setWidth 16).getLsbD k = false := fun k hk => by
    rw [BitVec.getLsbD_setWidth, BitVec.getLsbD_of_ge list k hk, Bool.and_false]
  have hge : ∀ k ∈ [8, 9, 10, 11, 12, 13, 14, 15], 8 ≤ k := by decide
  have hlow : listedBelow (thumbList list more) 8 = listedBelow (list.setWidth 16) 8 :=
    List.filter_congr fun k hk => by
      rw [thumbList, BitVec.getLsbD_or, hmore k (List.mem_range.mp hk), Bool.or_false]
  have hhigh : listedHigh (thumbList list more) = listedHigh more :=
    List.filter_congr fun k hk => thumbList_high list more (hge k hk)
  have hnoHigh : listedHigh (list.setWidth 16) = [] :=
    List.filter_eq_nil_iff.mpr fun k hk => Bool.eq_false_iff.mp (hbit k (hge k hk))
  have hnoLow : listedBelow more 8 = [] :=
    List.filter_eq_nil_iff.mpr fun k hk => Bool.eq_false_iff.mp (hmore k (List.mem_range.mp hk))
  rw [listedBelow_split, hlow, hhigh, listedBelow_split (list.setWidth 16), hnoHigh, List.append_nil,
    listedBelow_split more, hnoLow, List.nil_append]

theorem listedRegs_thumbList (list : Byte) {more : BitVec 16} (hmore : ∀ k, k < 8 → more.getLsbD k = false) :
    listedRegs (thumbList list more).toNat = listedRegs list.toNat ++ listedRegs more.toNat := by
  have hwide : list.toNat = (list.setWidth 16).toNat := (BitVec.toNat_setWidth_of_le (by decide)).symm
  rw [hwide, listedRegs_eq, listedRegs_eq, listedRegs_eq, ← List.map_append, listedBelow_thumbList list hmore]

theorem pushList_eq (lr : Bool) (list : Byte) :
    pushList lr list = listedRegs (thumbList list (if lr then 0x4000#16 else 0#16)).toNat := by
  cases lr
  · exact (listedRegs_thumbList list (more := 0#16) (by decide)).symm
  · exact (listedRegs_thumbList list (more := 0x4000#16) (by decide)).symm

theorem popList_eq (toPc : Bool) (list : Byte) :
    popList toPc list = listedRegs (thumbList list (if toPc then 0x8000#16 else 0#16)).toNat := by
  cases toPc
  · exact (listedRegs_thumbList list (more := 0#16) (by decide)).symm
  · exact (listedRegs_thumbList list (more := 0x8000#16) (by decide)).symm

theorem listedRegs_byte (list : Byte) : listedRegs list.toNat = listedRegs (thumbList list 0#16).toNat := by
  rw [listedRegs_thumbList list (by decide)]
  exact (List.append_nil _).symm

end Sys2Proof.Proofs
end

section
/-! PROOFS. LDMIA and POP (R683, R685, R836). -/

namespace Sys2Proof.Proofs

open Sys2Proof.Machine Sys2Proof.Claims

/-! A list with a register in it. -/

theorem thumbList_ne_zero {list : Byte} {more : BitVec 16} (h : list ≠ 0#8 ∨ more ≠ 0#16) :
    thumbList list more ≠ 0#16 := by
  intro hz
  obtain ⟨hlist, hmore⟩ := BitVec.or_eq_zero_iff.mp hz
  refine h.elim (fun hne => hne ?_) fun hne => hne hmore
  have hn := congrArg BitVec.toNat hlist
  rw [BitVec.toNat_setWidth_of_le (by decide)] at hn
  exact BitVec.eq_of_toNat_eq hn

theorem blockRegs_of_ne {l : BitVec 16} (h : l ≠ 0#16) : blockRegs l = listedRegs l.toNat := if_neg h

theorem length_blockRegs_of_ne {l : BitVec 16} (h : l ≠ 0#16) : (blockRegs l).length = listCount l :=
  (length_blockRegs l).trans (if_neg h)

theorem listChecked_of_ne {l : BitVec 16} (h : l ≠ 0#16) (body : State → Res) (s : State) :
    listChecked (listedRegs l.toNat) body s = body s := by
  rw [listChecked, ← blockRegs_of_ne h, if_neg (blockRegs_ne_nil l)]

/-! The transfer, and after it the base's write, but for a base that is listed. -/

/-- What LDMIA and POP load: the last word, and the state after the registers. -/
def thumbLoaded (l : BitVec 16) (a : Word) (s : State) : Word × State :=
  loadRegs (putIn s.cpu32.cpsr.mode) (baseWrite s.cpu32.cpsr.mode none) true (blockRegs l) a s

/-- The base after the transfer (R683, R685). -/
def thumbNewBase (l : BitVec 16) (base : RegNum) (s : State) : Word :=
  readReg base s + BitVec.ofNat 32 (4 * listCount l)

/-- The state after the registers and the base. -/
def thumbLoadedBase (l : BitVec 16) (base : RegNum) (s : State) : State :=
  let t := (thumbLoaded l (readReg base s) s).2
  if l.getLsbD base.toNat then t else putIn s.cpu32.cpsr.mode base (thumbNewBase l base s) t

theorem loadRegs_eq_thumbLoaded (l : BitVec 16) (a : Word) (s : State) :
    loadRegs writeReg (fun s => s) true (blockRegs l) a s = thumbLoaded l a s := by
  have hput : ∀ i v t, t.cpu32.cpsr.mode = s.cpu32.cpsr.mode → writeReg i v t = putIn s.cpu32.cpsr.mode i v t := by
    intro i v t ht
    rw [← ht]
    rfl
  exact loadRegs_eq (wb := fun s => s) (base := none) hput (fun _ _ => rfl) _ _ _ s rfl

section
variable {l : BitVec 16} {base : RegNum} {s : State}

theorem thumbLoaded_loadsRegs (l : BitVec 16) (a : Word) (s : State) : LoadsRegs s (thumbLoaded l a s).2 :=
  loadRegs_loadsRegs _ _ _ _ _ _ s

theorem thumbLoadedBase_loadsRegs (l : BitVec 16) (base : RegNum) (s : State) :
    LoadsRegs s (thumbLoadedBase l base s) := by
  have hloads := thumbLoaded_loadsRegs l (readReg base s) s
  unfold thumbLoadedBase
  dsimp only
  split
  · exact hloads
  · exact hloads.trans (putIn_loadsRegs _ _ _ _)

/-- The two ways the model writes the base. -/
theorem writeReg_thumbLoaded (h : l.getLsbD base.toNat = false) :
    writeReg base (thumbNewBase l base s) (thumbLoaded l (readReg base s) s).2 = thumbLoadedBase l base s := by
  rw [thumbLoadedBase, h, ← (thumbLoaded_loadsRegs l (readReg base s) s).mode_eq]
  rfl

theorem thumbLoadedBase_cycles (hl : l ≠ 0#16) (base : RegNum) (s : State) : (thumbLoadedBase l base s).cycles =
    s.cycles + blockCost (readReg base s) (listCount l) s := by
  have hloaded : (thumbLoaded l (readReg base s) s).2.cycles =
      s.cycles + blockCost (readReg base s) (listCount l) s := by
    rw [thumbLoaded, loadRegs_cycles _ _ _ (pcLast_blockRegs l), wordsCost_eq_blockCost (blockRegs_ne_nil l),
      length_blockRegs_of_ne hl]
  unfold thumbLoadedBase
  dsimp only
  split <;> exact hloaded

theorem thumbLoadedBase_base (h : l.getLsbD base.toNat = false) :
    (thumbLoadedBase l base s).cpu32.regIn s.cpu32.cpsr.mode base = thumbNewBase l base s := by
  rw [thumbLoadedBase, h]
  exact regIn_setRegIn_same _ _ _ _

/-- A register that is neither listed nor the base stays. -/
theorem thumbLoadedBase_regIn {m : Mode} {j : RegNum} (hj : j ≠ 15#4) (hlist : l.getLsbD j.toNat = false)
    (hbase : slotOf base s.cpu32.cpsr.mode ≠ slotOf j m) :
    (thumbLoadedBase l base s).cpu32.regIn m j = s.cpu32.regIn m j := by
  have hregs : ∀ i ∈ blockRegs l, i ≠ 15#4 → slotOf i s.cpu32.cpsr.mode ≠ slotOf j m := by
    intro i hi hi15 he
    obtain ⟨rfl, -⟩ := (slotOf_eq_iff _ _ _ _ hi15 hj).mp he
    exact absurd ((mem_blockRegs_of_ne hi15).mp hi) (Bool.eq_false_iff.mp hlist)
  have hloaded : (thumbLoaded l (readReg base s) s).2.cpu32.regIn m j = s.cpu32.regIn m j :=
    loadRegs_regIn_ne (blockRegs l) hregs true (fun _ r hr => (Option.not_mem_none r hr).elim) _ s
  unfold thumbLoadedBase
  dsimp only
  split
  · exact hloaded
  · exact (regIn_setRegIn_ne _ _ _ _ _ _ hbase).trans hloaded

/-! From core memory. -/

/-- The words of the transfer stand in core memory. -/
def WordsRam (l : BitVec 16) (a : Word) : Prop := ∀ j, j < listCount l → isRam (region (a + BitVec.ofNat 32 (4 * j)))

theorem thumbLoadedBase_loadsWords (hl : l ≠ 0#16) (h : WordsRam l (readReg base s)) :
    LoadsWords s (thumbLoadedBase l base s) := by
  have hloaded : LoadsWords s (thumbLoaded l (readReg base s) s).2 :=
    loadRegs_loadsWords _ _ _ _ _ _ (length_blockRegs_of_ne hl ▸ h) s
  unfold thumbLoadedBase
  dsimp only
  split
  · exact hloaded
  · exact hloaded.trans (putIn_loadsWords _ _ _ _)

theorem thumbLoadedBase_word (hl : l ≠ 0#16) (h : WordsRam l (readReg base s)) (hbase : base ≠ 15#4) {j : Nat}
    {i : RegNum} (hi : i ≠ 15#4) (hj : Listed l j i) : (thumbLoadedBase l base s).cpu32.regIn s.cpu32.cpsr.mode i =
      ramWord s (readReg base s + BitVec.ofNat 32 (4 * j)) := by
  have hloaded : (thumbLoaded l (readReg base s) s).2.cpu32.regIn s.cpu32.cpsr.mode i =
      ramWord s (readReg base s + BitVec.ofNat 32 (4 * j)) :=
    loadRegs_word (nodup_blockRegs l) (pcLast_blockRegs l) true _ (length_blockRegs_of_ne hl ▸ h) s
      (getElem?_blockRegs hj) hi
  unfold thumbLoadedBase
  dsimp only
  split
  · exact hloaded
  · rename_i hnot
    refine (regIn_setRegIn_ne _ _ _ _ _ _ fun he => hnot ?_).trans hloaded
    obtain rfl := slotOf_injective _ _ _ hbase hi he
    exact hj.1

theorem thumbLoaded_pc (hl : l ≠ 0#16) {a : Word} (h : WordsRam l a) (hpc : l.getLsbD 15 = true) :
    (thumbLoaded l a s).1 = ramWord s (a + BitVec.ofNat 32 (4 * (listCount l - 1))) := by
  obtain ⟨regs, hnot, heq⟩ := blockRegs_of_pc (.inr hpc)
  have hlen : listCount l = regs.length + 1 := by
    rw [← length_blockRegs_of_ne hl, heq, List.length_append, List.length_singleton]
  rw [hlen, Nat.add_sub_cancel, thumbLoaded, heq]
  exact loadRegs_pc _ _ _ hnot true _ (h regs.length (hlen ▸ Nat.lt_succ_self _)) s

end

/-! The instructions. -/

theorem exec_thumbLdmia {rb : LowReg} {list : Byte} (hlist : list ≠ 0#8) (s : State) :
    exec (.thumbLdmia rb list) s = retire 1 (thumbLoadedBase (thumbList list 0#16) (low rb) s) := by
  have hl := thumbList_ne_zero (more := 0#16) (.inl hlist)
  have hmem : low rb ∈ blockRegs (thumbList list 0#16) ↔ (thumbList list 0#16).getLsbD (low rb).toNat = true :=
    mem_blockRegs_of_ne (low_ne_pc rb)
  have hexec : exec (.thumbLdmia rb list) s = thumbLoadMultiple rb list s := rfl
  rw [hexec, thumbLoadMultiple, listedRegs_byte, listChecked_of_ne hl, ← blockRegs_of_ne hl]
  simp only [loadRegs_eq_thumbLoaded, hmem, listBytes, length_blockRegs_of_ne hl]
  congr 1
  by_cases hbit : (thumbList list 0#16).getLsbD (low rb).toNat = true
  · rw [if_pos hbit, thumbLoadedBase, if_pos hbit]
  · rw [if_neg hbit]
    exact writeReg_thumbLoaded (Bool.eq_false_iff.mpr hbit)

/-- The registers of POP do not have SP among them. -/
def popRegs (toPc : Bool) (list : Byte) : BitVec 16 := thumbList list (if toPc then 0x8000#16 else 0#16)

theorem popRegs_sp (toPc : Bool) (list : Byte) : (popRegs toPc list).getLsbD 13 = false := by
  rw [popRegs, thumbList_high list _ (by decide)]
  cases toPc <;> rfl

theorem popRegs_pc (toPc : Bool) (list : Byte) : (popRegs toPc list).getLsbD 15 = toPc := by
  rw [popRegs, thumbList_high list _ (by decide)]
  cases toPc <;> rfl

theorem popRegs_ne_zero {toPc : Bool} {list : Byte} (h : toPc = true ∨ list ≠ 0#8) : popRegs toPc list ≠ 0#16 := by
  refine thumbList_ne_zero (h.symm.imp_right fun hpc => ?_)
  rw [hpc]
  decide

theorem exec_thumbPop {toPc : Bool} {list : Byte} (h : toPc = true ∨ list ≠ 0#8) (s : State) :
    exec (.thumbPop toPc list) s =
      let t := charge 1 (thumbLoadedBase (popRegs toPc list) 13#4 s)
      if toPc then writePcValue (thumbLoaded (popRegs toPc list) (readReg 13#4 s) s).1 t else retire 0 t := by
  have hl := popRegs_ne_zero h
  have hexec : exec (.thumbPop toPc list) s = thumbPopRegs toPc list s := rfl
  rw [hexec, thumbPopRegs, popList_eq, ← popRegs, listChecked_of_ne hl, ← blockRegs_of_ne hl]
  simp only [loadRegs_eq_thumbLoaded, listBytes, length_blockRegs_of_ne hl]
  rw [← writeReg_thumbLoaded (popRegs_sp toPc list)]
  rfl

/-- The base bit of LDMIA's list. -/
theorem thumbList_low (list : Byte) (rb : LowReg) :
    (thumbList list 0#16).getLsbD (low rb).toNat = list.getLsbD rb.toNat := by
  have hlt := rb.isLt
  rw [thumbList, BitVec.or_zero, BitVec.getLsbD_setWidth, low, BitVec.toNat_setWidth_of_le (by decide),
    decide_eq_true (by omega), Bool.true_and]

theorem retire_charge (k : Nat) (s : State) : retire 0 (charge k s) = retire k s := by
  have hcost : codeCost true (charge k s) = codeCost true s := codeCost_congr true rfl rfl rfl
  have hcycles : s.cycles + k + codeCost true s = s.cycles + (codeCost true s + k) := by omega
  simp only [retire, hcost]
  simp only [charge, advancePc, on32, Nat.add_zero, hcycles]

/-- POP ends in a state that differs from the loaded one by PC, CPSR and its cost (R683, R836). -/
theorem thumbPop_state {toPc : Bool} {list : Byte} (h : toPc = true ∨ list ≠ 0#8) (s : State) :
    let u := thumbLoadedBase (popRegs toPc list) 13#4 s
    let v := (thumbLoaded (popRegs toPc list) (readReg 13#4 s) s).1
    ∃ t, exec (.thumbPop toPc list) s = .next t ∧
      t.cycles = u.cycles + 1 + sCost s + (if toPc then refill t else 0) ∧
      t = { u with cpu32 := { u.cpu32 with pc := t.cpu32.pc, cpsr := t.cpu32.cpsr }, cycles := t.cycles } ∧
      (toPc = false → t.cpu32.pc = s.cpu32.pc + len32 s ∧ t.cpu32.cpsr = s.cpu32.cpsr) ∧
      (toPc = true → t.cpu32.cpsr =
          { s.cpu32.cpsr with t := if s.params.interwork then v.getLsbD 0 else s.cpu32.cpsr.t } ∧
        t.cpu32.pc = aligned t.cpu32.cpsr.t v) := by
  have hregs := thumbLoadedBase_loadsRegs (popRegs toPc list) 13#4 s
  have hexec := exec_thumbPop h s
  dsimp only at hexec ⊢
  generalize thumbLoadedBase (popRegs toPc list) 13#4 s = u at *
  generalize (thumbLoaded (popRegs toPc list) (readReg 13#4 s) s).1 = v at *
  rw [retire_charge, retire_self, writePcValue_charge] at hexec
  cases toPc with
  | false =>
    refine ⟨_, hexec, ?_, rfl, fun _ => ⟨?_, hregs.cpsr_eq⟩, nofun⟩
    · rw [past_cycles, hregs.sCost_eq, if_neg Bool.false_ne_true]
      omega
    · rw [past_cpu32, len32, hregs.cpsr_eq, hregs.pc_eq]
      rfl
  | true =>
    have hparams : u.params = s.params := by
      obtain ⟨slots, d, e, last, n, rfl⟩ := hregs
      rfl
    refine ⟨_, hexec, ?_, rfl, nofun, fun _ => ⟨?_, rfl⟩⟩
    · rw [← hregs.sCost_eq]
      rfl
    · rw [jumped_cpu32, hregs.cpsr_eq, hparams]

/-- Settles O44: both load `thumbLoadedBase`, and end past themselves or at the last word. -/
theorem thumbLoadMultiple : Obligations.ThumbLoadMultiple := by
  refine ⟨fun rb list s hlist => ?_, fun toPc list s h => ?_⟩
  · have hl := thumbList_ne_zero (more := 0#16) (.inl hlist)
    have hregs := thumbLoadedBase_loadsRegs (thumbList list 0#16) (low rb) s
    have hexec := exec_thumbLdmia (rb := rb) hlist s
    have hmode : (thumbLoadedBase (thumbList list 0#16) (low rb) s).cpu32.cpsr.mode = s.cpu32.cpsr.mode := hregs.mode_eq
    rw [retire_self] at hexec
    dsimp only
    rw [← readReg_low]
    refine ⟨_, hexec, hregs.mem_eq, hregs.cpsr_eq, ?_, ?_, fun hbit => ?_, fun m j hj hlist hne => ?_,
      fun hram => ⟨fun j i hij => ?_, ?_⟩⟩
    · rw [past_cpu32, len32, hregs.cpsr_eq, hregs.pc_eq]
      rfl
    · rw [past_cycles, hregs.sCost_eq, thumbLoadedBase_cycles hl]
      omega
    · rw [lowReg, past_cpu32, hmode]
      exact thumbLoadedBase_base ((thumbList_low list rb).trans hbit)
    · refine thumbLoadedBase_regIn hj hlist fun he => hne ?_
      exact ((slotOf_eq_iff _ _ _ _ (low_ne_pc rb) hj).mp he).1.symm
    · refine thumbLoadedBase_word hl hram (low_ne_pc rb) ?_ hij
      rintro rfl
      exact absurd (hij.1.symm.trans (thumbList_high list 0#16 (by decide : 8 ≤ 15))) nofun
    · obtain ⟨slots, last, cycles, hwords⟩ := thumbLoadedBase_loadsWords hl hram
      rw [hwords]
      rfl
  · have hl := popRegs_ne_zero h
    obtain ⟨t, hexec, hcycles, ht, hpast, hjump⟩ := thumbPop_state h s
    have hregs := thumbLoadedBase_loadsRegs (popRegs toPc list) 13#4 s
    have hsp := popRegs_sp toPc list
    have hregIn : ∀ m i, t.cpu32.regIn m i = (thumbLoadedBase (popRegs toPc list) 13#4 s).cpu32.regIn m i := by
      intro m i
      rw [ht]
      rfl
    refine ⟨t, hexec, ?_, ?_, ?_, hpast, fun m j hj hlist hne => ?_,
      fun hram => ⟨fun j i hi hij => ?_, fun hpc => ?_, ?_⟩⟩
    · rw [ht]
      exact hregs.mem_eq
    · rw [hregIn]
      exact thumbLoadedBase_base hsp
    · rw [hcycles, thumbLoadedBase_cycles hl]
      rfl
    · rw [hregIn]
      exact thumbLoadedBase_regIn hj hlist hne.symm
    · rw [hregIn]
      exact thumbLoadedBase_word hl hram (by decide) hi hij
    · have hlast := thumbLoaded_pc (s := s) hl hram ((popRegs_pc toPc list).trans hpc)
      rw [hlast] at hjump
      exact hjump hpc
    · obtain ⟨slots, last, cycles, hwords⟩ := thumbLoadedBase_loadsWords hl hram
      rw [ht, hwords]

end Sys2Proof.Proofs
end

section
/-! PROOFS. PUSH and STMIA (R682, R684, R836, R842). -/

namespace Sys2Proof.Proofs

open Sys2Proof.Machine Sys2Proof.Claims

theorem readsRegs_readReg : ReadsRegs readReg := by
  intro i s t hslots hpc hcpsr
  rw [readReg, readReg, Cpu32.pcRead, Cpu32.pcRead, Cpu32.regIn, Cpu32.regIn, hslots, hpc, hcpsr]

/-- The registers of PUSH do not have SP among them. -/
def pushRegs (lr : Bool) (list : Byte) : BitVec 16 := thumbList list (if lr then 0x4000#16 else 0#16)

theorem pushRegs_sp (lr : Bool) (list : Byte) : (pushRegs lr list).getLsbD 13 = false := by
  rw [pushRegs, thumbList_high list _ (by decide)]
  cases lr <;> rfl

theorem pushRegs_ne_zero {lr : Bool} {list : Byte} (h : lr = true ∨ list ≠ 0#8) : pushRegs lr list ≠ 0#16 := by
  refine thumbList_ne_zero (h.symm.imp_right fun hlr => ?_)
  rw [hlr]
  decide

theorem exec_thumbPush {lr : Bool} {list : Byte} (h : lr = true ∨ list ≠ 0#8) (s : State) :
    let a := readReg 13#4 s - BitVec.ofNat 32 (4 * listCount (pushRegs lr list))
    exec (.thumbPush lr list) s = thenRes (storeRegs readReg (fun t => t) true (blockRegs (pushRegs lr list)) a s)
      fun t => retireStore (writeReg 13#4 a t) := by
  have hl := pushRegs_ne_zero h
  have hexec : exec (.thumbPush lr list) s = thumbPushRegs lr list s := rfl
  dsimp only
  rw [hexec, thumbPushRegs, pushList_eq, ← pushRegs, listChecked_of_ne hl, ← blockRegs_of_ne hl]
  simp only [listBytes, length_blockRegs_of_ne hl]

theorem exec_thumbStmia {rb : LowReg} {list : Byte} (h : list ≠ 0#8) (s : State) :
    exec (.thumbStmia rb list) s =
      thenRes (storeRegs readReg (writeReg (low rb) (thumbNewBase (thumbList list 0#16) (low rb) s)) true
        (blockRegs (thumbList list 0#16)) (readReg (low rb) s) s) fun t => retireStore t := by
  have hl := thumbList_ne_zero (more := 0#16) (.inl h)
  have hexec : exec (.thumbStmia rb list) s = thumbStoreMultiple rb list s := rfl
  rw [hexec, thumbStoreMultiple, listedRegs_byte, listChecked_of_ne hl, ← blockRegs_of_ne hl]
  simp only [listBytes, length_blockRegs_of_ne hl]
  rfl

/-- What a THUMB block store claims of the word at a place of its list. -/
def StoresListed (l : BitVec 16) (base : RegNum) (a newb : Word) (s t : State) (j : Nat) : Prop :=
  ∀ k, Listed l j k → ramWord t (a + BitVec.ofNat 32 (4 * j)) = if k = base ∧ 0 < j then newb else readReg k s

/-- PUSH stores the registers as they are, and then writes SP. -/
theorem blockStores_thumbPush {lr : Bool} {list : Byte} (h : lr = true ∨ list ≠ 0#8) (s : State) :
    let l := pushRegs lr list
    let a := readReg 13#4 s - BitVec.ofNat 32 (4 * listCount l)
    BlockStores (.thumbPush lr list) (fun j => a + BitVec.ofNat 32 (4 * j)) (listCount l) (setX s 13#4 a)
      (blockCost a (listCount l) s + nCost s) s (StoresListed l 13#4 a a s) := by
  have hstores := blockStores_of_storeRegs (exec_thumbPush h s) readsRegs_readReg (writesSlots_self s)
    (fun _ => ⟨rfl, rfl, rfl⟩) (writesSlots_writeReg 13#4 _ s) (blockRegs_ne_nil _) (length_blockRegs_le _)
  rw [length_blockRegs_of_ne (pushRegs_ne_zero h)] at hstores
  refine blockStores_imp hstores fun t j hwords k hk => hwords _ ?_
  have hnot : ¬ (k = 13#4 ∧ 0 < j) := by
    rintro ⟨rfl, -⟩
    exact absurd (hk.1.symm.trans (pushRegs_sp lr list)) nofun
  rw [getElem?_storedWords (getElem?_blockRegs hk), if_neg hnot]
  exact congrArg some (ite_self _)

/-- STMIA writes its base after the first register. -/
theorem blockStores_thumbStmia (rb : LowReg) {list : Byte} (h : list ≠ 0#8) (s : State) :
    let l := thumbList list 0#16
    let a := readReg (low rb) s
    let newb := thumbNewBase l (low rb) s
    BlockStores (.thumbStmia rb list) (fun j => a + BitVec.ofNat 32 (4 * j)) (listCount l) (setX s (low rb) newb)
      (blockCost a (listCount l) s + nCost s) s (StoresListed l (low rb) a newb s) := by
  have hstores := blockStores_of_storeRegs (exec_thumbStmia h s) readsRegs_readReg (writesSlots_writeReg (low rb) _ s)
    (fun _ => ⟨rfl, rfl, rfl⟩) (writesSlots_self _) (blockRegs_ne_nil _) (length_blockRegs_le _)
  rw [length_blockRegs_of_ne (thumbList_ne_zero (.inl h))] at hstores
  refine blockStores_imp hstores fun t j hwords k hk => hwords _ ?_
  rw [getElem?_storedWords (getElem?_blockRegs hk)]
  generalize thumbNewBase (thumbList list 0#16) (low rb) s = newb
  have hset : setSlots (setX s (low rb) newb).slots s = writeReg (low rb) newb s := rfl
  rw [hset]
  by_cases hj : j = 0
  · rw [if_pos hj, if_neg fun ⟨_, h⟩ => h.ne' hj]
  · rw [if_neg hj]
    by_cases hkb : k = low rb
    · rw [if_pos ⟨hkb, Nat.pos_of_ne_zero hj⟩, hkb, readReg_writeReg_same _ _ _ (low_ne_pc rb)]
    · rw [if_neg fun ⟨h, _⟩ => hkb h, readReg_writeReg_ne _ _ _ _ (low_ne_pc rb) fun h => hkb h.symm]

/-- Settles O45: both are block stores; PUSH writes SP at the end, STMIA its base after the first word. -/
theorem thumbStoreMultiple : Obligations.ThumbStoreMultiple := by
  intro i l base a newb s h
  obtain ⟨lr, list, hlist, rfl, rfl, rfl, rfl, rfl⟩ | ⟨rb, list, hlist, rfl, rfl, rfl, rfl, rfl⟩ := h
  · exact blockStores_thumbPush hlist s
  · rw [← readReg_low]
    exact blockStores_thumbStmia rb hlist s

end Sys2Proof.Proofs
end

section
/-! PROOFS. The CPU-8 boundary: dispatch, HALT and STOP (R701 to R705, R810). -/

namespace Sys2Proof.Proofs

open Sys2Proof.Machine Sys2Proof.Claims

/-! The interrupt dispatched (R702, R704). -/

theorem lowestBit_eq {v : BitVec 5} {k : Nat} (hk : k < 5) (h : v.getLsbD k = true)
    (hlow : ∀ j, j < k → v.getLsbD j = false) : lowestBit v = k := by
  unfold lowestBit
  interval_cases k
  · exact if_pos h
  · simp only [h, hlow 0 (by decide), if_true, Bool.false_eq_true, if_false]
  · simp only [h, hlow 0 (by decide), hlow 1 (by decide), if_true, Bool.false_eq_true, if_false]
  · simp only [h, hlow 0 (by decide), hlow 1 (by decide), hlow 2 (by decide), if_true, Bool.false_eq_true, if_false]
  · simp only [hlow 0 (by decide), hlow 1 (by decide), hlow 2 (by decide), hlow 3 (by decide), Bool.false_eq_true,
      if_false]

theorem serviceable_getLsbD (c : Cpu8) {j : Nat} (hj : j < 5) :
    c.serviceable.getLsbD j = (c.ie.getLsbD j && c.iflag.getLsbD j) := by
  rw [Cpu8.serviceable, BitVec.getLsbD_and, BitVec.getLsbD_setWidth, decide_eq_true hj, Bool.true_and]

theorem lowestBit_serviceable {c : Cpu8} {k : Nat} (hk : k < 5) (h : c.ie.getLsbD k = true ∧ c.iflag.getLsbD k = true)
    (hlow : ∀ j, j < k → ¬ (c.ie.getLsbD j = true ∧ c.iflag.getLsbD j = true)) : lowestBit c.serviceable = k := by
  refine lowestBit_eq hk ?_ fun j hj => ?_
  · rw [serviceable_getLsbD c hk, Bool.and_eq_true]
    exact h
  · rw [serviceable_getLsbD c (hj.trans hk), ← Bool.not_eq_true, Bool.and_eq_true]
    exact hlow j hj

theorem serviceable_ne_zero {c : Cpu8} {k : Nat} (hk : k < 5) (h : c.ie.getLsbD k = true ∧ c.iflag.getLsbD k = true) :
    c.serviceable ≠ 0#5 := by
  intro hz
  obtain ⟨hie, hif⟩ := h
  have hbit := serviceable_getLsbD c hk
  rw [hz, hie, hif, BitVec.getLsbD_zero] at hbit
  cases hbit

/-- Clearing IF[k] (R702). -/
theorem getLsbD_clear_bit (v : BitVec 5) {k : Nat} (hk : k < 5) (j : Fin 5) :
    (v &&& ~~~(1#5 <<< k)).getLsbD j = (v.getLsbD j && decide (j.val ≠ k)) := by
  have hmask : ∀ (k j : Fin 5), (~~~(1#5 <<< k.val)).getLsbD j = decide (j.val ≠ k.val) := by decide
  rw [BitVec.getLsbD_and, hmask ⟨k, hk⟩ j]

/-! The step (R810). -/

theorem step_eq_step8 {s : State} (hf : s.fault = none) (hv : s.params.variant = .cpu8) : step s = step8 s := by
  simp only [step, hf, hv]

/-- The state at a boundary, about to go on: nothing charged or delivered, and not halted (R703, R810). -/
def awake8 (s : State) : State :=
  { s with cpu8 := { s.cpu8 with halted := false }, cycles := 0, outbox := [] }

section
variable {s : State} (hf : s.fault = none) (hv : s.params.variant = .cpu8)
include hf hv

theorem step_of_stopped8 (hstop : s.cpu8.stopped = true) : step s = .next { s with cycles := 0, outbox := [] } := by
  rw [step_eq_step8 hf hv]
  exact if_pos hstop

theorem step_of_running8 (hstop : s.cpu8.stopped = false) : step s =
    if s.cpu8.halted then
      if s.cpu8.serviceable = 0#5 then finishStep8 (charge 4 (beginStep s)) else boundary8 (awake8 s)
    else boundary8 (beginStep s) := by
  rw [step_eq_step8 hf hv]
  exact if_neg (Bool.eq_false_iff.mp hstop)

/-- Halted with nothing serviceable, a step is four cycles of the timer (R703). -/
theorem step_of_halted8 (hstop : s.cpu8.stopped = false) (hhalt : s.cpu8.halted = true)
    (hserv : s.cpu8.serviceable = 0#5) :
    step s = .next { s with cpu8 := Cpu8.advance 4 s.cpu8, cycles := 4, outbox := [] } := by
  rw [step_of_running8 hf hv hstop, if_pos hhalt, if_pos hserv]
  rfl

/-- Not halted, or with a serviceable interrupt, the boundary goes on (R703). -/
theorem step_of_awake8 (hstop : s.cpu8.stopped = false) (hgo : s.cpu8.halted = true → s.cpu8.serviceable ≠ 0#5) :
    step s = boundary8 (awake8 s) := by
  rw [step_of_running8 hf hv hstop]
  split
  · rename_i hhalt
    exact if_neg (hgo hhalt)
  · rename_i hhalt
    rw [awake8, ← Bool.eq_false_iff.mpr hhalt]
    rfl

end

/-- A dispatch whose push completes: PC at the vector, and the timer over the push's cycles and 20 (R702, R810). -/
theorem boundary8_dispatches {s t : State} (hd : s.cpu8.dispatches = true)
    (hpush : push16 s.cpu8.pc (on8 (fun c => c.acknowledge (lowestBit s.cpu8.serviceable)) s) = .next t) :
    boundary8 s = .next { t with
      cpu8 := Cpu8.advance (t.cycles + 20)
        { t.cpu8 with pc := BitVec.ofNat 16 (0x40 + 8 * lowestBit s.cpu8.serviceable) }
      cycles := t.cycles + 20 } := by
  simp only [boundary8, if_pos hd, dispatch8, hpush, thenRes_next]
  rfl

/-- Settles O15: the boundary dispatches, idles, or goes on as the machine that is not halted. -/
theorem cpu8Boundary : Obligations.Cpu8Boundary := by
  refine ⟨fun s k hf hv hstop hime hk hbit hlow hpush => ?_,
    fun s hf hv => ⟨step_of_stopped8 hf hv, fun mask hmask => ?_, fun hstop hhalt => ⟨step_of_halted8 hf hv hstop hhalt,
      fun hserv => ?_⟩⟩⟩
  · have hserv := serviceable_ne_zero hk hbit
    have hlowest : lowestBit (awake8 s).cpu8.serviceable = k := lowestBit_serviceable hk hbit hlow
    have hdispatch : (awake8 s).cpu8.dispatches = true := Bool.and_eq_true_iff.mpr ⟨hime, bne_iff_ne.mpr hserv⟩
    obtain ⟨t, ht⟩ := push16_next (s := on8 (fun c => c.acknowledge k) (awake8 s)) hpush
    refine ⟨t, s.cpu8.iflag &&& ~~~(1#5 <<< k), getLsbD_clear_bit _ hk, ht, ?_⟩
    rw [step_of_awake8 hf hv hstop fun _ => hserv, boundary8_dispatches hdispatch (hlowest.symm ▸ ht), hlowest]
  · simp only [setInputs, hv, if_pos hmask]
    exact ⟨_, rfl, rfl⟩
  · rw [step_of_awake8 hf hv hstop fun _ => hserv,
      step_of_awake8 (s := { s with cpu8 := { s.cpu8 with halted := false } }) hf hv hstop nofun]
    rfl

end Sys2Proof.Proofs
end

section
/-! PROOFS. The CPU-8 divider and timer (R720 to R722). -/

namespace Sys2Proof.Proofs

open Sys2Proof.Machine Sys2Proof.Claims

/-! The timer clock and its edge (R721). -/

theorem timerBit_eq (tac : BitVec 3) : timerBit tac = if tac.toNat % 4 = 0 then 9 else if tac.toNat % 4 = 1 then 3
    else if tac.toNat % 4 = 2 then 5 else 7 := by
  revert tac
  decide

/-- The period is that of the divider bit that clocks the timer (R721). -/
theorem timerPeriod_eq (tac : BitVec 3) : timerPeriod tac = 2 ^ (timerBit tac + 1) := by
  revert tac
  decide

theorem timerBit_lt (tac : BitVec 3) : timerBit tac < 16 := by
  revert tac
  decide

@[simp] theorem timerEdge_tac (c : Cpu8) : c.timerEdge.tac = c.tac := by unfold Cpu8.timerEdge; split <;> rfl
@[simp] theorem timerEdge_div16 (c : Cpu8) : c.timerEdge.div16 = c.div16 := by unfold Cpu8.timerEdge; split <;> rfl
@[simp] theorem timerEdge_stopped (c : Cpu8) : c.timerEdge.stopped = c.stopped := by
  unfold Cpu8.timerEdge; split <;> rfl

theorem timerEdge_tima (c : Cpu8) : c.timerEdge.tima = if c.tima = 0xFF#8 then c.tma else c.tima + 1 := by
  unfold Cpu8.timerEdge
  split <;> rfl

theorem timerEdge_iflag (c : Cpu8) :
    c.timerEdge.iflag = if c.tima = 0xFF#8 then c.iflag ||| 0b00100#5 else c.iflag := by
  unfold Cpu8.timerEdge
  split <;> rfl

/-- What an edge does is in TIMA and IF. -/
theorem timerEdge_eq (c : Cpu8) : c.timerEdge = { c with tima := c.timerEdge.tima, iflag := c.timerEdge.iflag } := by
  unfold Cpu8.timerEdge
  split <;> rfl

/-- An edge looks neither at the divider nor at the clock. -/
theorem timerEdge_withClock (c : Cpu8) (div16 : Half) (clock : Bool) :
    { c with div16 := div16, timerIn := clock }.timerEdge = { c.timerEdge with div16 := div16, timerIn := clock } := by
  unfold Cpu8.timerEdge
  split <;> rfl

theorem updateTimerIn_falls {c : Cpu8} (hold : c.timerIn = true) (hnew : timerSignal c.tac c.div16 = false) :
    c.updateTimerIn = { c.timerEdge with timerIn := false } := by
  simp only [Cpu8.updateTimerIn, hold, hnew, and_self, if_true]

theorem updateTimerIn_stays {c : Cpu8} (h : ¬ (c.timerIn = true ∧ timerSignal c.tac c.div16 = false)) :
    c.updateTimerIn = { c with timerIn := timerSignal c.tac c.div16 } := by
  simp only [Cpu8.updateTimerIn, if_neg h]

/-- The timer's place after a clock or a register write, by whether the clock falls (R721, R722). -/
theorem updateTimerIn_counts (c : Cpu8) :
    (c.timerIn = false ∨ timerSignal c.tac c.div16 = true →
      c.updateTimerIn.tima = c.tima ∧ c.updateTimerIn.iflag = c.iflag) ∧
    (c.timerIn = true ∧ timerSignal c.tac c.div16 = false →
      c.updateTimerIn.tima = (if c.tima = 0xFF#8 then c.tma else c.tima + 1) ∧
      c.updateTimerIn.iflag = (if c.tima = 0xFF#8 then c.iflag ||| 0b00100#5 else c.iflag)) := by
  refine ⟨fun h => ?_, fun ⟨hold, hnew⟩ => ?_⟩
  · rw [updateTimerIn_stays fun ⟨hold, hnew⟩ =>
      h.elim (absurd hold <| Bool.eq_false_iff.mp ·) (Bool.eq_false_iff.mp hnew)]
    exact ⟨rfl, rfl⟩
  · rw [updateTimerIn_falls hold hnew]
    exact ⟨timerEdge_tima c, timerEdge_iflag c⟩

theorem updateTimerIn_clock (c : Cpu8) : c.updateTimerIn.tac = c.tac ∧ c.updateTimerIn.div16 = c.div16 ∧
    c.updateTimerIn.timerIn = timerSignal c.tac c.div16 ∧ c.updateTimerIn.stopped = c.stopped := by
  unfold Cpu8.updateTimerIn
  dsimp only
  split
  · exact ⟨timerEdge_tac c, timerEdge_div16 c, rfl, timerEdge_stopped c⟩
  · exact ⟨rfl, rfl, rfl, rfl⟩

/-! Clocks (R720). -/

theorem tick_of_running {c : Cpu8} (h : c.stopped = false) : c.tick = { c with div16 := c.div16 + 1 }.updateTimerIn :=
  if_neg (Bool.eq_false_iff.mp h)

theorem advance_of_stopped (n : Nat) {c : Cpu8} (h : c.stopped = true) : Cpu8.advance n c = c := by
  induction n with
  | zero => rfl
  | succ n ih =>
    have htick : c.tick = c := if_pos h
    rw [Cpu8.advance, htick, ih]

theorem advance_div16 (n : Nat) {c : Cpu8} (h : c.stopped = false) :
    (Cpu8.advance n c).div16 = c.div16 + BitVec.ofNat 16 n := by
  induction n generalizing c with
  | zero => exact (BitVec.add_zero _).symm
  | succ n ih =>
    obtain ⟨-, hdiv, -, hstop⟩ := updateTimerIn_clock { c with div16 := c.div16 + 1 }
    rw [Cpu8.advance, tick_of_running h, ih (hstop.trans h), hdiv, Nat.add_comm n 1, BitVec.ofNat_add,
      ← BitVec.add_assoc]
    rfl

/-- A disabled timer does not count (R721). -/
theorem advance_of_disabled (n : Nat) {c : Cpu8} (hen : c.tac.getLsbD 2 = false) (hin : c.timerIn = false) :
    (Cpu8.advance n c).tima = c.tima ∧ (Cpu8.advance n c).iflag = c.iflag := by
  by_cases hstop : c.stopped = true
  · rw [advance_of_stopped n hstop]
    exact ⟨rfl, rfl⟩
  rw [Bool.not_eq_true] at hstop
  induction n generalizing c with
  | zero => exact ⟨rfl, rfl⟩
  | succ n ih =>
    have hstays := updateTimerIn_stays (c := { c with div16 := c.div16 + 1 })
      fun ⟨h, _⟩ => Bool.eq_false_iff.mp hin h
    have hsignal : timerSignal c.tac (c.div16 + 1) = false := by rw [timerSignal, hen, Bool.false_and]
    rw [Cpu8.advance, tick_of_running hstop, hstays]
    exact ih hen hsignal hstop

/-! One period (R721). -/

theorem getLsbD_eq_decide (x : Half) (b : Nat) : x.getLsbD b = decide (2 ^ b ≤ x.toNat % 2 ^ (b + 1)) := by
  rw [BitVec.getLsbD, Nat.testBit_eq_decide_div_mod_eq, decide_eq_decide, Nat.pow_succ, Nat.mod_mul]
  have hlt := Nat.mod_lt x.toNat (Nat.two_pow_pos b)
  have hbit := Nat.mod_two_eq_zero_or_one (x.toNat / 2 ^ b)
  obtain h | h := hbit <;> rw [h] <;> omega

theorem toNat_add_mod_pow (x : Half) (n : Nat) {b : Nat} (hb : b < 16) :
    (x + BitVec.ofNat 16 n).toNat % 2 ^ (b + 1) = (x.toNat % 2 ^ (b + 1) + n) % 2 ^ (b + 1) := by
  have hdvd : 2 ^ (b + 1) ∣ 2 ^ 16 := Nat.pow_dvd_pow 2 hb
  rw [BitVec.toNat_add, BitVec.toNat_ofNat, Nat.add_mod_mod, Nat.mod_mod_of_dvd _ hdvd, Nat.mod_add_mod]

/-- The CPU-8 half n clocks on but for its divider, within one period: TIMA has moved once the bit has fallen. -/
def edged (c : Cpu8) (n : Nat) : Cpu8 :=
  if timerPeriod c.tac ≤ c.div16.toNat % timerPeriod c.tac + n then c.timerEdge else c

/-- The CPU-8 half n clocks on, within one period. -/
def clocked (c : Cpu8) (n : Nat) : Cpu8 :=
  { edged c n with
    div16 := c.div16 + BitVec.ofNat 16 n
    timerIn := (c.div16 + BitVec.ofNat 16 n).getLsbD (timerBit c.tac) }

theorem edged_before {c : Cpu8} {n : Nat} (h : c.div16.toNat % timerPeriod c.tac + n < timerPeriod c.tac) :
    edged c n = c :=
  if_neg (Nat.not_le.mpr h)

theorem edged_after {c : Cpu8} {n : Nat} (h : timerPeriod c.tac ≤ c.div16.toNat % timerPeriod c.tac + n) :
    edged c n = c.timerEdge :=
  if_pos h

theorem edged_clock (c : Cpu8) (n : Nat) : (edged c n).tac = c.tac ∧ (edged c n).stopped = c.stopped := by
  unfold edged
  split
  · exact ⟨timerEdge_tac c, timerEdge_stopped c⟩
  · exact ⟨rfl, rfl⟩

/-- The upper half of a period ends where it wraps. -/
theorem upper_half_ends_iff {h r n : Nat} (hr : r < 2 * h) (hn : n < 2 * h) :
    (h ≤ (r + n) % (2 * h) ∧ ¬ h ≤ (r + (n + 1)) % (2 * h)) ↔ r + (n + 1) = 2 * h := by
  obtain hlt | heq | hgt := Nat.lt_trichotomy (r + (n + 1)) (2 * h)
  · rw [Nat.mod_eq_of_lt hlt, Nat.mod_eq_of_lt (by omega)]
    omega
  · rw [heq, Nat.mod_self, Nat.mod_eq_of_lt (by omega)]
    omega
  · have hmod : ∀ k, 2 * h ≤ k → k < 2 * h + 2 * h → k % (2 * h) = k - 2 * h := fun k hlo hhi => by
      rw [Nat.mod_eq_sub_mod hlo, Nat.mod_eq_of_lt (by omega)]
    rw [hmod (r + n) (by omega) (by omega), hmod (r + (n + 1)) (by omega) (by omega)]
    omega

/-- The bit falls where the divider passes a multiple of the period. -/
theorem falls_iff {tac : BitVec 3} (x : Half) {n : Nat} (hn : n < timerPeriod tac) :
    ((x + BitVec.ofNat 16 n).getLsbD (timerBit tac) = true ∧
      (x + BitVec.ofNat 16 (n + 1)).getLsbD (timerBit tac) = false) ↔
    x.toNat % timerPeriod tac + (n + 1) = timerPeriod tac := by
  have hb := timerBit_lt tac
  rw [timerPeriod_eq] at hn ⊢
  have hr := Nat.mod_lt x.toNat (Nat.two_pow_pos (timerBit tac + 1))
  rw [getLsbD_eq_decide, getLsbD_eq_decide, toNat_add_mod_pow x n hb, toNat_add_mod_pow x (n + 1) hb,
    decide_eq_true_eq, decide_eq_false_iff_not]
  rw [Nat.pow_succ'] at *
  exact upper_half_ends_iff hr hn

theorem getLsbD_add_period (tac : BitVec 3) (x : Half) :
    (x + BitVec.ofNat 16 (timerPeriod tac)).getLsbD (timerBit tac) = x.getLsbD (timerBit tac) := by
  rw [getLsbD_eq_decide, getLsbD_eq_decide, timerPeriod_eq, toNat_add_mod_pow x _ (timerBit_lt tac), Nat.add_mod_right,
    Nat.mod_mod]

/-- One clock of a running, enabled timer. -/
theorem tick_clocked {c : Cpu8} (hstop : c.stopped = false) (hen : c.tac.getLsbD 2 = true) {n : Nat}
    (hn : n < timerPeriod c.tac) : (clocked c n).tick = clocked c (n + 1) := by
  have hnext : c.div16 + BitVec.ofNat 16 n + 1 = c.div16 + BitVec.ofNat 16 (n + 1) := by
    rw [BitVec.ofNat_add n 1, ← BitVec.add_assoc]
    rfl
  have hsignal : ∀ d, timerSignal c.tac d = d.getLsbD (timerBit c.tac) := fun d => by
    rw [timerSignal, hen, Bool.true_and]
  have hfalls := falls_iff c.div16 hn
  obtain ⟨htac, hrun⟩ := edged_clock c n
  have hrunning : (clocked c n).stopped = false := hrun.trans hstop
  rw [tick_of_running hrunning]
  simp only [clocked, hnext]
  by_cases hedge : c.div16.toNat % timerPeriod c.tac + (n + 1) = timerPeriod c.tac
  · obtain ⟨hold, hnew⟩ := hfalls.mpr hedge
    have hstep := updateTimerIn_falls (c := { c with div16 := c.div16 + BitVec.ofNat 16 (n + 1), timerIn := true }) rfl
      ((hsignal _).trans hnew)
    rw [edged_before (n := n) (by omega), edged_after (n := n + 1) (by omega), hold, hnew, hstep,
      timerEdge_withClock]
  · have hsame : edged c (n + 1) = edged c n := by
      obtain h | h := Nat.lt_or_ge (c.div16.toNat % timerPeriod c.tac + n) (timerPeriod c.tac)
      · rw [edged_before h, edged_before (n := n + 1) (by omega)]
      · rw [edged_after h, edged_after (n := n + 1) (by omega)]
    rw [updateTimerIn_stays fun ⟨hold, hnew⟩ => hedge (hfalls.mp ⟨hold, by
      rw [← hsignal, ← htac]
      exact hnew⟩), hsame]
    simp only [htac, hsignal]

theorem advance_eq_clocked {c : Cpu8} (hstop : c.stopped = false) (hen : c.tac.getLsbD 2 = true)
    (hin : c.timerIn = c.div16.getLsbD (timerBit c.tac)) {n : Nat} (hn : n ≤ timerPeriod c.tac) :
    Cpu8.advance n c = clocked c n := by
  induction n with
  | zero =>
    have hpos : 0 < timerPeriod c.tac := by
      rw [timerPeriod_eq]
      exact Nat.two_pow_pos _
    have hbefore := edged_before (c := c) (n := 0) (Nat.mod_lt _ hpos)
    have hsame : c.div16 + BitVec.ofNat 16 0 = c.div16 := BitVec.add_zero _
    rw [clocked, hbefore, hsame, ← hin]
    rfl
  | succ n ih =>
    rw [Cpu8.advance_add, ih (Nat.le_of_succ_le hn)]
    exact tick_clocked hstop hen hn

/-- Over one whole period the timer's bit falls once (R721). -/
theorem advance_period {c : Cpu8} (hstop : c.stopped = false) (hen : c.tac.getLsbD 2 = true)
    (hin : c.timerIn = c.div16.getLsbD (timerBit c.tac)) : Cpu8.advance (timerPeriod c.tac) c =
      { c.timerEdge with div16 := c.div16 + BitVec.ofNat 16 (timerPeriod c.tac) } := by
  have htimer : c.timerEdge.timerIn = c.timerIn := by
    rw [timerEdge_eq]
  rw [advance_eq_clocked hstop hen hin Nat.le.refl, clocked, edged_after (Nat.le_add_left _ _), getLsbD_add_period,
    ← hin, ← htimer]

/-! The writes (R722). -/

theorem write8_div (v : Byte) (s : State) : write8 0xFF04#16 v s = .next (on8 Cpu8.writeDiv s) := by
  obtain ⟨hdiv, -⟩ := io8_plain s.params.colorMode
  exact write8_register hdiv v rfl

theorem write8_tac (v : Byte) (s : State) : write8 0xFF07#16 v s = .next (on8 (fun c => c.writeTac v) s) := by
  obtain ⟨-, -, -, htac, -⟩ := io8_plain s.params.colorMode
  exact write8_register htac v rfl

/-- Settles O16: clock by clock through one period of the divider bit, and by the edge law for the two writes. -/
theorem cpu8Timer : Obligations.Cpu8Timer := by
  refine ⟨fun n c => advance_div16 n, fun n c => advance_of_stopped n, fun c hstop hen hin => ?_,
    fun n c => advance_of_disabled n, fun v s => ⟨⟨_, write8_div v s, ?_⟩, ⟨_, write8_tac v s, ?_⟩⟩⟩
  · rw [← timerBit_eq] at hin
    rw [advance_period hstop hen hin]
    exact ⟨timerEdge_tima c, timerEdge_iflag c, congrArg
      (fun d : Cpu8 => { d with div16 := c.div16 + BitVec.ofNat 16 (timerPeriod c.tac) }) (timerEdge_eq c)⟩
  · obtain ⟨htac, hdiv, hin, -⟩ := updateTimerIn_clock { s.cpu8 with div16 := 0 }
    obtain ⟨hkeep, hmove⟩ := updateTimerIn_counts { s.cpu8 with div16 := 0 }
    have hlow : timerSignal s.cpu8.tac 0 = false := by
      rw [timerSignal, BitVec.ofNat_eq_ofNat, BitVec.getLsbD_zero, Bool.and_false]
    exact ⟨hdiv, htac, hin.trans hlow, fun h => hkeep (.inl h), fun h => hmove ⟨h, hlow⟩⟩
  · obtain ⟨htac, hdiv, hin, -⟩ := updateTimerIn_clock { s.cpu8 with tac := v.setWidth 3 }
    obtain ⟨hkeep, hmove⟩ := updateTimerIn_counts { s.cpu8 with tac := v.setWidth 3 }
    have hlow : (v.setWidth 3).toNat % 4 = v.toNat % 4 := by
      rw [BitVec.toNat_setWidth]
      omega
    refine ⟨htac, hdiv, hin.trans ?_, fun h => hkeep (h.imp_right hin.symm.trans),
      fun ⟨hold, hnew⟩ => hmove ⟨hold, hin.symm.trans hnew⟩⟩
    simp only [timerSignal, timerBit_eq, hlow, BitVec.getLsbD_setWidth, Nat.reduceLT, decide_true, Bool.true_and]

end Sys2Proof.Proofs
end

section
/-! PROOFS. The CPU-8 copies (R760, R762). -/

namespace Sys2Proof.Proofs

open Sys2Proof.Machine Sys2Proof.Claims

/-! A copy of bytes through the bus, from core memory to core memory. -/

/-- The state with this CPU-8 memory. -/
def withMem8 (s : State) (m : Memory) : State := { s with cpu8 := { s.cpu8 with mem := m } }

/-- Which core memory an address shows does not depend on its bytes. -/
theorem read8_withMem8 {a : Half} {s : State} {k : Nat} (h : cellOf s a.toNat = some k) (m : Memory) :
    read8 a (withMem8 s m) = (Memory.read m k, withMem8 s m) :=
  read8_cell (s := withMem8 s m) ((place8_eq_cell_iff s a k).mpr h)

/-- Memory after the first n bytes of a copy in state s, byte i read at `addr i` and stored at the key `key i`. -/
structure CopiesTo8 (addr : Nat → Half) (key : Nat → Nat) (s : State) (n : Nat) (m : Memory) : Prop where
  wf : Memory.wf m = true
  copied : ∀ i k, i < n → cellOf s (addr i).toNat = some k → Memory.read m (key i) = Memory.read s.cpu8.mem k
  kept : ∀ k, (∀ i, i < n → k ≠ key i) → Memory.read m k = Memory.read s.cpu8.mem k

section
variable {addr : Nat → Half} {key : Nat → Nat} {s : State}

theorem CopiesTo8.zero (hm : Memory.wf s.cpu8.mem = true) : CopiesTo8 addr key s 0 s.cpu8.mem :=
  ⟨hm, fun _ _ hi => absurd hi (Nat.not_lt_zero _), fun _ _ => rfl⟩

/-- One byte more, to a key not yet written. -/
theorem CopiesTo8.succ {n k : Nat} {m : Memory} (h : CopiesTo8 addr key s n m) (hk : cellOf s (addr n).toNat = some k)
    (hto : ∀ i, i < n → key i ≠ key n) :
    CopiesTo8 addr key s (n + 1) (Memory.write m (key n) (Memory.read s.cpu8.mem k)) where
  wf := Memory.wf_write _ _ h.wf
  copied i j hi hj := by
    obtain hlt | rfl := Nat.lt_succ_iff_lt_or_eq.mp hi
    · rw [Memory.read_write_ne _ h.wf (hto i hlt), h.copied i j hlt hj]
    · rw [Memory.read_write_same _ _ h.wf, Option.some.inj (hk.symm.trans hj)]
  kept j hj := by
    rw [Memory.read_write_ne _ h.wf (hj n n.lt_succ_self), h.kept j fun i hi => hj i (Nat.lt_succ_of_lt hi)]

/-- A copy whose sources are core memory it does not write, and whose keys differ, copies its bytes and no other. -/
theorem exists_copied {copy : Nat → State} (hzero : copy 0 = s)
    (hsucc : ∀ n m, copy n = withMem8 s m →
      copy (n + 1) = setCell8 (key n) (read8 (addr n) (withMem8 s m)).1 (read8 (addr n) (withMem8 s m)).2)
    (hm : Memory.wf s.cpu8.mem = true) {n : Nat}
    (hsrc : ∀ i, i < n → ∃ k, cellOf s (addr i).toNat = some k ∧ ∀ j, j < n → k ≠ key j)
    (hto : ∀ i j, i < j → j < n → key i ≠ key j) : ∃ m, copy n = withMem8 s m ∧ CopiesTo8 addr key s n m := by
  induction n with
  | zero => exact ⟨s.cpu8.mem, hzero, .zero hm⟩
  | succ n ih =>
    have hbefore : ∀ i, i < n → ∃ k, cellOf s (addr i).toNat = some k ∧ ∀ j, j < n → k ≠ key j := fun i hi => by
      obtain ⟨k, hk, hne⟩ := hsrc i (Nat.lt_succ_of_lt hi)
      exact ⟨k, hk, fun j hj => hne j (Nat.lt_succ_of_lt hj)⟩
    obtain ⟨m, hcopy, hcopied⟩ := ih hbefore fun i j hij hj => hto i j hij (Nat.lt_succ_of_lt hj)
    obtain ⟨k, hk, hne⟩ := hsrc n n.lt_succ_self
    have hbyte : Memory.read m k = Memory.read s.cpu8.mem k := hcopied.kept k fun j hj => hne j (Nat.lt_succ_of_lt hj)
    refine ⟨_, ?_, hcopied.succ hk fun i hi => hto i n hi n.lt_succ_self⟩
    rw [hsucc n m hcopy, read8_withMem8 hk, hbyte]
    rfl

end

/-! OAM DMA (R760). -/

theorem oamSource_toNat (page : Byte) {i : Nat} (hi : i < 160) :
    (page ++ BitVec.ofNat 8 i).toNat = page.toNat * 256 + i := by
  rw [toNat_append_byte, BitVec.toNat_ofNat, Nat.mod_eq_of_lt (by omega)]

theorem oamCopy_copied (page : Byte) {s : State} (hm : Memory.wf s.cpu8.mem = true)
    (hsrc : ∀ i, i < 160 → ∃ k, cellOf s (page.toNat * 256 + i) = some k ∧ ¬ (0xFE00 ≤ k ∧ k < 0xFEA0)) :
    ∃ m, oamCopy page 160 s = withMem8 s m ∧
      CopiesTo8 (fun i => page ++ BitVec.ofNat 8 i) (fun i => 0xFE00 + i) s 160 m := by
  refine exists_copied (copy := fun n => oamCopy page n s) rfl (fun n m h => ?_) hm (fun i hi => ?_) (by omega)
  · simp only [oamCopy, h]
  · obtain ⟨k, hk, hout⟩ := hsrc i hi
    exact ⟨k, (congrArg (cellOf s) (oamSource_toNat page hi)).trans hk, by omega⟩

theorem write8_dma (v : Byte) (s : State) :
    write8 0xFF46#16 v s = .next (oamCopy v 160 (on8 (fun c => { c with oamDma := v }) s)) := by
  obtain ⟨-, -, -, -, -, hdma⟩ := io8_plain s.params.colorMode
  exact write8_register hdma v rfl

/-! General-purpose HDMA (R762). -/

theorem append_toNat {m n : Nat} (x : BitVec m) (y : BitVec n) : (x ++ y).toNat = x.toNat * 2 ^ n + y.toNat := by
  rw [BitVec.toNat_append, ← Nat.shiftLeft_add_eq_or_of_lt y.isLt, Nat.shiftLeft_eq]

theorem hdmaSource_toNat (c : Cpu8) (i : Nat) :
    ((c.hdma1 ++ c.hdma2 ++ 0#4 : Half) + BitVec.ofNat 16 i).toNat =
      (c.hdma1.toNat * 256 + c.hdma2.toNat * 16 + i) % 0x10000 := by
  rw [BitVec.toNat_add, append_toNat, append_toNat, BitVec.toNat_ofNat, BitVec.toNat_ofNat]
  omega

theorem hdmaTarget_toNat (c : Cpu8) :
    (0#3 ++ c.hdma3 ++ c.hdma4 ++ 0#4 : Half).toNat = c.hdma3.toNat * 256 + c.hdma4.toNat * 16 := by
  rw [append_toNat, append_toNat, append_toNat, BitVec.toNat_ofNat, BitVec.toNat_ofNat]
  omega

/-- The key of the i-th byte of an HDMA copy: VRAM wraps within its bank. -/
def hdmaKey (dst : Half) (s : State) (i : Nat) : Nat := s.cpu8.vbk.toNat * 0x10000 + 0x8000 + (dst.toNat + i) % 0x2000

theorem hdmaCopy_copied (src dst : Half) {s : State} {n : Nat} (hn : n ≤ 0x2000) (hm : Memory.wf s.cpu8.mem = true)
    (hsrc : ∀ i, i < n → ∃ k, cellOf s (src + BitVec.ofNat 16 i).toNat = some k ∧
      ¬ (s.cpu8.vbk.toNat * 0x10000 + 0x8000 ≤ k ∧ k < s.cpu8.vbk.toNat * 0x10000 + 0x8000 + 0x2000)) :
    ∃ m, hdmaCopy src dst n s = withMem8 s m ∧
      CopiesTo8 (fun i => src + BitVec.ofNat 16 i) (hdmaKey dst s) s n m := by
  refine exists_copied (copy := fun n => hdmaCopy src dst n s) rfl (fun n m h => ?_) hm (fun i hi => ?_)
    (fun i j hij hj => ?_)
  · simp only [hdmaCopy, h, read8_cpu8]
    rfl
  · obtain ⟨k, hk, hout⟩ := hsrc i hi
    refine ⟨k, hk, fun j _ => ?_⟩
    unfold hdmaKey
    omega
  · unfold hdmaKey
    omega

theorem write8_hdma5 {s : State} (hcolor : s.params.colorMode = true) {v : Byte} (hv : v.getLsbD 7 = false) :
    write8 0xFF55#16 v s = .next (charge ((v.toNat % 128 + 1) * (if s.cpu8.doubleSpeed then 64 else 32))
      (hdmaCopy (s.cpu8.hdma1 ++ s.cpu8.hdma2 ++ 0#4) (0#3 ++ s.cpu8.hdma3 ++ s.cpu8.hdma4 ++ 0#4)
        ((v.toNat % 128 + 1) * 16) s)) := by
  obtain ⟨-, -, -, -, -, -, hhdma5, -⟩ := io8_color hcolor
  rw [write8_register hhdma5 v rfl]
  exact if_neg (Bool.eq_false_iff.mp hv)

/-- Settles O17: byte by byte, each source read as it stood before the copy. -/
theorem cpu8Dma : Obligations.Cpu8Dma := by
  refine ⟨fun v s hm hsrc => ?_, fun v s src dst len base hm hcolor hv hs hd hl hb hsrc => ?_⟩
  · obtain ⟨m, hcopy, hcopied⟩ := oamCopy_copied v (s := on8 (fun c => { c with oamDma := v }) s) hm hsrc
    refine ⟨_, write8_dma v s, ?_⟩
    rw [hcopy]
    refine ⟨fun i k hi hk => hcopied.copied i k hi ?_, fun k hk => hcopied.kept k (by omega), rfl⟩
    exact (congrArg (cellOf s) (oamSource_toNat v hi)).trans hk
  · subst hs hd hl hb
    have hkeys : hdmaKey (0#3 ++ s.cpu8.hdma3 ++ s.cpu8.hdma4 ++ 0#4) s = fun i => s.cpu8.vbk.toNat * 0x10000 + 0x8000 +
        (s.cpu8.hdma3.toNat * 256 + s.cpu8.hdma4.toNat * 16 + i) % 0x2000 := by
      funext i
      rw [hdmaKey, hdmaTarget_toNat]
    obtain ⟨m, hcopy, hcopied⟩ := hdmaCopy_copied (s.cpu8.hdma1 ++ s.cpu8.hdma2 ++ 0#4)
      (0#3 ++ s.cpu8.hdma3 ++ s.cpu8.hdma4 ++ 0#4) (n := (v.toNat % 128 + 1) * 16) (by omega) hm fun i hi => by
        rw [hdmaSource_toNat]
        exact hsrc i hi
    rw [hkeys] at hcopied
    refine ⟨_, write8_hdma5 hcolor hv, ?_⟩
    rw [hcopy, Nat.mul_div_cancel _ (by decide)]
    refine ⟨fun i k hi hk => hcopied.copied i k hi ?_, hcopied.kept, rfl⟩
    rw [hdmaSource_toNat]
    exact hk

end Sys2Proof.Proofs
end
